-- ==== Sys2Proof/Word.lean ====
section
/-! DEFINITION. The plain values the whole model uses: bytes, the numbering of clocks, rows and desks
(manual 0.5.5), saturating counters (0.5.6), and one structural map over a fixed bank of records. -/

namespace Sys2Proof

/-- One byte of a link. -/
abbrev Byte := BitVec 8

/-- A clock, and with it the lane and the board of the same number (0.5.5). Index `c` carries number `c + 1`. -/
abbrev ClockId := Fin 4

/-- A row of desks; index `r` carries number `r + 1`. -/
abbrev RowId := Fin 30

/-- A buyer desk; index `d` carries number `d + 1`. -/
abbrev DeskId := Fin 480

/-- The number printed for a clock, row or desk: counted from 1 (0.5.5). -/
def numberOf {n : Nat} (i : Fin n) : Nat := i.val + 1

/-- The clock with a number 1 to 4. -/
def clockNumbered (n : Nat) : Option ClockId :=
  if h : 1 ≤ n ∧ n ≤ 4 then some ⟨n - 1, by omega⟩ else none

/-- The row with a number 1 to 30. -/
def rowNumbered (n : Nat) : Option RowId :=
  if h : 1 ≤ n ∧ n ≤ 30 then some ⟨n - 1, by omega⟩ else none

/-- The desk with a number 1 to 480. -/
def deskNumbered (n : Nat) : Option DeskId :=
  if h : 1 ≤ n ∧ n ≤ 480 then some ⟨n - 1, by omega⟩ else none

/-- The row that holds a desk: row r holds desks 16(r − 1) + 1 to 16r (0.5.5). -/
def rowOfDesk (d : DeskId) : RowId := ⟨d.val / 16, by omega⟩

/-- The place of a desk within its row, 0 to 15. -/
def seatOfDesk (d : DeskId) : Fin 16 := ⟨d.val % 16, by omega⟩

/-- The four clocks in number order. -/
def allClocks : List ClockId := [0, 1, 2, 3]

/-- One more on a counter that saturates at `top` and stays there (0.5.6). -/
def countUp (top n : Nat) : Nat := if n < top then n + 1 else n

/-- The largest value of a 16-bit event counter. -/
def top16 : Nat := 65535

/-- Every cell of a bank replaced by `f` of it, written so that the kernel evaluates it. -/
def mapCells {α β : Type} {n : Nat} (f : α → β) (v : Vector α n) : Vector β n :=
  Vector.ofFn fun i => f (v.get i)

/-- How many cells of a bank of four satisfy `p`. -/
def countCells {α : Type} (p : α → Bool) (v : Vector α 4) : Nat :=
  (allClocks.filter fun c => p (v.get c)).length

end Sys2Proof
end

