-- ==== Sys2Proof/Config.lean ====
section
/-! DEFINITION. What the part fixes for every hall: the capacities and bounds the rules give, and the one
value the manual names without giving (the revision code of IDENTIFY), left free. -/

namespace Sys2Proof.Config

/-- Lot Store slots (1.1). -/
def lotSlots : Nat := 1024
/-- Trains in one lane's queue (R19). -/
def laneTrains : Nat := 8
/-- Trolleys in a train (R20). -/
def trainTrolleys : Nat := 24
/-- Lots on a trolley (R20). -/
def trolleyLots : Nat := 4
/-- Buyer accounts (R126). -/
def buyerAccounts : Nat := 2048
/-- Invoice slots (R159). -/
def invoiceSlots : Nat := 4096
/-- Journal places (8.1). -/
def journalPlaces : Nat := 8192
/-- The last journal sequence number (R149). -/
def lastSequence : Nat := 4294967295
/-- Entries of a collection (R108). -/
def collectionEntries : Nat := 16
/-- Reports the report queue holds (R198). -/
def reportPlaces : Nat := 64
/-- Places of the reply queue (R194). -/
def replyPlaces : Nat := 16
/-- Host ledger requests that may wait (R134). -/
def ledgerWaiting : Nat := 8
/-- Ticks of one clock that may be pending (R91). -/
def ticksPerClock : Nat := 4
/-- The ledger ceiling in milli (0.5.2). -/
def ledgerCeiling : Nat := 999999999999
/-- Start byte of a host frame (R195). -/
def hostStartByte : Byte := 0xA5

/-- Microseconds in a millisecond: the timebase counts microseconds (0.5.3). -/
def ms : Nat := 1000
/-- Microseconds in a second. -/
def sec : Nat := 1000000
/-- The wait for a row's reply (R87). -/
def rowReplyWait : Nat := 2 * ms
/-- The wait for a board's answer (R174). -/
def boardAnswerWait : Nat := 10 * ms
/-- How long the host line may be idle inside a frame (R195). -/
def receiverIdle : Nat := 1 * ms
/-- How long the main supply must stay above threshold (R190). -/
def mainReturnTime : Nat := 200 * ms
/-- The calendar's hundredth of a second (R183). -/
def hundredth : Nat := 10000
/-- Consecutive equal key samples that qualify a position (R189). -/
def keySamples : Nat := 20
/-- Consecutive misses at which a row goes OFFLINE (R90). -/
def rowMissLimit : Nat := 8
/-- Consecutive misses at which a board goes OFFLINE (R175). -/
def boardMissLimit : Nat := 3
/-- Silence after which a board is owed a keep-alive, in ms (R172). -/
def keepAliveTop : Nat := 1000

/-- The one-byte revision code IDENTIFY reports (R200). The manual gives no value, so none can be proved
of it (log entry 1). -/
opaque revisionCode : Byte

end Sys2Proof.Config
end

