-- ==== Sys2Proof/Syntax.lean ====
section
/-! DEFINITION. The commands of the part: `Instr` has one constructor for each row of spec/opcode_table.json.
A host request carries its tag and its fields as the host sent them (unchecked numbers); an event of the hall
or of the part's own timers carries what the part sees of it. -/

namespace Sys2Proof

/-- Quality class of a lot (R1). -/
inductive QualityClass
  | a1 | a2 | b1
  deriving DecidableEq, Repr

/-- What LOT-AMEND says of an optional field: leave it, mark it absent, or give a value (R12). -/
inductive Change (α : Type)
  | keep
  | absent
  | give (value : α)
  deriving DecidableEq, Repr

/-- The host fields of a lot in the order of the table of R1; `quality` is `none` for a code that is none of
A1, A2, B1. -/
structure LotFields where
  number : Nat
  grower : Nat
  product : Nat
  quality : Option QualityClass
  stemLength : Option Nat
  text : Option (List Nat)
  unitsPerPack : Nat
  packsOffered : Nat
  minTake : Nat
  startPrice : Nat
  reservePrice : Nat
  priceStep : Option Nat
  deriving DecidableEq, Repr

/-- The fields of LOT-AMEND: for each host field a new value or none (R12). -/
structure LotAmendment where
  number : Nat
  grower : Option Nat
  product : Option Nat
  quality : Option (Option QualityClass)
  stemLength : Change Nat
  text : Change (List Nat)
  unitsPerPack : Option Nat
  packsOffered : Option Nat
  minTake : Option Nat
  startPrice : Option Nat
  reservePrice : Option Nat
  priceStep : Change Nat
  deriving DecidableEq, Repr

/-- The two forms of LOT-QUERY (R15) and of BUYER-QUERY (R132). -/
inductive Lookup
  | byNumber (n : Nat)
  | nextAfter (n : Nat)
  deriving DecidableEq, Repr

/-- One trolley of an announced manifest (R22). -/
structure TrolleyEntry where
  tag : Nat
  lots : List Nat
  deriving DecidableEq, Repr

/-- TRAIN-ANNOUNCE (R22). -/
structure TrainAnnouncement where
  lane : Nat
  train : Nat
  trolleys : List TrolleyEntry
  deriving DecidableEq, Repr

/-- The two forms of LANE-QUERY (R34, R35). -/
inductive LaneQuery
  | lane (lane : Nat)
  | train (lane train : Nat)
  deriving DecidableEq, Repr

/-- LANE-SET (R33); a field not given is `none`. -/
structure LaneSettings where
  lane : Nat
  count : Option Nat
  gapTime : Option Nat
  deriving DecidableEq, Repr

/-- CLOCK-SET (R59): the parameters of R58 in their order; a parameter not given is `none`. -/
structure ClockSettings where
  clock : Nat
  period : Option Nat
  trim : Option Int
  defaultStep : Option Nat
  preview : Option Nat
  window : Option Nat
  ageLimit : Option Nat
  lift : Option Nat
  pause : Option Nat
  deriving DecidableEq, Repr

/-- The forms of DESK-QUERY (R103); row 0 is the bus form. -/
inductive DeskQuery
  | desk (desk : Nat)
  | row (row : Nat)
  deriving DecidableEq, Repr

/-- BUYER-ENTER (R128). -/
structure BuyerEntry where
  number : Nat
  name : Option (List Nat)
  feeClass : Nat
  limit : Nat
  deriving DecidableEq, Repr

/-- The action of BUYER-FLAGS (R129). -/
inductive FlagAction
  | set | clear | toggle
  deriving DecidableEq, Repr

/-- BLOCKED and PERMIT-1 to PERMIT-4: a selection of flags, or their values (R126, R129). -/
structure BuyerFlags where
  blocked : Bool
  permit : Vector Bool 4
  deriving DecidableEq, Repr

/-- BUYER-FLAGS (R129); `action` is `none` for a code that is none of the three. -/
structure FlagChange where
  number : Nat
  action : Option FlagAction
  flags : BuyerFlags
  deriving DecidableEq, Repr

/-- INVOICE-CLOSE names an invoice or a buyer (R162). -/
inductive InvoiceChoice
  | invoice (n : Nat)
  | buyer (n : Nat)
  deriving DecidableEq, Repr

/-- OPEN or CLOSED (R159). -/
inductive InvoiceState
  | opened | closed
  deriving DecidableEq, Repr

/-- The two forms of INVOICE-QUERY (R164). -/
inductive InvoiceQuery
  | byNumber (n : Nat)
  | nextAfter (n : Nat) (buyer : Option Nat) (state : Option InvoiceState)
  deriving DecidableEq, Repr

/-- A date and time of day to hundredths of a second (R182). -/
structure Stamp where
  year : Nat
  month : Nat
  day : Nat
  hour : Nat
  minute : Nat
  second : Nat
  hundredth : Nat
  deriving DecidableEq, Repr

/-- The close alarm: hour and minute, each with its enable (R182). -/
structure Alarm where
  hour : Nat
  hourOn : Bool
  minute : Nat
  minuteOn : Bool
  deriving DecidableEq, Repr

/-- One enable for each report class (R194). -/
structure ClassEnables where
  sales : Bool
  supply : Bool
  clock : Bool
  equipment : Bool
  hall : Bool
  deriving DecidableEq, Repr

/-- The supervision setting (R194). -/
inductive Supervision
  | off | twoSeconds | eightSeconds
  deriving DecidableEq, Repr

/-- The host requests that wait at the ledger arbiter (R134). -/
inductive LedgerRequest
  | buyerEnter (a : BuyerEntry)
  | buyerFlags (a : FlagChange)
  | buyerLimit (number limit : Nat)
  | buyerRemove (number : Nat)
  | tariffSet (feeClass rate : Nat)
  | saleVoid (sequence : Nat)
  | paymentPost (invoice : Nat)
  | invoiceClose (which : InvoiceChoice)
  | dayClose
  deriving DecidableEq, Repr

/-- A request as it is dispatched (R196), or the request of no known kind or form. -/
inductive Request
  | identify
  | lotEnter (a : LotFields)
  | lotAmend (a : LotAmendment)
  | lotRemove (number : Nat)
  | lotQuery (q : Lookup)
  | trainAnnounce (a : TrainAnnouncement)
  | trainCancel (lane train : Nat)
  | laneQuery (q : LaneQuery)
  | laneSet (a : LaneSettings)
  | clockSet (a : ClockSettings)
  | clockQuery (clock : Nat)
  | clockHold (clock : Nat)
  | clockResume (clock : Nat)
  | clockWithdraw (clock : Nat)
  | clockOpen (clock : Nat)
  | deskQuery (q : DeskQuery)
  | deskRelease (desk : Nat)
  | ledger (r : LedgerRequest)
  | buyerQuery (q : Lookup)
  | invoiceQuery (q : InvoiceQuery)
  | journalRead (start count : Nat)
  | journalRelease (sequence : Nat)
  | boardSet (board period : Nat)
  | boardQuery (board : Nat)
  | hallTimeSet (time : Stamp)
  | hallTimeRead
  | closeAlarmSet (alarm : Alarm)
  | reportTake (count : Nat)
  | reportEnable (enables : ClassEnables)
  | statsRead
  | statsClear
  | linkSet (rate : Nat) (supervision : Option Supervision)
  | controllerReset
  | unknown
  deriving DecidableEq, Repr

/-- The number of a request in the catalogue of 11.2.1; the reply's kind is this number plus 128, and 255
for a request of no known kind (R196). -/
def LedgerRequest.kind : LedgerRequest → Nat
  | .buyerEnter _ => 18
  | .buyerFlags _ => 19
  | .buyerLimit _ _ => 20
  | .buyerRemove _ => 21
  | .tariffSet _ _ => 23
  | .saleVoid _ => 24
  | .paymentPost _ => 25
  | .invoiceClose _ => 26
  | .dayClose => 27

/-- The kind of the reply to a request (R196). -/
def Request.replyKind : Request → Nat
  | .identify => 129
  | .lotEnter _ => 130
  | .lotAmend _ => 131
  | .lotRemove _ => 132
  | .lotQuery _ => 133
  | .trainAnnounce _ => 134
  | .trainCancel _ _ => 135
  | .laneQuery _ => 136
  | .laneSet _ => 137
  | .clockSet _ => 138
  | .clockQuery _ => 139
  | .clockHold _ => 140
  | .clockResume _ => 141
  | .clockWithdraw _ => 142
  | .clockOpen _ => 143
  | .deskQuery _ => 144
  | .deskRelease _ => 145
  | .ledger r => 128 + r.kind
  | .buyerQuery _ => 150
  | .invoiceQuery _ => 156
  | .journalRead _ _ => 157
  | .journalRelease _ => 158
  | .boardSet _ _ => 159
  | .boardQuery _ => 160
  | .hallTimeSet _ => 161
  | .hallTimeRead => 162
  | .closeAlarmSet _ => 163
  | .reportTake _ => 164
  | .reportEnable _ => 165
  | .statsRead => 166
  | .statsClear => 167
  | .linkSet _ _ => 168
  | .controllerReset => 169
  | .unknown => 255

/-- The request that a body carries under a kind of the catalogue, none where its length does not fit the request's form
(R196). The manual gives no layout of the request bodies (11.8), so nothing can be proved of it (log entry 48). -/
opaque Config.requestBody : Nat → List Byte → Option Request

/-- An event of a row's reply, its fields as they stand on the wire (11.8.3). -/
inductive DeskEvent
  | press (desk clock run tag offset packs : Nat)
  | signOn (desk buyer : Nat)
  | signOff (desk : Nat)
  deriving DecidableEq, Repr

/-- A complete row reply whose framing and check are correct (R88). -/
structure RowReply where
  row : Nat
  batch : Nat
  events : List DeskEvent
  deriving DecidableEq, Repr

/-- A byte of the host line as the receiver takes it, with or without a stop-bit error (R195). -/
structure LineByte where
  value : Byte
  stopError : Bool
  deriving DecidableEq, Repr

/-- Why a host frame failed (R195): its CRC, with the bytes received from the start byte on; a stop-bit error in one of
its bytes; or its length field. -/
inductive FrameFault
  | checkFailed (frame : List Byte)
  | stopBitError
  | oversizeLength (length : Nat)
  deriving DecidableEq, Repr

/-- The key switch positions (R182). -/
inductive KeyPosition
  | locked | sale | setup
  deriving DecidableEq, Repr

/-- The backup supply (R182); as an operand, what one reading of its monitor gives. -/
inductive BackupSupply
  | ok | low
  deriving DecidableEq, Repr

/-- The commands and events of the part, one constructor for each row of the table. -/
inductive Instr
  | identify (tag : Byte)
  | lotEnter (tag : Byte) (a : LotFields)
  | lotAmend (tag : Byte) (a : LotAmendment)
  | lotRemove (tag : Byte) (number : Nat)
  | lotQuery (tag : Byte) (q : Lookup)
  | trainAnnounce (tag : Byte) (a : TrainAnnouncement)
  | trainCancel (tag : Byte) (lane train : Nat)
  | laneQuery (tag : Byte) (q : LaneQuery)
  | laneSet (tag : Byte) (a : LaneSettings)
  | clockSet (tag : Byte) (a : ClockSettings)
  | clockQuery (tag : Byte) (clock : Nat)
  | clockHold (tag : Byte) (clock : Nat)
  | clockResume (tag : Byte) (clock : Nat)
  | clockWithdraw (tag : Byte) (clock : Nat)
  | clockOpen (tag : Byte) (clock : Nat)
  | deskQuery (tag : Byte) (q : DeskQuery)
  | deskRelease (tag : Byte) (desk : Nat)
  | buyerEnter (tag : Byte) (a : BuyerEntry)
  | buyerFlags (tag : Byte) (a : FlagChange)
  | buyerLimit (tag : Byte) (number limit : Nat)
  | buyerRemove (tag : Byte) (number : Nat)
  | buyerQuery (tag : Byte) (q : Lookup)
  | tariffSet (tag : Byte) (feeClass rate : Nat)
  | saleVoid (tag : Byte) (sequence : Nat)
  | paymentPost (tag : Byte) (invoice : Nat)
  | invoiceClose (tag : Byte) (which : InvoiceChoice)
  | dayClose (tag : Byte)
  | invoiceQuery (tag : Byte) (q : InvoiceQuery)
  | journalRead (tag : Byte) (start count : Nat)
  | journalRelease (tag : Byte) (sequence : Nat)
  | boardSet (tag : Byte) (board period : Nat)
  | boardQuery (tag : Byte) (board : Nat)
  | hallTimeSet (tag : Byte) (time : Stamp)
  | hallTimeRead (tag : Byte)
  | closeAlarmSet (tag : Byte) (alarm : Alarm)
  | reportTake (tag : Byte) (count : Nat)
  | reportEnable (tag : Byte) (enables : ClassEnables)
  | statsRead (tag : Byte)
  | statsClear (tag : Byte)
  | linkSet (tag : Byte) (rate : Nat) (supervision : Option Supervision)
  | controllerReset (tag : Byte)
  | unknownRequest (tag : Byte)
  | frameOverrun
  | frameBad (why : FrameFault)
  | receiverIdleTimeout
  /-- `backup` is the reading of the backup monitor at that moment; it is taken only when the byte ends the
  reply of a CONTROLLER-RESET, whose start reads the monitor (R192, R202). -/
  | replySent (backup : BackupSupply)
  | supervisionExpiry
  | ledgerOperationComplete
  | saleCommitComplete
  | saleVoidComplete
  | takeLot (c : ClockId)
  | previewExpiry (c : ClockId)
  | stepTimerExpiry (c : ClockId)
  | windowExpiry (c : ClockId)
  | pauseExpiry (c : ClockId)
  | gateQualifiedChange (lane : ClockId)
  | gapExpiry (lane : ClockId)
  | tickSent
  | pollSent
  | rowReplyGood (reply : RowReply)
  | rowReplyBad
  /-- `partial_` says whether part of a reply is on the line as the 2 ms end (R89); unless said, the line is silent. -/
  | rowReplyTimeout (partial_ : Bool := false)
  | refreshWindow (b : ClockId)
  | boardTransmitEnd (b : ClockId)
  /-- `number` is the frame number the answer carries (9.1). -/
  | boardAnswerGood (b : ClockId) (number : Nat)
  | boardAnswerBad (b : ClockId)
  | boardAnswerTimeout (b : ClockId)
  | calendarAdvance
  | keyQualifiedChange (position : KeyPosition)
  | mainSupplyFail
  | mainSupplyAboveThreshold
  /-- `backup` is the one reading of the backup monitor that the start takes (R192). -/
  | mainSupplyReturn (backup : BackupSupply)
  /-- `backup` is the one reading of the backup monitor that the start takes (R192). -/
  | powerOn (backup : BackupSupply)
  | backupChange (reading : BackupSupply)
  /-- `blocked` is the sample: contact closed reads BLOCKED (R25). -/
  | gateSample (lane : ClockId) (blocked : Bool)
  /-- The two key contacts as sampled, closed or open (R189). -/
  | keySample (saleClosed setupClosed : Bool)
  | mainSupplyBelowThreshold
  /-- `bytes` holds the bytes the host line delivers at this moment, oldest first (R194, R195); unless given, one start
  byte alone. -/
  | startByteReceived (bytes : List LineByte := [{ value := Config.hostStartByte, stopError := false }])
  | deskBusLineIdle
  deriving DecidableEq, Repr

end Sys2Proof
end

