-- ==== Sys2Proof/Decode.lean ====
section
/-! DEFINITION. The command a word of the table's bits spells. No row of the table gives bits: a command of this part
is a record of 11.8 or an event of the hall, so no word spells one. The records themselves are read and written in
Machine/Wire.lean. -/

namespace Sys2Proof

/-- The command spelt by the bits of a table row: none, since no row gives bits. -/
def decodeTableWord (_nbits _w : Nat) : Option Instr := none

end Sys2Proof
end

