-- ==== Sys2Proof/Machine/State.lean ====
section
/-! DEFINITION. The state of the part, block by block as the table of 0.3 divides it, the reports and replies it
holds, the start values of every block, and `State.reset`: the part right after a cold start. A running timer is
held as the time of the part's timebase at which it expires (R57 and 0.5.3; log entry 2). -/

namespace Sys2Proof.Machine

/-! ## Lots and lanes -/

/-- The eight lot states (R3). -/
inductive LotState
  | entered | queued | ready | onClock | soldOut | done | unsold | missing
  deriving DecidableEq, Repr

/-- The manifest place that holds a lot (R7): trolley and place are counted from 1. -/
structure LanePosition where
  lane : ClockId
  train : Nat
  trolley : Nat
  place : Nat
  deriving DecidableEq, Repr

/-- A lot record (R1). -/
structure Lot where
  number : Nat
  grower : Nat
  product : Nat
  quality : QualityClass
  stemLength : Option Nat
  text : Option (List Nat)
  unitsPerPack : Nat
  packsOffered : Nat
  packsSold : Nat
  packsRemaining : Nat
  minTake : Nat
  startPrice : Nat
  reservePrice : Nat
  priceStep : Option Nat
  state : LotState
  position : Option LanePosition
  deriving DecidableEq, Repr

/-- The states of a train (R20). -/
inductive TrainState
  | announced | arriving | arrived | short
  deriving DecidableEq, Repr

/-- A trolley of a manifest; a vacant place is `none` (R20). -/
structure Trolley where
  tag : Nat
  counted : Bool
  places : List (Option Nat)
  deriving DecidableEq, Repr

/-- A train record (R20). -/
structure Train where
  number : Nat
  state : TrainState
  trolleys : List Trolley
  deriving DecidableEq, Repr

/-- The state of a lane (R19). `blocked` is the gate qualified state, `gapEnds` the running gap timer. -/
structure Lane where
  trains : List Train
  count : Nat
  gapTime : Nat
  blocked : Bool
  counter : Nat
  passageOpen : Bool
  gapEnds : Option Nat
  strays : Nat
  deriving DecidableEq, Repr

/-! ## Clocks -/

/-- What a LOADED clock waits to begin (R57). -/
inductive LoadKind
  | new | restart
  deriving DecidableEq, Repr

/-- The clock states, LOADED with its load kind (R57). -/
inductive ClockState
  | idle
  | loaded (kind : LoadKind)
  | running | stopping | deciding | sold | held | closed
  deriving DecidableEq, Repr

/-- The hold causes (R72, R80). -/
inductive HoldCause
  | holdRequest | key | board | timeNotSet
  deriving DecidableEq, Repr

/-- The step timer: stopped, halted with a time to expiry in µs, or running to a time of the timebase (R57). -/
inductive StepTimer
  | stopped
  | halted (left : Nat)
  | running (ends : Nat)
  deriving DecidableEq, Repr

/-- The eight clock parameters (R58), in µs, milli, ms, units of 250 µs and steps as there. -/
structure ClockParams where
  period : Nat
  trim : Int
  defaultStep : Nat
  preview : Nat
  window : Nat
  ageLimit : Nat
  lift : Nat
  pause : Nat
  deriving DecidableEq, Repr

/-- An entry of a collection (R108). -/
structure Press where
  desk : DeskId
  packs : Nat
  offset : Nat
  step : Nat
  arrival : Nat
  deriving DecidableEq, Repr

/-- The state of a clock (R57). `holdPending` keeps the cause that set it (R73). -/
structure Clock where
  state : ClockState
  lot : Option Nat
  run : Nat
  k : Nat
  startPrice : Option Nat
  lastSalePrice : Option Nat
  stepTimer : StepTimer
  previewEnds : Option Nat
  pauseEnds : Option Nat
  windowEnds : Option Nat
  collection : List Press
  holdPending : Option HoldCause
  closing : Bool
  reservation : Bool
  asked : Bool
  params : ClockParams
  deriving DecidableEq, Repr

/-! ## Desks and the desk bus -/

/-- Why a press or a sign-on was refused at its desk (R96, R98, R111, R116). -/
inductive DeskRefusal
  | idleClock | late | duplicate | outbid | notSigned | blocked | notPermitted | invoiceFull | credit
  deriving DecidableEq, Repr

/-- The last refusal of a desk: the reason, and the clock with its lot where it concerned a press (R86). -/
structure LastRefusal where
  reason : DeskRefusal
  clock : Option ClockId
  lot : Option Nat
  deriving DecidableEq, Repr

/-- The phases of a lamp (R86). -/
inductive LampPhase
  | idle | on | gap
  deriving DecidableEq, Repr

/-- A desk lamp (R86). -/
structure Lamp where
  phase : LampPhase
  visits : Nat
  queued : Nat
  deriving DecidableEq, Repr

/-- The state of a desk (R86). -/
structure Desk where
  binding : Option Nat
  win : Lamp
  refused : Lamp
  lastRefusal : Option LastRefusal
  deriving DecidableEq, Repr

/-- The state of a row with its sixteen desks (R86). -/
structure Row where
  online : Bool
  misses : Nat
  lastBatch : Nat
  framesGood : Nat
  framesBad : Nat
  pressesLate : Nat
  pressesRefused : Nat
  missCount : Nat
  desks : Vector Desk 16
  deriving DecidableEq, Repr

/-- A pending tick (R86, R91). -/
structure Tick where
  clock : ClockId
  run : Nat
  tag : Nat
  deriving DecidableEq, Repr

/-- A poll: its row, the acknowledgement, and the WIN and REFUSED commands of the row's desks in desk
order (R87). -/
structure Poll where
  row : RowId
  ack : Nat
  lamps : List (Bool × Bool)
  deriving DecidableEq, Repr

/-- Bus activity (R86); while a reply is awaited, the poll it answers and the end of the 2 ms wait (R87). -/
inductive BusActivity
  | idle
  | sending
  | awaiting (poll : Poll) (ends : Nat)
  deriving DecidableEq, Repr

/-- The state of the Desk Bus Controller (R86). `poll` is the poll that has been built and is on its way, during which
the activity still reads IDLE (R92, R102; log entry 5). `lineHeld` is set when a wait runs out with part of a reply on
the line, until the line has fallen idle (R89; log entry 35). -/
structure DeskBus where
  rows : Vector Row 30
  ticks : List Tick
  nextRow : RowId
  activity : BusActivity
  poll : Option Poll
  lineHeld : Bool
  ticksSent : Nat
  ticksDropped : Nat
  nextArrival : Nat
  deriving DecidableEq, Repr

/-! ## Settlement Unit -/

/-- A buyer account (R126). -/
structure Buyer where
  number : Nat
  name : Option (List Nat)
  feeClass : Nat
  limit : Nat
  committed : Nat
  flags : BuyerFlags
  openInvoice : Option Nat
  boundDesks : Nat
  deriving DecidableEq, Repr

/-- An invoice record (R159). -/
structure Invoice where
  number : Nat
  buyer : Nat
  state : InvoiceState
  lineCount : Nat
  firstLine : Nat
  lastLine : Nat
  goods : Nat
  levies : Nat
  debits : Nat
  residue : Option Nat
  total : Option Nat
  deriving DecidableEq, Repr

/-- The kinds of journal line (R148). -/
inductive LineKind
  | sale | void | noSale
  deriving DecidableEq, Repr

/-- Why a NO_SALE line was written (R148). -/
inductive NoSaleCause
  | reserve | withdrawn
  deriving DecidableEq, Repr

/-- A journal line (R148); a field not present in the line's kind is `none`. -/
structure JournalLine where
  sequence : Nat
  kind : LineKind
  stamp : Stamp
  stampValid : Bool
  clock : ClockId
  lot : Nat
  run : Nat
  buyer : Option Nat
  desk : Option DeskId
  invoice : Option Nat
  voidedSequence : Option Nat
  voided : Bool
  cause : Option NoSaleCause
  packs : Nat
  unitsPerPack : Nat
  price : Nat
  amount : Nat
  levy : Nat
  debit : Nat
  deriving DecidableEq, Repr

/-- The sale journal (R146): unreleased lines in sequence order, the lot marks, the clocks whose reservation
request is deferred. The reservations held are the clocks' own (`Clock.reservation`). -/
structure Journal where
  lines : List JournalLine
  lastWritten : Nat
  lastReleased : Nat
  lotMark : Vector (Option Nat) 4
  deferred : List ClockId
  deriving DecidableEq, Repr

/-- A SALE-COMMIT as its clock places it (R114). -/
structure CommitRequest where
  lot : Nat
  desk : DeskId
  packs : Nat
  step : Nat
  deriving DecidableEq, Repr

/-- The figures a CREDIT refusal hands the clock (R117, R138): `quantity` is q of R49. -/
structure CreditFigures where
  buyer : Nat
  price : Nat
  quantity : Nat
  minTakeDebit : Nat
  available : Nat
  deriving DecidableEq, Repr

/-- Why SALE-COMMIT refuses a candidate (R138). -/
inductive CommitRefusal
  | notSigned | blocked | notPermitted | invoiceFull
  | credit (f : CreditFigures)
  deriving DecidableEq, Repr

/-- The figures of an accepted sale, fixed when its commit is served (R137, R139): `quantity` is q of R49 and
`packs` q′ of R53. -/
structure SaleFigures where
  buyer : Nat
  price : Nat
  units : Nat
  quantity : Nat
  packs : Nat
  amount : Nat
  levy : Nat
  debit : Nat
  deriving DecidableEq, Repr

/-- What a served SALE-COMMIT will answer at its completion (R138). -/
inductive CommitAnswer
  | accepted (f : SaleFigures)
  | refused (r : CommitRefusal)
  deriving DecidableEq, Repr

/-- The last-sale record of a clock (R140). -/
structure LastSale where
  lot : Nat
  buyer : Nat
  desk : DeskId
  packs : Nat
  price : Nat
  sequence : Nat
  deriving DecidableEq, Repr

/-- The eight counters of the Settlement Unit (R142). -/
structure LedgerCounters where
  accepted : Nat
  cut : Nat
  notSigned : Nat
  blocked : Nat
  notPermitted : Nat
  invoiceFull : Nat
  credit : Nat
  busy : Nat
  deriving DecidableEq, Repr

/-! ## Hall Services -/

/-- A calendar snapshot, which carries the time-set flag (R183). -/
structure Snapshot where
  stamp : Stamp
  timeSet : Bool
  deriving DecidableEq, Repr

/-- The main supply (R182). -/
inductive MainSupply
  | present | failed
  deriving DecidableEq, Repr

/-- The last start kind (R182). -/
inductive StartKind
  | cold | warmSupply | warmReset
  deriving DecidableEq, Repr

/-- The state of Hall Services (R182), with the time of the calendar's next advance (R183) and, while the main
supply is FAILED and reads above threshold, the end of its 200 ms qualification (R190). -/
structure Hall where
  calendar : Stamp
  nextAdvance : Nat
  timeSet : Bool
  alarm : Alarm
  keyRaw : KeyPosition
  keyCounter : Nat
  key : KeyPosition
  main : MainSupply
  mainReturns : Option Nat
  backup : BackupSupply
  backupFlag : Bool
  retainedValid : Bool
  failStamp : Option Snapshot
  lastStart : StartKind
  deriving DecidableEq, Repr

/-! ## Reports -/

/-- The end states a lot takes when its clock ends it, and the cause in LOT_DONE (R80). -/
inductive LotEndCause
  | reserve | sold | withdrawn
  deriving DecidableEq, Repr

/-- The cause in a CLOCK report (R80). -/
inductive ClockCause
  | hold (cause : HoldCause)
  | close
  | lotEnd
  | open_
  deriving DecidableEq, Repr

/-- What the clock does after an accepted sale (R119). -/
inductive NextStep
  | restart | lotEnd
  deriving DecidableEq, Repr

/-- The body of a SALE report (R119). -/
structure SaleReport where
  clock : ClockId
  lot : Nat
  run : Nat
  sequence : Nat
  buyer : Nat
  desk : DeskId
  step : Nat
  price : Nat
  requested : Nat
  packs : Nat
  amount : Nat
  levy : Nat
  debit : Nat
  remaining : Nat
  next : NextStep
  deriving DecidableEq, Repr

/-- The body of a CREDIT_REFUSED report (R117). -/
structure CreditReport where
  clock : ClockId
  lot : Nat
  run : Nat
  desk : DeskId
  buyer : Nat
  step : Nat
  price : Nat
  requested : Nat
  quantity : Nat
  minTakeDebit : Nat
  available : Nat
  deriving DecidableEq, Repr

/-- LINKED or HOST-LOST (R194). -/
inductive LinkState
  | linked | hostLost
  deriving DecidableEq, Repr

/-- The reports and their bodies (R199). -/
inductive ReportBody
  | sale (r : SaleReport)
  | lotDone (clock : ClockId) (lot : Nat) (endState : LotState) (packsSold remaining : Nat) (cause : LotEndCause)
  | creditRefused (r : CreditReport)
  | trainArrived (lane : ClockId) (train trolleys : Nat)
  | short (lane : ClockId) (train counted uncounted lots : Nat) (tag : Option Nat)
  | stray (lane : ClockId) (strays : Nat)
  | trainDone (lane : ClockId) (train soldOut done unsold missing vacant : Nat)
  | clock (clock : ClockId) (state : ClockState) (cause : ClockCause) (lot : Option Nat) (run k : Nat)
  | row (row : RowId) (online : Bool) (missCount : Nat)
  | board (board : ClockId) (online : Bool) (missCount : Nat)
  | key (old new : KeyPosition) (at_ : Stamp)
  | tradingClose (at_ : Stamp) (alarm : Alarm)
  | mainFail (failed : Option Snapshot) (returned : Stamp) (timeSet : Bool)
  | backupLow (backup : BackupSupply)
  | hostLost (link : LinkState)
  deriving DecidableEq, Repr

/-- The report classes (R199). -/
inductive ReportClass
  | sales | supply | clock | equipment | hall
  deriving DecidableEq, Repr

/-- A report: its number, the calendar snapshot with its time-set flag, and its body (R198). -/
structure Report where
  number : Nat
  stamp : Stamp
  timeSet : Bool
  body : ReportBody
  deriving DecidableEq, Repr

/-! ## Display frames -/

/-- The last-sale part of a display frame (R170). -/
structure ShownSale where
  lot : Nat
  buyer : Nat
  packs : Nat
  price : Nat
  deriving DecidableEq, Repr

/-- The lot part of a display frame (R170). -/
structure ShownLot where
  number : Nat
  grower : Nat
  product : Nat
  quality : QualityClass
  unitsPerPack : Nat
  stemLength : Option Nat
  text : Option (List Nat)
  packsRemaining : Nat
  minTake : Nat
  deriving DecidableEq, Repr

/-- The fields of a display frame (R170). -/
structure Picture where
  board : ClockId
  state : ClockState
  lot : Option ShownLot
  price : Option Nat
  dial : Option Nat
  lastSale : Option ShownSale
  deriving DecidableEq, Repr

/-- What a board link carries: a numbered display frame or a numbered probe (R169, R176). -/
inductive BoardFrame
  | display (number : Nat) (picture : Picture)
  | probe (number : Nat)
  deriving DecidableEq, Repr

/-- Link activity, with the frame being sent or awaited and the end of the answer wait (R168, R174). -/
inductive BoardActivity
  | idle
  | sending (frame : BoardFrame)
  | awaiting (frame : BoardFrame) (ends : Nat)
  deriving DecidableEq, Repr

/-- The state of a Board Driver (R168). `windowAt` is the next refresh window, `builtAt` the time at which
keep-alive time was last 0. -/
structure Board where
  online : Bool
  activity : BoardActivity
  period : Nat
  windowAt : Nat
  updatePending : Bool
  snapshotChanged : Bool
  builtAt : Nat
  frameNumber : Nat
  misses : Nat
  framesSent : Nat
  missCount : Nat
  badAnswers : Nat
  deriving DecidableEq, Repr

/-! ## Replies -/

/-- The reply statuses (R196). -/
inductive Status
  | ok | unknownRequest | badField | notFound | exists_ | full | state | busy | key | belowCommitted
  | journalFull | timeNotSet
  deriving DecidableEq, Repr

/-- The capacities IDENTIFY reports (R200). -/
structure Capacities where
  lots : Nat
  lanes : Nat
  trainsPerLane : Nat
  trolleysPerTrain : Nat
  lotsPerTrolley : Nat
  clocks : Nat
  rows : Nat
  desks : Nat
  buyers : Nat
  feeClasses : Nat
  invoices : Nat
  journalLines : Nat
  reports : Nat
  deriving DecidableEq, Repr

/-- What IDENTIFY answers (R200). -/
structure Identity where
  name : String
  revision : Byte
  capacities : Capacities
  linkRate : Nat
  supervision : Supervision
  lastStart : StartKind
  deriving DecidableEq, Repr

/-- A train as the lane form of LANE-QUERY lists it (R34). -/
structure TrainSummary where
  number : Nat
  state : TrainState
  trolleys : Nat
  counted : Nat
  deriving DecidableEq, Repr

/-- The lane form of LANE-QUERY (R34). -/
structure LanePicture where
  count : Nat
  gapTime : Nat
  blocked : Bool
  counter : Nat
  passageOpen : Bool
  gapLeft : Option Nat
  strays : Nat
  trains : List TrainSummary
  candidate : Option (Nat × LotState)
  deriving DecidableEq, Repr

/-- A trolley as the train form of LANE-QUERY shows it; a place is a lot with its state, or vacant (R35). -/
structure TrolleyPicture where
  tag : Nat
  counted : Bool
  places : List (Option (Nat × Option LotState))
  deriving DecidableEq, Repr

/-- The train form of LANE-QUERY (R35). -/
structure TrainPicture where
  state : TrainState
  trolleys : List TrolleyPicture
  deriving DecidableEq, Repr

/-- One clock's outcome of a clock request; a withdrawal carries the lot and its end state (R60, R76). -/
structure ClockOutcome where
  status : Status
  ended : Option (Nat × LotState)
  deriving DecidableEq, Repr

/-- The present truth of each start condition (R63, R82). -/
structure StartConditions where
  keyInSale : Bool
  boardOnline : Bool
  timeSet : Bool
  reservation : Bool
  hostLinked : Bool
  deriving DecidableEq, Repr

/-- The picture CLOCK-QUERY gives of a clock (R82); times to expiry in µs. -/
structure ClockPicture where
  state : ClockState
  lot : Option Nat
  run : Option Nat
  k : Option Nat
  startPrice : Option Nat
  stepSize : Option Nat
  price : Option Nat
  reservation : Nat
  asked : Bool
  holdPending : Bool
  closing : Bool
  conditions : StartConditions
  previewLeft : Option Nat
  pauseLeft : Option Nat
  stepLeft : Option Nat
  windowLeft : Option Nat
  presses : Nat
  params : ClockParams
  deriving DecidableEq, Repr

/-- The row form of DESK-QUERY (R103). -/
structure RowPicture where
  online : Bool
  misses : Nat
  lastBatch : Nat
  framesGood : Nat
  framesBad : Nat
  pressesLate : Nat
  pressesRefused : Nat
  missCount : Nat
  bindings : List (Option Nat)
  deriving DecidableEq, Repr

/-- Bus activity as DESK-QUERY reports it (R86). -/
inductive BusActivityName
  | idle | sending | awaiting
  deriving DecidableEq, Repr

/-- The bus form of DESK-QUERY (R103). -/
structure BusPicture where
  pending : Vector Nat 4
  nextRow : RowId
  activity : BusActivityName
  ticksSent : Nat
  ticksDropped : Nat
  deriving DecidableEq, Repr

/-- What SALE-VOID answers when accepted (R157). -/
structure VoidAnswer where
  sequence : Nat
  buyer : Nat
  invoice : Nat
  packs : Nat
  debit : Nat
  committed : Nat
  available : Nat
  invoiceDebits : Nat
  packsSold : Nat
  packsRemaining : Nat
  deriving DecidableEq, Repr

/-- What INVOICE-CLOSE answers when accepted (R162). -/
structure CloseAnswer where
  invoice : Nat
  buyer : Nat
  lineCount : Nat
  goods : Nat
  levies : Nat
  debits : Nat
  total : Nat
  residue : Nat
  committed : Nat
  deriving DecidableEq, Repr

/-- The figures every INVOICE-QUERY reply carries (R164). -/
structure InvoiceFigures where
  openCount : Nat
  closedCount : Nat
  nextNumber : Nat
  deriving DecidableEq, Repr

/-- The figures every JOURNAL-READ reply carries (R154). -/
structure JournalFigures where
  lastReleased : Nat
  lastWritten : Nat
  reservations : Nat
  free : Nat
  lotMark : Vector (Option Nat) 4
  deriving DecidableEq, Repr

/-- The picture BOARD-QUERY gives of a board (R178); times in ms, that of the answer wait by choice (log entry 44). -/
structure BoardPicture where
  online : Bool
  activity : BusActivityName
  period : Nat
  windowLeft : Nat
  updatePending : Bool
  snapshotChanged : Bool
  keepAlive : Nat
  frameNumber : Nat
  answerLeft : Option Nat
  misses : Nat
  missCount : Nat
  framesSent : Nat
  badAnswers : Nat
  picture : Picture
  deriving DecidableEq, Repr

/-- What HALL-TIME-READ answers (R186). -/
structure HallPicture where
  calendar : Stamp
  timeSet : Bool
  alarm : Alarm
  key : KeyPosition
  main : MainSupply
  backup : BackupSupply
  backupFlag : Bool
  retainedValid : Bool
  lastStart : StartKind
  failStamp : Option Snapshot
  deriving DecidableEq, Repr

/-- The five counters of a row (R104). -/
structure RowCounters where
  framesGood : Nat
  framesBad : Nat
  pressesLate : Nat
  pressesRefused : Nat
  missCount : Nat
  deriving DecidableEq, Repr

/-- The three counters of a board (R179). -/
structure BoardCounters where
  missCount : Nat
  framesSent : Nat
  badAnswers : Nat
  deriving DecidableEq, Repr

/-- Every event counter of the part (R200). -/
structure Stats where
  strays : Vector Nat 4
  rows : Vector RowCounters 30
  ticksSent : Nat
  ticksDropped : Nat
  boards : Vector BoardCounters 4
  ledger : LedgerCounters
  framesGood : Nat
  framesBad : Nat
  overruns : Nat
  deriving DecidableEq, Repr

/-- The fields of a reply after its status, by the rule of its request. -/
inductive ReplyBody
  | empty
  /-- The position of the first field at fault, counted from 1 (R196). -/
  | field (position : Nat)
  | identity (i : Identity)
  | occupied (slots : Nat)
  | lot (record : Option Lot) (slots : Nat)
  | lotAtFault (lot : Nat)
  | trains (n : Nat)
  | lane (p : LanePicture)
  | train (p : TrainPicture)
  | clockOutcomes (l : List ClockOutcome)
  | clocks (l : List ClockPicture)
  | desk (d : Desk)
  | row (p : RowPicture)
  | bus (p : BusPicture)
  | released (buyer : Option Nat)
  | accounts (n : Nat)
  | flags (f : BuyerFlags)
  | limit (limit committed available : Nat)
  | committed (n : Nat)
  | buyer (account : Option (Buyer × Nat × Nat)) (accounts : Nat)
  | voided (a : VoidAnswer)
  | paid (buyer total committed available : Nat)
  | invoiceClosed (a : CloseAnswer)
  | dayClosed (invoices totals residues : Nat)
  | clockAtFault (c : ClockId)
  | invoice (record : Option Invoice) (figures : InvoiceFigures)
  /-- A BAD_FIELD reply of INVOICE-QUERY: the position, and the figures of every reply (R164, R196). -/
  | invoiceField (position : Nat) (figures : InvoiceFigures)
  | journal (lines : List JournalLine) (figures : JournalFigures)
  /-- A BAD_FIELD reply of JOURNAL-READ: the position, and the figures of every reply (R154, R196). -/
  | journalField (position : Nat) (figures : JournalFigures)
  | linesFreed (lines lastReleased free : Nat)
  | boards (l : List BoardPicture)
  | timeChanged (old : Stamp) (oldSet : Bool) (new : Stamp)
  | hall (p : HallPicture)
  | alarm (a : Alarm)
  | reports (lost left : Nat) (taken : List Report)
  | enables (e : ClassEnables)
  | stats (s : Stats)
  deriving DecidableEq, Repr

/-- What the end of a reply's last byte brings with it (R201, R202). -/
inductive AfterReply
  | nothing
  | newRate (rate : Nat)
  | warmStart
  deriving DecidableEq, Repr

/-- A completed reply waiting to be sent (R196). -/
structure Reply where
  tag : Byte
  kind : Nat
  status : Status
  body : ReplyBody
  after : AfterReply
  deriving DecidableEq, Repr

/-! ## The ledger and the host link -/

/-- What a served host ledger request will do at its completion: its refusal, or its changes (R134). -/
inductive Service
  | refuse (status : Status) (body : ReplyBody)
  | go
  deriving DecidableEq, Repr

/-- The ledger operation in progress, with what it read when it was served (R134, R136). For a SALE-VOID `line` is
the clock its line names (R75, R156). -/
inductive Operation
  | commit (c : ClockId) (r : CommitRequest) (a : CommitAnswer)
  | host (tag : Byte) (r : LedgerRequest) (line : Option ClockId) (v : Service)
  deriving DecidableEq, Repr

/-- The ledger arbiter (R134). -/
structure Arbiter where
  inProgress : Option Operation
  commits : Vector (Option CommitRequest) 4
  requests : List (Byte × LedgerRequest)
  lastServed : ClockId
  deriving DecidableEq, Repr

/-- The Settlement Unit: buyer table and invoice table in ascending number, tariff table, journal, arbiter,
last-sale records and counters (0.3, R126, R133, R134, R140, R142, R146, R159, R160). -/
structure Ledger where
  buyers : List Buyer
  tariff : Vector Nat 8
  invoices : List Invoice
  nextInvoice : Nat
  journal : Journal
  arbiter : Arbiter
  lastSale : Vector (Option LastSale) 4
  counters : LedgerCounters
  deriving DecidableEq, Repr

/-- The receiver of the host link (R195): the bytes of the partial frame, the start byte first, whether a stop-bit error
has spoiled it, and the time at which an idle line abandons it, 1 ms after the last of them. -/
inductive Receiver
  | hunting
  | receiving (bytes : List Byte) (spoiled : Bool) (idleAt : Nat)
  deriving DecidableEq, Repr

/-- How far a CONTROLLER-RESET has come (R202): waiting for the operation in progress, or its reply placed. -/
inductive ResetPhase
  | waiting (tag : Byte)
  | replying
  deriving DecidableEq, Repr

/-- The state of the Host Link Port (R194). `linkRate` is the stored rate and `activeRate` the rate on the line,
which differ until a LINK-SET reply has been sent (R201). -/
structure HostLink where
  linkRate : Nat
  activeRate : Nat
  supervision : Supervision
  link : LinkState
  supervisionEnds : Option Nat
  receiver : Receiver
  held : Option (Byte × Request)
  replies : List Reply
  resetting : Option ResetPhase
  reports : List Report
  reportNumber : Nat
  lostCount : Nat
  enables : ClassEnables
  attention : Bool
  framesGood : Nat
  framesBad : Nat
  overruns : Nat
  deriving DecidableEq, Repr

/-- The state of the part: the commands that wait, first in first out, the time of the part's 1 µs timebase
(0.5.3), and the blocks of 0.3. `lots` is the Lot Store in ascending lot number (1.1). -/
structure State where
  pending : List Instr
  timebase : Nat
  hlp : HostLink
  lots : List Lot
  lanes : Vector Lane 4
  clocks : Vector Clock 4
  bus : DeskBus
  ledger : Ledger
  boards : Vector Board 4
  hall : Hall
  deriving DecidableEq, Repr

/-- Why the part would stop with a fault. The manual gives every command and event an outcome in every state, so
no rule raises a fault and the type has no value: safe, since nothing can be claimed of a fault. -/
inductive Fault : Type
  deriving DecidableEq, Repr

/-- Why the model has no meaning for a command. -/
inductive Refusal
  /-- Raised by `exec` alone, for a row whose meaning is not written yet. Safe: the model stops and claims
  nothing. No arm raises it now. -/
  | notModelled (mnemonic : String)
  deriving DecidableEq, Repr

/-! ## Start values -/

/-- Lane settings and volatile lane state at every start (R19, R38). -/
def Lane.atStart : Lane :=
  { trains := [], count := 5, gapTime := 20, blocked := false, counter := 0, passageOpen := false,
    gapEnds := none, strays := 0 }

/-- The defaults of the clock parameters (R58). -/
def ClockParams.default : ClockParams :=
  { period := 40000, trim := 0, defaultStep := 10, preview := 1500, window := 24, ageLimit := 2, lift := 0,
    pause := 800 }

/-- A clock after a cold start (R83). -/
def Clock.atStart : Clock :=
  { state := .idle, lot := none, run := 0, k := 0, startPrice := none, lastSalePrice := none,
    stepTimer := .stopped, previewEnds := none, pauseEnds := none, windowEnds := none, collection := [],
    holdPending := none, closing := false, reservation := false, asked := false, params := .default }

/-- A dark lamp (R105). -/
def Lamp.dark : Lamp := { phase := .idle, visits := 0, queued := 0 }

/-- A desk after a start (R105). -/
def Desk.atStart : Desk := { binding := none, win := .dark, refused := .dark, lastRefusal := none }

/-- A row after a start (R105). -/
def Row.atStart : Row :=
  { online := false, misses := 8, lastBatch := 0, framesGood := 0, framesBad := 0, pressesLate := 0,
    pressesRefused := 0, missCount := 0, desks := Vector.replicate 16 .atStart }

/-- The Desk Bus Controller after a start (R105): with no tick pending the poll to row 1 is due (R92). A reply to
a poll that was out at the warm start of a CONTROLLER-RESET finds no poll awaited and is discarded (R106); one that
arrives after the first new poll has been sent is judged as a reply to that poll: DESIGN CHOICE, log entry 42. -/
def DeskBus.atStart : DeskBus :=
  { rows := Vector.replicate 30 .atStart, ticks := [], nextRow := 0, activity := .idle, poll := none,
    lineHeld := false, ticksSent := 0, ticksDropped := 0, nextArrival := 0 }

/-- The arbiter after a start: clock 4 was the last served (R143). -/
def Arbiter.atStart : Arbiter :=
  { inProgress := none, commits := Vector.replicate 4 none, requests := [], lastServed := 3 }

/-- The journal after a cold start (R165). -/
def Journal.atStart : Journal :=
  { lines := [], lastWritten := 0, lastReleased := 0, lotMark := Vector.replicate 4 none, deferred := [] }

/-- Every counter of R142 at 0. -/
def LedgerCounters.zero : LedgerCounters :=
  { accepted := 0, cut := 0, notSigned := 0, blocked := 0, notPermitted := 0, invoiceFull := 0, credit := 0,
    busy := 0 }

/-- The Settlement Unit after a cold start (R143, R165). -/
def Ledger.atStart : Ledger :=
  { buyers := [], tariff := Vector.replicate 8 0, invoices := [], nextInvoice := 1, journal := .atStart,
    arbiter := .atStart, lastSale := Vector.replicate 4 none, counters := .zero }

/-- A Board Driver with the values R180 lists for every start, the refresh timer started at `now`. -/
def Board.startValues (now : Nat) : Board :=
  { online := false, activity := .idle, period := 40, windowAt := now + 40 * Config.ms, updatePending := false,
    snapshotChanged := true, builtAt := now, frameNumber := 0, misses := 3, framesSent := 0, missCount := 0,
    badAnswers := 0 }

/-- A Board Driver after a start: the start is itself a refresh window, so a probe is on the link (R176, R180). -/
def Board.atStart (now : Nat) : Board :=
  { Board.startValues now with frameNumber := 1, activity := .sending (.probe 1) }

/-- The calendar's first hundredth, 2000-01-01 00:00:00.00 (R193). -/
def calendarOrigin : Stamp :=
  { year := 2000, month := 1, day := 1, hour := 0, minute := 0, second := 0, hundredth := 0 }

/-- The close alarm after a cold start: both fields 0 and disabled (R193). -/
def alarmOff : Alarm := { hour := 0, hourOn := false, minute := 0, minuteOn := false }

/-- Hall Services after a cold start at `now` whose one reading of the backup monitor is `backup` (R192, R193).
The key's raw position is LOCKED: DESIGN CHOICE, log entry 3. -/
def Hall.atColdStart (now : Nat) (backup : BackupSupply) : Hall :=
  { calendar := calendarOrigin, nextAdvance := now + Config.hundredth, timeSet := false, alarm := alarmOff,
    keyRaw := .locked, keyCounter := 0, key := .locked, main := .present, mainReturns := none, backup := backup,
    backupFlag := backup = .low, retainedValid := true, failStamp := none, lastStart := .cold }

/-- Every report class enabled (R203). -/
def allEnabled : ClassEnables :=
  { sales := true, supply := true, clock := true, equipment := true, hall := true }

/-- How long the supervision timer runs, in µs; none when OFF (R197). -/
def supervisionTime : Supervision → Option Nat
  | .off => none
  | .twoSeconds => some (2 * Config.sec)
  | .eightSeconds => some (8 * Config.sec)

/-- The Host Link Port after a start at `now` with the link rate and supervision setting given (R203). -/
def HostLink.atStart (now rate : Nat) (supervision : Supervision) : HostLink :=
  { linkRate := rate, activeRate := rate, supervision := supervision, link := .linked,
    supervisionEnds := (supervisionTime supervision).map (now + ·), receiver := .hunting, held := none,
    replies := [], resetting := none, reports := [], reportNumber := 0, lostCount := 0, enables := allEnabled,
    attention := false, framesGood := 0, framesBad := 0, overruns := 0 }

/-- The part right after a cold start at time 0 of its timebase whose reading of the backup monitor was OK (the
reading is an input: DESIGN CHOICE, log entry 3), with no command waiting (R16, R38, R83, R105, R143, R165, R180,
R193, R203). -/
def State.reset : State :=
  { pending := [], timebase := 0, hlp := .atStart 0 115200 .eightSeconds, lots := [],
    lanes := Vector.replicate 4 .atStart, clocks := Vector.replicate 4 .atStart, bus := .atStart,
    ledger := .atStart, boards := Vector.replicate 4 (.atStart 0), hall := .atColdStart 0 .ok }

end Sys2Proof.Machine
end

