-- ==== Sys2Proof/Machine/Flags.lean ====
section
/-! DEFINITION. The flags and classes the rules compute: report classes and attention (R198, R199), lot end states
(R6), places passed over (R30), key gates (R189), the BLOCKED and PERMIT flags (R129), the close alarm's match
(R187) and the lamp phases (R101, R102). -/

namespace Sys2Proof.Machine

/-- The class of a report (R199). -/
def ReportBody.cls : ReportBody → ReportClass
  | .sale _ => .sales
  | .lotDone _ _ _ _ _ _ => .sales
  | .creditRefused _ => .sales
  | .trainArrived _ _ _ => .supply
  | .short _ _ _ _ _ _ => .supply
  | .stray _ _ => .supply
  | .trainDone _ _ _ _ _ _ _ => .supply
  | .clock _ _ _ _ _ _ => .clock
  | .row _ _ _ => .equipment
  | .board _ _ _ => .equipment
  | .key _ _ _ => .equipment
  | .tradingClose _ _ => .hall
  | .mainFail _ _ _ => .hall
  | .backupLow _ => .hall
  | .hostLost _ => .hall

/-- Whether a class is enabled (R198). -/
def classOn (e : ClassEnables) : ReportClass → Bool
  | .sales => e.sales
  | .supply => e.supply
  | .clock => e.clock
  | .equipment => e.equipment
  | .hall => e.hall

/-- Attention is asserted while the queue holds at least one report whose class is enabled (R198). -/
def attentionOf (e : ClassEnables) (queue : List Report) : Bool :=
  queue.any fun r => classOn e r.body.cls

/-- The state a lot takes when its clock ends it (R6). -/
def endStateOf (l : Lot) : LotState :=
  if l.packsRemaining = 0 then .soldOut else if l.packsSold = 0 then .unsold else .done

/-- The end states and MISSING: the states the lane walk passes over (R30). -/
def LotState.isEnded : LotState → Bool
  | .soldOut => true
  | .done => true
  | .unsold => true
  | .missing => true
  | .entered => false
  | .queued => false
  | .ready => false
  | .onClock => false

/-- The state a warm start gives a lot found in ON_CLOCK (R17). -/
def sortedState (l : Lot) : LotState :=
  if l.packsRemaining = 0 then .soldOut else if l.packsRemaining < l.minTake then .done else .ready

/-- SETUP-gated requests are refused KEY unless the key is in SETUP; money requests are refused KEY in LOCKED
(11.2.1, R189). -/
def ledgerKeyRefused (key : KeyPosition) : LedgerRequest → Bool
  | .buyerEnter _ => false
  | .buyerFlags _ => false
  | .buyerRemove _ => false
  | .buyerLimit _ _ => key = .locked
  | .saleVoid _ => key = .locked
  | .paymentPost _ => key = .locked
  | .invoiceClose _ => key = .locked
  | .dayClose => key = .locked
  | .tariffSet _ _ => key ≠ .setup

/-- The position a sample of the two key contacts gives; both closed reads LOCKED (R189). -/
def sampledKey (saleClosed setupClosed : Bool) : KeyPosition :=
  if saleClosed && !setupClosed then .sale else if setupClosed && !saleClosed then .setup else .locked

/-- One action on one flag (R129). -/
def applyAction (a : FlagAction) (old : Bool) : Bool :=
  match a with
  | .set => true
  | .clear => false
  | .toggle => !old

/-- The action applied to every flag of the set; the other flags are kept (R129). -/
def applyFlags (a : FlagAction) (chosen old : BuyerFlags) : BuyerFlags :=
  { blocked := if chosen.blocked then applyAction a old.blocked else old.blocked
    permit := Vector.ofFn fun i => if chosen.permit.get i then applyAction a (old.permit.get i) else old.permit.get i }

/-- A flag set that names no flag (R129). -/
def noFlags (f : BuyerFlags) : Bool := !f.blocked && countCells id f.permit = 0

/-- Whether every enabled field of the alarm matches the minute just entered; off with both fields disabled
(R187). -/
def alarmMatches (a : Alarm) (t : Stamp) : Bool :=
  match a.hourOn, a.minuteOn with
  | false, false => false
  | false, true => t.minute = a.minute
  | true, false => t.hour = a.hour && t.minute = 0
  | true, true => t.hour = a.hour && t.minute = a.minute

/-- A pulse of a lamp: an IDLE lamp lights for three visits, a busy one queues up to 15 (R101). -/
def pulseLamp (l : Lamp) : Lamp :=
  match l.phase with
  | .idle => { l with phase := .on, visits := 3 }
  | .on => { l with queued := countUp 15 l.queued }
  | .gap => { l with queued := countUp 15 l.queued }

/-- One visit of a lamp: the table of R102. -/
def visitLamp (l : Lamp) : Lamp :=
  match l.phase with
  | .idle => l
  | .on => if 1 < l.visits then { l with visits := l.visits - 1 } else { l with phase := .gap, visits := 3 }
  | .gap =>
    if 1 < l.visits then { l with visits := l.visits - 1 }
    else if 0 < l.queued then { phase := .on, visits := 3, queued := l.queued - 1 }
    else { l with phase := .idle, visits := 0 }

/-- A lamp is commanded on when its phase is ON (R102). -/
def lampOn (l : Lamp) : Bool := l.phase = .on

/-- The days of a month; every year divisible by 4 is a leap year (R183). -/
def daysOf (year month : Nat) : Nat :=
  if month = 2 then (if year % 4 = 0 then 29 else 28)
  else if month = 4 ∨ month = 6 ∨ month = 9 ∨ month = 11 then 30 else 31

/-- The last hundredth of 2099, after which the calendar wraps (R183). -/
def atCalendarEnd (t : Stamp) : Bool :=
  t = { year := 2099, month := 12, day := 31, hour := 23, minute := 59, second := 59, hundredth := 99 }

/-- The calendar a hundredth later, the carries made as a whole (R183). -/
def nextHundredth (t : Stamp) : Stamp :=
  if t.hundredth < 99 then { t with hundredth := t.hundredth + 1 }
  else if t.second < 59 then { t with hundredth := 0, second := t.second + 1 }
  else if t.minute < 59 then { t with hundredth := 0, second := 0, minute := t.minute + 1 }
  else if t.hour < 23 then { t with hundredth := 0, second := 0, minute := 0, hour := t.hour + 1 }
  else if t.day < daysOf t.year t.month then
    { t with hundredth := 0, second := 0, minute := 0, hour := 0, day := t.day + 1 }
  else if t.month < 12 then
    { t with hundredth := 0, second := 0, minute := 0, hour := 0, day := 1, month := t.month + 1 }
  else if t.year < 2099 then
    { year := t.year + 1, month := 1, day := 1, hour := 0, minute := 0, second := 0, hundredth := 0 }
  else calendarOrigin

/-- An advance enters a new minute when its second and hundredth have carried to 0 (R187). -/
def entersMinute (t : Stamp) : Bool := t.second = 0 && t.hundredth = 0

end Sys2Proof.Machine
end

