-- ==== Sys2Proof/Machine/Money.lean ====
section
/-! DEFINITION. The arithmetic of chapter 3: price and period of a step, press step, quantity, amount, levy, debit,
the affordable quantity, and the invoice total. All exact on whole numbers. -/

namespace Sys2Proof.Machine

/-- P(k) = S − k × d (R41). -/
def priceAt (startPrice k stepSize : Nat) : Nat := startPrice - k * stepSize

/-- The reserve test of R42: P(k + 1) is at or above the reserve price. -/
def mayAdvance (startPrice k stepSize reserve : Nat) : Bool :=
  reserve + (k + 1) * stepSize ≤ startPrice

/-- The step size d of a run: the lot's price step, else the clock's default step (R2, R41). -/
def stepSizeOf (l : Lot) (p : ClockParams) : Nat := l.priceStep.getD p.defaultStep

/-- The period of step k in µs: T + trim when k mod 64 = 63, else T (R44). -/
def periodOf (p : ClockParams) (k : Nat) : Nat :=
  if k % 64 = 63 then ((p.period : Int) + p.trim).toNat else p.period

/-- The start price of a restart: min(lot's start price, sale price + restart lift) (R43). -/
def restartPrice (lotStart salePrice lift : Nat) : Nat := min lotStart (salePrice + lift)

/-- The age of a press: (k − t) mod 256, from 0 to 255 (R47). -/
def pressAge (k tag : Nat) : Nat := (((k : Int) - (tag : Int)) % 256).toNat

/-- The press step k − a, when it is not below 0 and the age is within the limit (R47). -/
def pressStep (k tag ageLimit : Nat) : Option Nat :=
  if pressAge k tag ≤ k ∧ pressAge k tag ≤ ageLimit then some (k - pressAge k tag) else none

/-- The requested quantity q after the three stages of R49. -/
def clampPacks (requested remaining minTake : Nat) : Nat :=
  max (min (if requested = 0 then remaining else requested) remaining) minTake

/-- amount = p × q × u (R50). -/
def amountOf (price units packs : Nat) : Nat := price * packs * units

/-- levy = floor((amount × b + 5,000) / 10,000) (R51). -/
def levyOf (rate amount : Nat) : Nat := (amount * rate + 5000) / 10000

/-- debit = amount + levy, of q packs (R52). -/
def debitOf (price units rate packs : Nat) : Nat :=
  amountOf price units packs + levyOf rate (amountOf price units packs)

/-- The largest quantity from `least` to the third argument whose debit fits `available` (R53). -/
def affordable (debit : Nat → Nat) (available least : Nat) : Nat → Option Nat
  | 0 => if least = 0 ∧ debit 0 ≤ available then some 0 else none
  | q + 1 =>
    if q + 1 < least then none
    else if debit (q + 1) ≤ available then some (q + 1)
    else affordable debit available least q

/-- The total of a closed invoice in cents (R55). -/
def totalOf (debits : Nat) : Nat := debits / 10

/-- The residue of a closed invoice in milli (R55). -/
def residueOf (debits : Nat) : Nat := debits - 10 * totalOf debits

end Sys2Proof.Machine
end

