-- ==== Sys2Proof/Machine/Ops.lean ====
section
/-! DEFINITION. The operations every block uses: reading and writing one record of a table or bank, the timebase,
raising a report (R198), placing a reply (R196), and the guard of a failed main supply (R190). -/

namespace Sys2Proof.Machine

/-! ## Tables kept in ascending key -/

/-- The record with key `n`. -/
def findKey {α : Type} (key : α → Nat) (n : Nat) (l : List α) : Option α := l.find? fun x => key x = n

/-- The first record with a key above `n`; in a table kept in ascending key, the one with the smallest such key. -/
def nextKey {α : Type} (key : α → Nat) (n : Nat) (l : List α) : Option α := l.find? fun x => n < key x

/-- A record put at the place its key gives. -/
def insertKey {α : Type} (key : α → Nat) (x : α) : List α → List α
  | [] => [x]
  | y :: t => if key x < key y then x :: y :: t else y :: insertKey key x t

/-- `f` applied to the record with key `n`. -/
def modKey {α : Type} (key : α → Nat) (n : Nat) (f : α → α) (l : List α) : List α :=
  l.map fun x => if key x = n then f x else x

/-- The table without the record with key `n`. -/
def dropKey {α : Type} (key : α → Nat) (n : Nat) (l : List α) : List α := l.filter fun x => key x ≠ n

/-! ## Records of the state -/

/-- Clock `c`. -/
def State.clock (s : State) (c : ClockId) : Clock := s.clocks.get c
/-- `s` with clock `c` replaced. -/
def State.setClock (s : State) (c : ClockId) (x : Clock) : State := { s with clocks := s.clocks.set c x }
/-- Lane `c`. -/
def State.lane (s : State) (c : ClockId) : Lane := s.lanes.get c
/-- `s` with lane `c` replaced. -/
def State.setLane (s : State) (c : ClockId) (x : Lane) : State := { s with lanes := s.lanes.set c x }
/-- Board `c`. -/
def State.board (s : State) (c : ClockId) : Board := s.boards.get c
/-- `s` with board `c` replaced. -/
def State.setBoard (s : State) (c : ClockId) (x : Board) : State := { s with boards := s.boards.set c x }
/-- Row `r`. -/
def State.row (s : State) (r : RowId) : Row := s.bus.rows.get r
/-- `s` with row `r` replaced. -/
def State.setRow (s : State) (r : RowId) (x : Row) : State :=
  { s with bus := { s.bus with rows := s.bus.rows.set r x } }
/-- Desk `d`. -/
def State.desk (s : State) (d : DeskId) : Desk := (s.row (rowOfDesk d)).desks.get (seatOfDesk d)
/-- `s` with desk `d` replaced. -/
def State.setDesk (s : State) (d : DeskId) (x : Desk) : State :=
  s.setRow (rowOfDesk d)
    { s.row (rowOfDesk d) with desks := (s.row (rowOfDesk d)).desks.set (seatOfDesk d) x }

/-- The lot record with a number (1.1). -/
def State.lot (s : State) (n : Nat) : Option Lot := findKey Lot.number n s.lots
/-- `s` with `f` applied to the lot record with a number, as one change (R9). -/
def State.modLot (s : State) (n : Nat) (f : Lot → Lot) : State := { s with lots := modKey Lot.number n f s.lots }
/-- The buyer account with a number (R126). -/
def State.buyer (s : State) (n : Nat) : Option Buyer := findKey Buyer.number n s.ledger.buyers
/-- `s` with `f` applied to the account with a number. -/
def State.modBuyer (s : State) (n : Nat) (f : Buyer → Buyer) : State :=
  { s with ledger := { s.ledger with buyers := modKey Buyer.number n f s.ledger.buyers } }
/-- The invoice with a number (R159). -/
def State.invoice (s : State) (n : Nat) : Option Invoice := findKey Invoice.number n s.ledger.invoices
/-- `s` with `f` applied to the invoice with a number. -/
def State.modInvoice (s : State) (n : Nat) (f : Invoice → Invoice) : State :=
  { s with ledger := { s.ledger with invoices := modKey Invoice.number n f s.ledger.invoices } }
/-- `s` with another arbiter. -/
def State.setArbiter (s : State) (a : Arbiter) : State := { s with ledger := { s.ledger with arbiter := a } }
/-- `s` with another journal. -/
def State.setJournal (s : State) (j : Journal) : State := { s with ledger := { s.ledger with journal := j } }
/-- `s` with `f` applied to the counters of the Settlement Unit. -/
def State.count (s : State) (f : LedgerCounters → LedgerCounters) : State :=
  { s with ledger := { s.ledger with counters := f s.ledger.counters } }
/-- `s` with the last-sale record of a clock replaced (R140). -/
def State.setLastSale (s : State) (c : ClockId) (x : Option LastSale) : State :=
  { s with ledger := { s.ledger with lastSale := s.ledger.lastSale.set c x } }
/-- The current lot of a clock (R57). -/
def State.currentLot (s : State) (c : ClockId) : Option Lot := (s.clock c).lot.bind s.lot

/-- An operation made on every clock in clock order. The manual does not order the clocks a block tells in one
event: DESIGN CHOICE, log entry 4. -/
def eachClock (f : ClockId → State → State) (s : State) : State := f 3 (f 2 (f 1 (f 0 s)))

/-! ## Time -/

/-- An event that falls at time `t` finds the timebase at `t` or, if it was due before, where it stands (log
entry 2). -/
def State.reach (s : State) (t : Nat) : State := { s with timebase := max s.timebase t }

/-- The time from now to `t`, in µs. -/
def State.left (s : State) (t : Nat) : Nat := t - s.timebase

/-- The time left of a running timer in ms, a begun ms counted whole. A timer that is due and has not had its expiry yet is
still running, and shows 1, the least that R19 gives (log entry 21). -/
def inMs (us : Nat) : Nat := max 1 ((us + 999) / 1000)

/-- While the main supply is FAILED every block rests: an event that reaches one has no effect (R190). -/
def whenPowered (s : State) (t : State) : State :=
  match s.hall.main with
  | .present => t
  | .failed => s

/-! ## Reports and replies -/

/-- A block raises a report (R198): numbered and queued, discarded when its class is disabled, lost and counted
when the queue is full. -/
def raise (b : ReportBody) (s : State) : State :=
  if classOn s.hlp.enables b.cls then
    if s.hlp.reports.length < Config.reportPlaces then
      let queue := s.hlp.reports ++
        [{ number := s.hlp.reportNumber, stamp := s.hall.calendar, timeSet := s.hall.timeSet, body := b }]
      { s with hlp := { s.hlp with
          reports := queue, reportNumber := (s.hlp.reportNumber + 1) % 65536,
          attention := attentionOf s.hlp.enables queue } }
    else
      { s with hlp := { s.hlp with
          reportNumber := (s.hlp.reportNumber + 1) % 65536, lostCount := countUp 255 s.hlp.lostCount } }
  else s

/-- A completed reply joins the replies to be sent, in the order of completion (R196). -/
def placeReply (r : Reply) (s : State) : State :=
  { s with hlp := { s.hlp with replies := s.hlp.replies ++ [r] } }

/-- What carrying out a request gives: the state after it and the reply's status and body. -/
structure Answer where
  state : State
  status : Status
  body : ReplyBody
  deriving DecidableEq, Repr

/-- A request refused: nothing changes. -/
def refuse (s : State) (status : Status) (body : ReplyBody := .empty) : Answer := ⟨s, status, body⟩

/-- A request refused BAD_FIELD with the position of the first field at fault (R196). -/
def badField (s : State) (position : Nat) : Answer := ⟨s, .badField, .field position⟩

/-- A request accepted. -/
def accept (s : State) (body : ReplyBody := .empty) : Answer := ⟨s, .ok, body⟩

/-- The reply queue places reserved for dispatched requests not yet complete: the host ledger requests waiting or
in progress, and a CONTROLLER-RESET whose reply is not yet placed (R196, R202). -/
def reservedPlaces (s : State) : Nat :=
  s.ledger.arbiter.requests.length +
    (match s.ledger.arbiter.inProgress with
      | some (.host _ _ _ _) => 1
      | some (.commit _ _ _) => 0
      | none => 0) +
    (match s.hlp.resetting with
      | some (.waiting _) => 1
      | some .replying => 0
      | none => 0)

/-- The places of the reply queue in use (R194). -/
def placesUsed (s : State) : Nat := s.hlp.replies.length + reservedPlaces s

end Sys2Proof.Machine
end

