-- ==== Sys2Proof/Machine/Boards.lean ====
section
/-! DEFINITION. The Board Driver's own operations (chapter 9): the snapshot and the frame built from it, the
priority update, the link becoming free, and misses up to the board going OFFLINE. What a board's change means to
its clock is in Clocks.lean. -/

namespace Sys2Proof.Machine

/-- The price shown by the clock state (the table of R170): absent in IDLE and CLOSED, else P(k). In LOADED k is 0,
so P(k) is S. -/
def shownPrice (s : State) (c : ClockId) : Option Nat :=
  match (s.clock c).state with
  | .idle => none
  | .closed => none
  | _ =>
    match s.currentLot c, (s.clock c).startPrice with
    | some l, some p => some (priceAt p (s.clock c).k (stepSizeOf l (s.clock c).params))
    | _, _ => none

/-- The last-sale part of a frame: shown when the record names the current lot, or the clock has no current lot
(R170). -/
def shownSale (s : State) (c : ClockId) : Option ShownSale :=
  match s.ledger.lastSale.get c with
  | none => none
  | some r =>
    if (s.clock c).lot = none ∨ (s.clock c).lot = some r.lot then
      some { lot := r.lot, buyer := r.buyer, packs := r.packs, price := r.price }
    else none

/-- The lot part of a frame, from the lot record (R170). -/
def shownLot (l : Lot) : ShownLot :=
  { number := l.number, grower := l.grower, product := l.product, quality := l.quality,
    unitsPerPack := l.unitsPerPack, stemLength := l.stemLength, text := l.text,
    packsRemaining := l.packsRemaining, minTake := l.minTake }

/-- The snapshot of a clock, its lot and its last sale, as a frame carries it (R169, R170). -/
def pictureOf (s : State) (c : ClockId) : Picture :=
  { board := c, state := (s.clock c).state, lot := (s.currentLot c).map shownLot, price := shownPrice s c,
    dial := (s.clock c).lot.map fun _ => (s.clock c).k % 100, lastSale := shownSale s c }

/-- The number of the next frame or probe: 255 is followed by 0 (R169). -/
def nextFrameNumber (b : Board) : Nat := (b.frameNumber + 1) % 256

/-- A display frame is built from the snapshot and begins to be sent (R169). -/
def sendDisplay (c : ClockId) (s : State) : State :=
  let b := s.board c
  s.setBoard c { b with
    frameNumber := nextFrameNumber b, snapshotChanged := false, builtAt := s.timebase,
    framesSent := countUp top16 b.framesSent,
    activity := .sending (.display (nextFrameNumber b) (pictureOf s c)) }

/-- A probe begins to be sent; it carries a frame number and no picture (R176). -/
def sendProbe (c : ClockId) (s : State) : State :=
  let b := s.board c
  s.setBoard c { b with
    frameNumber := nextFrameNumber b, activity := .sending (.probe (nextFrameNumber b)) }

/-- Something shown on the board has changed: the next window sends it (R171). -/
def markChanged (c : ClockId) (s : State) : State := s.setBoard c { s.board c with snapshotChanged := true }

/-- The clock asks its board for a priority update (R173). -/
def askUpdate (c : ClockId) (s : State) : State :=
  if (s.board c).online then
    match (s.board c).activity with
    | .idle => sendDisplay c s
    | .sending _ => s.setBoard c { s.board c with updatePending := true }
    | .awaiting _ _ => s.setBoard c { s.board c with updatePending := true }
  else markChanged c s

/-- Link activity becomes IDLE; with the board ONLINE and an update pending, a frame is built and sent at once
(R174). -/
def linkFree (c : ClockId) (s : State) : State :=
  let s := s.setBoard c { s.board c with activity := .idle }
  if (s.board c).online && (s.board c).updatePending then
    sendDisplay c (s.setBoard c { s.board c with updatePending := false })
  else s

/-- Keep-alive time in ms, stopping at 1,000 (R168). -/
def keepAlive (s : State) (c : ClockId) : Nat := min Config.keepAliveTop ((s.timebase - (s.board c).builtAt) / Config.ms)

/-- A display frame is due at a window when the snapshot has changed or a keep-alive is owed (R172). -/
def frameDue (s : State) (c : ClockId) : Bool :=
  (s.board c).snapshotChanged || keepAlive s c = Config.keepAliveTop

/-- A refresh window (the table of R172), after the timer has been set for the next one. -/
def refreshBoard (c : ClockId) (s : State) : State :=
  if (s.board c).online then
    if frameDue s c then
      match (s.board c).activity with
      | .idle => sendDisplay c s
      | .sending _ => s.setBoard c { s.board c with updatePending := true }
      | .awaiting _ _ => s.setBoard c { s.board c with updatePending := true }
    else s
  else
    match (s.board c).activity with
    | .idle => sendProbe c s
    | .sending _ => s
    | .awaiting _ _ => s

/-- The number a frame or probe carries. -/
def BoardFrame.number : BoardFrame → Nat
  | .display n _ => n
  | .probe n => n

/-- An answer that is not good, or is not awaited, is discarded and counted (R174). -/
def discardAnswer (c : ClockId) (s : State) : State :=
  s.setBoard c { s.board c with badAnswers := countUp top16 (s.board c).badAnswers }

end Sys2Proof.Machine
end

