-- ==== Sys2Proof/Machine/Desks.lean ====
section
/-! DEFINITION. The Desk Bus Controller's operations on ticks, desks and lamps (chapter 5). What a press does to its
clock is in Decision.lean. -/

namespace Sys2Proof.Machine

/-! ## Ticks -/

/-- The queue without the oldest pending tick of a clock (R91). -/
def dropOldest (c : ClockId) : List Tick → List Tick
  | [] => []
  | t :: q => if t.clock = c then q else t :: dropOldest c q

/-- The pending ticks of a clock. -/
def pendingOf (c : ClockId) (q : List Tick) : Nat := (q.filter fun t => t.clock = c).length

/-- The transmit queue with one more tick: appended at the tail, its clock's oldest pending tick dropped and counted when
four are pending (R91), also when that tick is the one on the line: DESIGN CHOICE, log entry 41. -/
def queueTick (t : Tick) (b : DeskBus) : DeskBus :=
  if pendingOf t.clock b.ticks < Config.ticksPerClock then { b with ticks := b.ticks ++ [t] }
  else
    { b with ticks := dropOldest t.clock b.ticks ++ [t], ticksDropped := countUp top16 b.ticksDropped }

/-- A tick handed over while the line is free and no poll is on its way is sent before the poll (R92, 5.10.1): the bus
goes to SENDING. Any other finds the line in use and waits (log entry 5). -/
def startTicks (b : DeskBus) : DeskBus :=
  if b.activity = .idle ∧ b.poll = none ∧ b.lineHeld = false then { b with activity := .sending } else b

/-- A clock hands over a tick carrying its run number and step index mod 256 (R46, R91, R92). -/
def handTick (c : ClockId) (s : State) : State :=
  let t : Tick := { clock := c, run := (s.clock c).run, tag := (s.clock c).k % 256 }
  { s with bus := startTicks (queueTick t s.bus) }

/-! ## Lamps and refusals -/

/-- A WIN pulse of a desk (R101). -/
def pulseWin (d : DeskId) (s : State) : State := s.setDesk d { s.desk d with win := pulseLamp (s.desk d).win }

/-- A REFUSED pulse of a desk (R101). -/
def pulseRefused (d : DeskId) (s : State) : State :=
  s.setDesk d { s.desk d with refused := pulseLamp (s.desk d).refused }

/-- One more in the row's presses late for LATE, in its presses refused for any other reason (R86, R96). -/
def countRefused (d : DeskId) (reason : DeskRefusal) (s : State) : State :=
  let r := s.row (rowOfDesk d)
  match reason with
  | .late => s.setRow (rowOfDesk d) { r with pressesLate := countUp top16 r.pressesLate }
  | _ => s.setRow (rowOfDesk d) { r with pressesRefused := countUp top16 r.pressesRefused }

/-- A refused press is answered to its desk, without a lamp pulse (R96, R111). -/
def refusePress (d : DeskId) (reason : DeskRefusal) (c : ClockId) (s : State) : State :=
  let s := countRefused d reason s
  s.setDesk d { s.desk d with lastRefusal := some { reason := reason, clock := some c, lot := (s.clock c).lot } }

/-! ## Bindings -/

/-- A desk is unbound and its buyer's bound-desk count lowered, in one event (R86). -/
def unbindDesk (d : DeskId) (s : State) : State :=
  match (s.desk d).binding with
  | none => s
  | some b =>
    (s.setDesk d { s.desk d with binding := none }).modBuyer b fun a => { a with boundDesks := a.boundDesks - 1 }

/-- An accepted SIGN-ON: the desk ends bound to the buyer, and the counts follow the binding (R97). -/
def bindDesk (d : DeskId) (b : Nat) (s : State) : State :=
  if (s.desk d).binding = some b then s
  else
    let s := unbindDesk d s
    (s.setDesk d { s.desk d with binding := some b }).modBuyer b fun a => { a with boundDesks := a.boundDesks + 1 }

/-- A refused SIGN-ON: unbound, NOT_SIGNED with no clock and no lot, REFUSED pulsed (R98). -/
def refuseSignOn (d : DeskId) (s : State) : State :=
  let s := unbindDesk d s
  pulseRefused d (s.setDesk d
    { s.desk d with lastRefusal := some { reason := .notSigned, clock := none, lot := none } })

/-- A SIGN-ON is accepted for an existing account that is not BLOCKED (R97, R98). -/
def signOn (d : DeskId) (b : Nat) (s : State) : State :=
  match s.buyer b with
  | some a => if a.flags.blocked then refuseSignOn d s else bindDesk d b s
  | none => refuseSignOn d s

/-! ## Polls -/

/-- The poll to next row as it is built: acknowledgement and lamp commands (R87, R102). -/
def pollOf (s : State) : Poll :=
  let r := s.row s.bus.nextRow
  { row := s.bus.nextRow, ack := r.lastBatch
    lamps := r.desks.toList.map fun d => (lampOn d.win, lampOn d.refused) }

/-- The bus after the line has been given up (R92): SENDING with ticks pending, else IDLE; on a line still held by part
of a reply IDLE in either case (R89). The poll is not built yet. -/
def freeBus (b : DeskBus) : DeskBus :=
  { b with poll := none, activity := if b.lineHeld || b.ticks.isEmpty then .idle else .sending }

/-- Bus activity becomes IDLE, and what is sent next follows (R92). -/
def busFree (s : State) : State := { s with bus := freeBus s.bus }

/-- The poll to next row may be sent: a free line, no tick pending and no poll on its way (R92). -/
def pollDue (s : State) : Bool :=
  s.bus.activity = .idle && s.bus.lineHeld = false && s.bus.ticks.isEmpty && s.bus.poll = none

/-- The poll to next row is built and on its way. Meanwhile the activity reads IDLE: DEDUCED, log entry 5. -/
def beginPoll (s : State) : State := { s with bus := { s.bus with poll := some (pollOf s) } }

/-- A lamp at the end of a poll that commanded it `on` or off: it moves on by one visit (R102). A lamp whose pulse began
while the poll was on its way has had no visit yet: DEDUCED, log entry 39. -/
def moveLamp (on : Bool) (l : Lamp) : Lamp := if lampOn l && !on then l else visitLamp l

/-- A desk's two lamps at the end of a poll, with the commands the poll gave them (R102). -/
def moveLamps (commands : Bool × Bool) (d : Desk) : Desk :=
  { d with win := moveLamp commands.1 d.win, refused := moveLamp commands.2 d.refused }

/-- Each lamp of the polled row moves on (R102). -/
def visitRow (p : Poll) (r : Row) : Row :=
  { r with desks := Vector.ofFn fun i => moveLamps (p.lamps.getD i.val (false, false)) (r.desks.get i) }

/-- The row after one that is polled: 30 is followed by 1 (R87). -/
def rowAfter (r : RowId) : RowId := if h : r.val + 1 < 30 then ⟨r.val + 1, h⟩ else 0

/-- A miss of a row: counted, and an eighth in a row takes an ONLINE row OFFLINE with a ROW report (R89, R90). -/
def missRow (r : RowId) (s : State) : State :=
  let x := s.row r
  let n := countUp Config.rowMissLimit x.misses
  let y := { x with missCount := countUp top16 x.missCount, misses := n }
  if x.online && n = Config.rowMissLimit then
    raise (.row r false y.missCount) (s.setRow r { y with online := false })
  else s.setRow r y

/-- The wait for a reply has ended, with the line free or still held by part of a reply (R87, R89, R92). -/
def endWait (held : Bool) (s : State) : State := busFree { s with bus := { s.bus with lineHeld := held } }

/-- A good reply's own counters, and the return of an OFFLINE row with its ROW report (R88, R90). -/
def goodRow (r : RowId) (s : State) : State :=
  let x := s.row r
  let y := { x with framesGood := countUp top16 x.framesGood, misses := 0, online := true }
  if x.online then s.setRow r y else raise (.row r true x.missCount) (s.setRow r y)

/-- An event of a reply is good for the polled row when each field it carries is in range (R88). -/
def goodEvent (r : RowId) : DeskEvent → Bool
  | .press d c run _ _ packs =>
    (deskNumbered d).map rowOfDesk = some r && 1 ≤ c && c ≤ 4 && run ≤ 15 && packs ≤ 9999
  | .signOn d b => (deskNumbered d).map rowOfDesk = some r && 1 ≤ b && b ≤ 9999
  | .signOff d => (deskNumbered d).map rowOfDesk = some r

/-- A reply is good when it names the polled row, holds 0 to 4 good events, and its batch number is 0 exactly when
it holds none (R88). -/
def goodReply (p : Poll) (y : RowReply) : Bool :=
  y.row = numberOf p.row && y.events.length ≤ 4 && y.events.all (goodEvent p.row) && y.batch ≤ 15 &&
    (decide (y.batch = 0) == y.events.isEmpty)

end Sys2Proof.Machine
end

