-- ==== Sys2Proof/Machine/Journal.lean ====
section
/-! DEFINITION. The sale journal's own operations (8.1 to 8.3): free space, the grant of a reservation, writing a
line, lot marks and deferred requests. -/

namespace Sys2Proof.Machine

/-- Reservations held: the number of clocks that hold one (R146). -/
def reservationsHeld (s : State) : Nat := countCells Clock.reservation s.clocks

/-- The number of unreleased lines (R146). -/
def unreleased (s : State) : Nat := s.ledger.journal.lastWritten - s.ledger.journal.lastReleased

/-- free space = 8,192 − unreleased lines − reservations held (R147). -/
def freeSpace (s : State) : Nat := Config.journalPlaces - unreleased s - reservationsHeld s

/-- Room in the numbering for one more line beside those promised (R152). -/
def sequenceRoom (s : State) : Bool :=
  s.ledger.journal.lastWritten + reservationsHeld s < Config.lastSequence

/-- A reservation can be granted: free space at least 1 and sequence room (R64, R152). -/
def grantable (s : State) : Bool := 1 ≤ freeSpace s && sequenceRoom s

/-- A DAY-CLOSE is in progress at the arbiter (R152). -/
def dayCloseRuns (s : State) : Bool :=
  match s.ledger.arbiter.inProgress with
  | some (.host _ .dayClose _ _) => true
  | _ => false

/-- A SALE-VOID whose line names the clock is in progress at the arbiter (R75, R76). -/
def voidRuns (s : State) (c : ClockId) : Bool :=
  match s.ledger.arbiter.inProgress with
  | some (.host _ (.saleVoid _) line _) => line = some c
  | _ => false

/-- The grant: the clock holds its reservation and has no longer one asked for (R64). -/
def grant (c : ClockId) (s : State) : State := s.setClock c { s.clock c with reservation := true, asked := false }

/-- The request is not granted: reservation asked is set (R64). -/
def askLater (c : ClockId) (s : State) : State := s.setClock c { s.clock c with asked := true }

/-- The request becomes a deferred request, at most one for each clock (R152). -/
def defer (c : ClockId) (s : State) : State :=
  if s.ledger.journal.deferred.contains c then s
  else s.setJournal { s.ledger.journal with deferred := s.ledger.journal.deferred ++ [c] }

/-- A clock leaves LOADED: reservation asked is cleared and its deferred request dropped (R64, R152). -/
def leaveLoaded (c : ClockId) (s : State) : State :=
  let s := s.setClock c { s.clock c with asked := false }
  s.setJournal { s.ledger.journal with deferred := s.ledger.journal.deferred.filter (· ≠ c) }

/-- A line is written with the next sequence and the stamp of this event (R149, R150). -/
def writeLine (l : JournalLine) (s : State) : State :=
  let j := s.ledger.journal
  s.setJournal { j with
    lines := j.lines ++
      [{ l with sequence := j.lastWritten + 1, stamp := s.hall.calendar, stampValid := s.hall.timeSet }]
    lastWritten := j.lastWritten + 1 }

/-- A clock's lot mark set or taken away (R153). -/
def setLotMark (c : ClockId) (m : Option Nat) (s : State) : State :=
  s.setJournal { s.ledger.journal with lotMark := s.ledger.journal.lotMark.set c m }

/-- A clock writes a NO_SALE line in the place of its reservation (R151). -/
def writeNoSale (c : ClockId) (cause : NoSaleCause) (s : State) : State :=
  let x := s.clock c
  match s.currentLot c, x.startPrice with
  | some l, some p =>
    let s := writeLine
      { sequence := 0, kind := .noSale, stamp := calendarOrigin, stampValid := false, clock := c, lot := l.number,
        run := x.run, buyer := none, desk := none, invoice := none, voidedSequence := none, voided := false,
        cause := some cause, packs := l.packsRemaining, unitsPerPack := l.unitsPerPack,
        price := priceAt p x.k (stepSizeOf l x.params), amount := 0, levy := 0, debit := 0 } s
    s.setClock c { s.clock c with reservation := false }
  | _, _ => s

/-- The figures every JOURNAL-READ reply carries (R154). -/
def journalFigures (s : State) : JournalFigures :=
  { lastReleased := s.ledger.journal.lastReleased, lastWritten := s.ledger.journal.lastWritten,
    reservations := reservationsHeld s, free := freeSpace s, lotMark := s.ledger.journal.lotMark }

end Sys2Proof.Machine
end

