-- ==== Sys2Proof/Machine/Lanes.lean ====
section
/-! DEFINITION. The Feed Lane Sequencer's operations (chapter 2): the lane walk, counting a passage, a short train,
departures, and the lane positions of an announced or cancelled train. -/

namespace Sys2Proof.Machine

/-- Whether the walk passes over a place: vacant, or its lot in an end state or MISSING (R30). -/
def passedOver (s : State) : Option Nat → Bool
  | none => true
  | some n =>
    match s.lot n with
    | none => true
    | some l => l.state.isEnded

/-- Every place of a train in trolley and place order. -/
def placesOf (t : Train) : List (Option Nat) := t.trolleys.flatMap Trolley.places

/-- A lane's candidate: the lot of the first place the walk does not pass over (R30). -/
def candidate (s : State) (c : ClockId) : Option Lot :=
  (((s.lane c).trains.flatMap placesOf).find? fun p => !passedOver s p).bind fun p => p.bind s.lot

/-- `s` with `f` applied to every lot on the places listed. -/
def modLots (f : Lot → Lot) (places : List (Option Nat)) (s : State) : State :=
  places.foldl (fun s p => match p with
    | some n => s.modLot n f
    | none => s) s

/-- A train with its first uncounted trolley counted (R26). -/
def countFirst : List Trolley → List Trolley
  | [] => []
  | t :: rest => if t.counted then t :: countFirst rest else { t with counted := true } :: rest

/-- The places of the first uncounted trolley. -/
def firstUncounted : List Trolley → List (Option Nat)
  | [] => []
  | t :: rest => if t.counted then firstUncounted rest else t.places

/-- A train is a counting train while ANNOUNCED or ARRIVING (R26). -/
def isCounting (t : Train) : Bool := t.state = .announced || t.state = .arriving

/-- The oldest counting train of a queue (R26). -/
def countingTrain (q : List Train) : Option Train := q.find? isCounting

/-- A queue with the train of a given number replaced. -/
def replaceTrain (t : Train) (q : List Train) : List Train := q.map fun x => if x.number = t.number then t else x

/-- A lot that the gate count makes READY (R4). -/
def makeReady (l : Lot) : Lot := if l.state = .queued then { l with state := .ready } else l

/-- A lot that a SHORT makes MISSING (R4). -/
def makeMissing (l : Lot) : Lot := if l.state = .queued then { l with state := .missing } else l

/-- A passage (R26, R27): the counting train's first uncounted trolley is counted, or it is a stray. -/
def passage (c : ClockId) (s : State) : State :=
  let lane := s.lane c
  match countingTrain lane.trains with
  | none =>
    let n := countUp top16 lane.strays
    raise (.stray c n) (s.setLane c { lane with strays := n })
  | some t =>
    let trolleys := countFirst t.trolleys
    let s := modLots makeReady (firstUncounted t.trolleys) s
    if trolleys.all Trolley.counted then
      let t' : Train := { t with trolleys := trolleys, state := .arrived }
      raise (.trainArrived c t.number trolleys.length)
        (s.setLane c { lane with trains := replaceTrain t' lane.trains, gapEnds := none })
    else
      let t' : Train := { t with trolleys := trolleys, state := .arriving }
      s.setLane c { lane with
        trains := replaceTrain t' lane.trains, gapEnds := some (s.timebase + lane.gapTime * Config.sec) }

/-- The gate qualified state changes (R25): to BLOCKED it sets passage open; back to CLEAR with passage open it is a
passage. -/
def gateChanges (c : ClockId) (s : State) : State :=
  let lane := s.lane c
  if lane.blocked then
    let s := s.setLane c { lane with blocked := false, counter := 0, passageOpen := false }
    if lane.passageOpen then passage c s else s
  else s.setLane c { lane with blocked := true, counter := 0, passageOpen := true }

/-- A lot that loses its lane position (R7). -/
def losePosition (l : Lot) : Lot := { l with position := none }

/-- How many places of a train hold a lot in a state. -/
def placesIn (s : State) (t : Train) (x : LotState) : Nat :=
  ((placesOf t).filter fun p => (p.bind s.lot).map Lot.state = some x).length

/-- How many places of a train are vacant. -/
def vacantPlaces (t : Train) : Nat := ((placesOf t).filter Option.isNone).length

/-- The head train leaves its lane's queue (R32). -/
def departHead (c : ClockId) (t : Train) (s : State) : State :=
  let lane := s.lane c
  raise (.trainDone c t.number (placesIn s t .soldOut) (placesIn s t .done) (placesIn s t .unsold)
      (placesIn s t .missing) (vacantPlaces t))
    (modLots losePosition (placesOf t) (s.setLane c { lane with trains := lane.trains.tail }))

/-- The departure test from the head on, until a train has a place not passed over (R32). -/
def departFrom (c : ClockId) : List Train → State → State
  | [], s => s
  | t :: rest, s => if (placesOf t).all (passedOver s) then departFrom c rest (departHead c t s) else s

/-- The departure test of a lane (R32). -/
def testDepartures (c : ClockId) (s : State) : State := departFrom c (s.lane c).trains s

/-- The gap timer expires: the ARRIVING train becomes SHORT and its uncounted lots MISSING (R29), and the head train
may leave (R32). Where one expiry raises both, the SHORT report is queued, and so numbered, before the TRAIN_DONE reports;
R29, R32 and R36 give them no order: DESIGN CHOICE, log entry 49. -/
def gapRunsOut (c : ClockId) (s : State) : State :=
  let lane := s.lane c
  let stopped := { lane with gapEnds := none }
  match lane.trains.find? fun t => t.state = .arriving with
  | none => s.setLane c stopped
  | some t =>
    let missed := t.trolleys.filter fun x => !x.counted
    let lots := missed.flatMap Trolley.places
    let t' : Train := { t with state := .short }
    let s := modLots makeMissing lots (s.setLane c { stopped with trains := replaceTrain t' lane.trains })
    testDepartures c (raise
      (.short c t.number (t.trolleys.filter Trolley.counted).length missed.length
        (lots.filter Option.isSome).length (missed.head?.map Trolley.tag)) s)

/-- The lots of one trolley QUEUED at their places, numbered from `place` (R4, R7). -/
def queuePlaces (c : ClockId) (train trolley : Nat) : Nat → List Nat → State → State
  | _, [], s => s
  | place, n :: rest, s =>
    queuePlaces c train trolley (place + 1) rest
      (s.modLot n fun l => { l with
        state := .queued
        position := some { lane := c, train := train, trolley := trolley, place := place } })

/-- The lots of a manifest QUEUED at their places, trolleys numbered from `trolley` (R4, R7). -/
def queueTrolleys (c : ClockId) (train : Nat) : Nat → List TrolleyEntry → State → State
  | _, [], s => s
  | trolley, t :: rest, s =>
    queueTrolleys c train (trolley + 1) rest (queuePlaces c train trolley 1 t.lots s)

/-- The train record of an announcement: nothing counted, every place holding its lot (R23). -/
def announcedTrain (a : TrainAnnouncement) : Train :=
  { number := a.train, state := .announced
    trolleys := a.trolleys.map fun t => { tag := t.tag, counted := false, places := t.lots.map some } }

/-- A lot that a cancel returns to ENTERED (R4). -/
def makeEntered (l : Lot) : Lot := { l with state := .entered, position := none }

/-- The manifest place of a removed lot made vacant (R14): every place of a lane that names the lot. -/
def vacate (n : Nat) (lane : Lane) : Lane :=
  { lane with trains := lane.trains.map fun t => { t with
      trolleys := t.trolleys.map fun x => { x with places := x.places.map fun p => if p = some n then none else p } } }

end Sys2Proof.Machine
end

