-- ==== Sys2Proof/Machine/Clocks.lean ====
section
/-! DEFINITION. The Clock Engine's moves (chapter 4): the start conditions and the tests made of them, entry to
RUNNING and to HELD, hold causes, the taking and the end of a lot, trading close and reopening. -/

namespace Sys2Proof.Machine

/-! ## Start conditions and the run -/

/-- The present truth of each start condition (the table of R63). A reservation that could be granted counts as true also
while a DAY-CLOSE in progress would defer the request (R152): DESIGN CHOICE, log entry 40. -/
def startConditions (s : State) (c : ClockId) : StartConditions :=
  { keyInSale := s.hall.key = .sale, boardOnline := (s.board c).online, timeSet := s.hall.timeSet,
    reservation := (s.clock c).reservation || grantable s, hostLinked := s.hlp.link = .linked }

/-- The conditions of R63 that apply to both load kinds, the reservation apart. -/
def hallReady (s : State) (c : ClockId) : Bool := s.hall.key = .sale && (s.board c).online && s.hall.timeSet

/-- A LOADED NEW clock asks for its reservation: its preview has expired and every start condition but the
reservation holds (R65). -/
def newReady (s : State) (c : ClockId) : Bool :=
  (s.clock c).previewEnds = none && hallReady s c && s.hlp.link = .linked

/-- The step timer started afresh for the present step (R44, R45). -/
def startStep (c : ClockId) (s : State) : State :=
  let x := s.clock c
  s.setClock c { x with stepTimer := .running (s.timebase + periodOf x.params x.k) }

/-- Entry to RUNNING from LOADED at step 0: step timer started, tick handed on, snapshot marked changed (R65,
R66). -/
def runClock (c : ClockId) (s : State) : State :=
  let s := leaveLoaded c s
  let s := startStep c (s.setClock c { s.clock c with state := .running, k := 0 })
  markChanged c (handTick c s)

/-- Entry to HELD with a full period of the present step to run on resume, hold-pending cleared, a CLOCK report and
a priority update (R69, R72, R73). -/
def enterHeld (c : ClockId) (cause : HoldCause) (s : State) : State :=
  let x := s.clock c
  let s := s.setClock c { x with
    state := .held, stepTimer := .halted (periodOf x.params x.k), holdPending := none }
  askUpdate c (raise (.clock c .held (.hold cause) x.lot x.run x.k) s)

/-- A LOADED NEW clock tests its start conditions and asks for its reservation when they hold (R64, R65); during a
DAY-CLOSE the request is deferred (R152). -/
def testNew (c : ClockId) (s : State) : State :=
  if newReady s c then
    if dayCloseRuns s then defer c s
    else if grantable s then runClock c (grant c s)
    else askLater c s
  else s

/-- A LOADED RESTART clock that holds its reservation: HELD with a pending hold, else RUNNING when the conditions of
R63 for RESTART hold (R66). -/
def testRestart (c : ClockId) (s : State) : State :=
  match (s.clock c).holdPending with
  | some cause => enterHeld c cause (leaveLoaded c s)
  | none => if hallReady s c then runClock c s else s

/-- A LOADED RESTART clock asks for its reservation (R64, R66, R152). -/
def askRestart (c : ClockId) (s : State) : State :=
  if dayCloseRuns s then defer c s
  else if grantable s then testRestart c (grant c s)
  else askLater c s

/-- A block tells the clock that a start condition has changed: a LOADED clock tests, in any other state the telling
has no effect (R63). -/
def tellClock (c : ClockId) (s : State) : State :=
  match (s.clock c).state with
  | .loaded .new => testNew c s
  | .loaded .restart => if (s.clock c).reservation then testRestart c s else s
  | _ => s

/-- The journal tells the clock that its free space has risen (R64, R147). -/
def tellSpace (c : ClockId) (s : State) : State :=
  match (s.clock c).state with
  | .loaded .new => testNew c s
  | .loaded .restart => if (s.clock c).reservation then testRestart c s else askRestart c s
  | _ => s

/-- A deferred request reaches the journal at the completion of the DAY-CLOSE (R152). -/
def releaseDeferred (c : ClockId) (s : State) : State :=
  match (s.clock c).state with
  | .loaded .new => testNew c s
  | .loaded .restart => if (s.clock c).reservation then s else askRestart c s
  | _ => s

/-! ## Holds -/

/-- A hold cause acts by the clock's state (the table of R72); a second cause while one is pending changes nothing
(R73). -/
def holdClock (c : ClockId) (cause : HoldCause) (s : State) : State :=
  let pend := s.setClock c { s.clock c with holdPending := some ((s.clock c).holdPending.getD cause) }
  match (s.clock c).state with
  | .running => enterHeld c cause s
  | .stopping => pend
  | .deciding => pend
  | .sold => pend
  | .loaded _ => s
  | .held => s
  | .idle => s
  | .closed => s

/-! ## Taking and ending a lot -/

/-- An IDLE clock may take its lane's candidate: READY, closing flag clear, link LINKED (R62). -/
def mayTake (s : State) (c : ClockId) : Option Lot :=
  match candidate s c with
  | some l =>
    if (s.clock c).state = .idle ∧ l.state = .ready ∧ (s.clock c).closing = false ∧ s.hlp.link = .linked then some l
    else none
  | none => none

/-- The taking of a lot as LOADED NEW (R62), with the lot mark of R153 and the emptied last sale of R140. The mark is last
written + 1 also where that is 4,294,967,296, above the range R146 gives it: DESIGN CHOICE, log entry 43. -/
def takeLot (c : ClockId) (l : Lot) (s : State) : State :=
  let x := s.clock c
  let s := s.modLot l.number fun l => { l with state := .onClock }
  let s := s.setClock c { x with
    state := .loaded .new, lot := some l.number, run := (x.run + 1) % 16, k := 0, startPrice := some l.startPrice,
    previewEnds := some (s.timebase + x.params.preview * Config.ms) }
  let s := setLotMark c (some (s.ledger.journal.lastWritten + 1)) s
  askUpdate c (s.setLastSale c none)

/-- A clock without a lot, in `state` (R71, R77): k 0 and no S (log entry 6). -/
def emptyClock (x : Clock) (state : ClockState) : Clock :=
  { x with
    state := state, lot := none, k := 0, startPrice := none, lastSalePrice := none, stepTimer := .stopped,
    previewEnds := none, pauseEnds := none, windowEnds := none, collection := [], holdPending := none,
    asked := false }

/-- The clock ends its current lot (R71): the lot's end state, the clock in IDLE or CLOSED, LOT_DONE and CLOCK
reports, the lane's departure test, a priority update. LOT_DONE is queued before CLOCK, and both before the TRAIN_DONE
reports of the departures; R71 and R36 give them no order: DESIGN CHOICE, log entry 49. -/
def endLot (c : ClockId) (cause : LotEndCause) (s : State) : State :=
  match s.currentLot c with
  | none => s
  | some l =>
    let s := s.modLot l.number fun l => { l with state := endStateOf l }
    let after : ClockState := if (s.clock c).closing then .closed else .idle
    let s := leaveLoaded c s
    let s := setLotMark c none (s.setClock c (emptyClock (s.clock c) after))
    let s := raise (.lotDone c l.number (endStateOf l) l.packsSold l.packsRemaining cause) s
    let s := raise (.clock c after .lotEnd none (s.clock c).run 0) s
    askUpdate c (testDepartures c s)

/-- The step timer of a RUNNING clock expires: an advance, or the withdrawal at reserve (R42, R67). -/
def stepClock (c : ClockId) (s : State) : State :=
  let x := s.clock c
  match s.currentLot c, x.startPrice with
  | some l, some p =>
    if mayAdvance p x.k (stepSizeOf l x.params) l.reservePrice then
      markChanged c (handTick c (startStep c (s.setClock c { x with k := x.k + 1 })))
    else endLot c .reserve (writeNoSale c .reserve s)
  | _, _ => s

/-- Pause expiry: LOADED RESTART with a raised start price and a new run number, a priority update, and the request
for a reservation (R66, R70). -/
def restartClock (c : ClockId) (s : State) : State :=
  let x := s.clock c
  match s.currentLot c, x.lastSalePrice with
  | some l, some p =>
    let s := s.setClock c { x with
      state := .loaded .restart, run := (x.run + 1) % 16, k := 0, pauseEnds := none,
      startPrice := some (restartPrice l.startPrice p x.params.lift) }
    askRestart c (askUpdate c s)
  | _, _ => s

/-! ## Trading close and reopening -/

/-- The close alarm at one clock (the table of R77). -/
def closeClock (c : ClockId) (s : State) : State :=
  let s := s.setClock c { s.clock c with closing := true }
  match (s.clock c).state with
  | .idle =>
    raise (.clock c .closed .close none (s.clock c).run (s.clock c).k)
      (s.setClock c { s.clock c with state := .closed })
  | .loaded .new =>
    let s := match (s.clock c).lot with
      | some n => s.modLot n fun l => { l with state := .ready }
      | none => s
    let s := leaveLoaded c s
    let s := setLotMark c none (s.setClock c (emptyClock (s.clock c) .closed))
    askUpdate c (raise (.clock c .closed .close none (s.clock c).run 0) s)
  | _ => s

/-- CLOCK-OPEN at one clock (R78). -/
def openClock (c : ClockId) (s : State) : State :=
  let s := s.setClock c { s.clock c with closing := false }
  match (s.clock c).state with
  | .closed =>
    raise (.clock c .idle .open_ none (s.clock c).run (s.clock c).k)
      (s.setClock c { s.clock c with state := .idle })
  | _ => s

/-! ## Board events that reach the clock -/

/-- A miss of a board (R175): counted, and a third in a row takes an ONLINE board OFFLINE, with a BOARD report and a
hold cause for its clock. -/
def missBoard (c : ClockId) (s : State) : State :=
  let b := s.board c
  let n := countUp Config.boardMissLimit b.misses
  let y := { b with missCount := countUp top16 b.missCount, misses := n }
  if b.online && n = Config.boardMissLimit then
    let s := s.setBoard c { y with
      online := false, updatePending := false, snapshotChanged := true, activity := .idle }
    holdClock c .board (raise (.board c false y.missCount) s)
  else linkFree c (s.setBoard c y)

/-- A good answer (R174); to a board that was OFFLINE it brings the return of R176. -/
def goodAnswer (c : ClockId) (s : State) : State :=
  let b := s.board c
  let y := { b with misses := 0 }
  if b.online then linkFree c (s.setBoard c y)
  else
    let s := s.setBoard c { y with online := true, activity := .idle }
    tellClock c (sendDisplay c (raise (.board c true b.missCount) s))

end Sys2Proof.Machine
end

