-- ==== Sys2Proof/Machine/BoardEvents.lean ====
section
/-! DEFINITION. The events of the board links (9.2 to 9.5): refresh windows, the end of a transmission, answers and
misses. -/

namespace Sys2Proof.Machine

/-- The refresh timer expires and runs its period again (R172). -/
def nextWindow (b : ClockId) (s : State) : State :=
  let x := s.board b
  let s := s.reach x.windowAt
  s.setBoard b { x with windowAt := x.windowAt + x.period * Config.ms }

/-- The frame or probe has gone out and its answer is awaited for 10 ms (R174). -/
def awaitAnswer (b : ClockId) (f : BoardFrame) (s : State) : State :=
  s.setBoard b { s.board b with activity := .awaiting f (s.timebase + Config.boardAnswerWait) }

/-- REFRESH_WINDOW (R172, R176). -/
def execRefreshWindow (b : ClockId) (s : State) : Host.Outcome State Fault Refusal :=
  .next (whenPowered s (refreshBoard b (nextWindow b s)))

/-- BOARD_TRANSMIT_END (R174). -/
def execBoardTransmitEnd (b : ClockId) (s : State) : Host.Outcome State Fault Refusal :=
  .next (whenPowered s
    (match (s.board b).activity with
      | .sending f => awaitAnswer b f s
      | .awaiting _ _ => s
      | .idle => s))

/-- BOARD_ANSWER_GOOD (R174, R176): good when it is awaited and carries the number of the frame sent; any other answer
is discarded and counted. An answer to a frame of before a CONTROLLER-RESET's warm start that comes while the new frame of
the same number is awaited is good by that number, where R181 has answers of before the start discarded: DESIGN CHOICE,
log entry 51. -/
def execBoardAnswerGood (b : ClockId) (number : Nat) (s : State) : Host.Outcome State Fault Refusal :=
  .next (whenPowered s
    (match (s.board b).activity with
      | .awaiting f _ => if number = f.number then goodAnswer b s else discardAnswer b s
      | .sending _ => discardAnswer b s
      | .idle => discardAnswer b s))

/-- BOARD_ANSWER_BAD (R174). -/
def execBoardAnswerBad (b : ClockId) (s : State) : Host.Outcome State Fault Refusal :=
  .next (whenPowered s (discardAnswer b s))

/-- BOARD_ANSWER_TIMEOUT (R174, R175). -/
def execBoardAnswerTimeout (b : ClockId) (s : State) : Host.Outcome State Fault Refusal :=
  .next (whenPowered s
    (match (s.board b).activity with
      | .awaiting _ t => missBoard b (s.reach t)
      | .sending _ => s
      | .idle => s))

end Sys2Proof.Machine
end

