-- ==== Sys2Proof/Machine/Operands.lean ====
section
/-! DEFINITION. The operand forms of the requests: which fields are in range, and the position of the first field at
fault, counted from 1 in the order in which the rule of the request names its fields (R196; the counting of fields
within lists and forms is DEDUCED, log entry 7). -/

namespace Sys2Proof.Machine

/-- The position, from `pos` on, of the first check that fails. -/
def faultFrom : Nat → List Bool → Option Nat
  | _, [] => none
  | pos, true :: rest => faultFrom (pos + 1) rest
  | pos, false :: _ => some pos

/-- The position of the first field at fault, from 1. -/
def firstFault (checks : List Bool) : Option Nat := faultFrom 1 checks

/-- `lo ≤ n ≤ hi` (0.5.1). -/
def inRange (lo hi n : Nat) : Bool := lo ≤ n && n ≤ hi

/-- An optional field is in range when it is absent or its value is. -/
def inRangeOpt (lo hi : Nat) : Option Nat → Bool
  | none => true
  | some n => inRange lo hi n

/-- A text of at most `top` printable characters of code 32 to 126 (R1, R126). -/
def goodText (top : Nat) : Option (List Nat) → Bool
  | none => true
  | some t => t.length ≤ top && t.all (inRange 32 126)

/-- A text given with 0 characters is stored as absent (R2, R128). -/
def storedText : Option (List Nat) → Option (List Nat)
  | some [] => none
  | t => t

/-! ## Lots -/

/-- The field checks of LOT-ENTER, in the order of the table of R1 (R10). -/
def lotFault (a : LotFields) : Option Nat :=
  firstFault [inRange 1 65535 a.number, inRange 1 99999 a.grower, inRange 1 65535 a.product, a.quality.isSome,
    inRangeOpt 10 150 a.stemLength, goodText 24 a.text, inRange 1 999 a.unitsPerPack, inRange 1 9999 a.packsOffered,
    inRange 1 a.packsOffered a.minTake, inRange 2 99999 a.startPrice, inRange 1 (a.startPrice - 1) a.reservePrice,
    inRangeOpt 1 9999 a.priceStep]

/-- An optional field after an amendment (R12). -/
def amended {α : Type} (c : Change α) (old : Option α) : Option α :=
  match c with
  | .keep => old
  | .absent => none
  | .give v => some v

/-- The record as it would stand after the amendment (R12). -/
def assembled (a : LotAmendment) (l : Lot) : LotFields :=
  { number := l.number, grower := a.grower.getD l.grower, product := a.product.getD l.product,
    quality := a.quality.getD (some l.quality), stemLength := amended a.stemLength l.stemLength,
    text := amended a.text l.text, unitsPerPack := a.unitsPerPack.getD l.unitsPerPack,
    packsOffered := a.packsOffered.getD l.packsOffered, minTake := a.minTake.getD l.minTake,
    startPrice := a.startPrice.getD l.startPrice, reservePrice := a.reservePrice.getD l.reservePrice,
    priceStep := amended a.priceStep l.priceStep }

/-! ## Trains and lanes -/

/-- The checks of one trolley's lots in request order: each number in range and not named before. -/
def lotChecks (seen : List Nat) : List Nat → List Bool
  | [] => []
  | n :: rest => (inRange 1 65535 n && !seen.contains n) :: lotChecks (n :: seen) rest

/-- The checks of a manifest in request order: for each trolley its tag, its lot count and its lots (R22). -/
def trolleyChecks (tags lots : List Nat) : List TrolleyEntry → List Bool
  | [] => []
  | t :: rest =>
    (inRange 1 65535 t.tag && !tags.contains t.tag) :: inRange 1 Config.trolleyLots t.lots.length ::
      (lotChecks lots t.lots ++ trolleyChecks (t.tag :: tags) (t.lots ++ lots) rest)

/-- The field checks of TRAIN-ANNOUNCE: lane, train number, trolley count, then the manifest (R22). -/
def announceFault (a : TrainAnnouncement) : Option Nat :=
  firstFault ([inRange 1 4 a.lane, inRange 1 9999 a.train, inRange 1 Config.trainTrolleys a.trolleys.length] ++
    trolleyChecks [] [] a.trolleys)

/-- A lane 1 to 4 and a train number (R24, R35). -/
def laneTrainFault (lane train : Nat) : Option Nat := firstFault [inRange 1 4 lane, inRange 1 9999 train]

/-- The field checks of LANE-SET (R33). -/
def laneSetFault (a : LaneSettings) : Option Nat :=
  firstFault [inRange 0 4 a.lane, inRangeOpt 1 15 a.count, inRangeOpt 1 60 a.gapTime]

/-! ## Clocks -/

/-- The trim's range (R58). -/
def goodTrim : Option Int → Bool
  | none => true
  | some t => decide (-64 ≤ t ∧ t ≤ 63)

/-- The field checks of CLOCK-SET: the clock, then the parameters in the order of R58 (R59). -/
def clockSetFault (a : ClockSettings) : Option Nat :=
  firstFault [inRange 0 4 a.clock, inRangeOpt 2000 250000 a.period, goodTrim a.trim, inRangeOpt 1 9999 a.defaultStep,
    inRangeOpt 0 10000 a.preview, inRangeOpt 0 80 a.window, inRangeOpt 0 3 a.ageLimit, inRangeOpt 0 9999 a.lift,
    inRangeOpt 0 5000 a.pause]

/-- The parameters with the values given stored (R59). -/
def setParams (a : ClockSettings) (p : ClockParams) : ClockParams :=
  { period := a.period.getD p.period, trim := a.trim.getD p.trim, defaultStep := a.defaultStep.getD p.defaultStep,
    preview := a.preview.getD p.preview, window := a.window.getD p.window, ageLimit := a.ageLimit.getD p.ageLimit,
    lift := a.lift.getD p.lift, pause := a.pause.getD p.pause }

/-! ## Ledger requests -/

/-- The field checks of a host ledger request, made on arrival (R128 to R133, R141, R156, R162, R163). -/
def ledgerFault : LedgerRequest → Option Nat
  | .buyerEnter a =>
    firstFault [inRange 1 9999 a.number, goodText 12 a.name, a.feeClass ≤ 7, a.limit ≤ Config.ledgerCeiling]
  | .buyerFlags a => firstFault [inRange 1 9999 a.number, a.action.isSome, !noFlags a.flags]
  | .buyerLimit number limit => firstFault [inRange 1 9999 number, limit ≤ Config.ledgerCeiling]
  | .buyerRemove number => firstFault [inRange 1 9999 number]
  | .tariffSet feeClass rate => firstFault [feeClass ≤ 7, rate ≤ 2000]
  | .saleVoid sequence => firstFault [inRange 1 Config.lastSequence sequence]
  | .paymentPost invoice => firstFault [inRange 1 999999 invoice]
  | .invoiceClose (.invoice n) => firstFault [inRange 1 999999 n]
  | .invoiceClose (.buyer n) => firstFault [inRange 1 9999 n]
  | .dayClose => none

/-- The field checks of INVOICE-QUERY (R164). -/
def invoiceQueryFault : InvoiceQuery → Option Nat
  | .byNumber n => firstFault [inRange 1 999999 n]
  | .nextAfter n buyer _ => firstFault [n ≤ 999999, inRangeOpt 1 9999 buyer]

/-! ## Journal, boards, hall, link -/

/-- The field checks of JOURNAL-READ (R154). -/
def journalReadFault (start count : Nat) : Option Nat :=
  firstFault [inRange 1 Config.lastSequence start, inRange 1 8 count]

/-- The field checks of BOARD-SET (R177). -/
def boardSetFault (board period : Nat) : Option Nat := firstFault [inRange 0 4 board, inRange 20 200 period]

/-- The field checks of HALL-TIME-SET (R185). -/
def timeFault (t : Stamp) : Option Nat :=
  firstFault [inRange 2000 2099 t.year, inRange 1 12 t.month, inRange 1 (daysOf t.year t.month) t.day, t.hour ≤ 23,
    t.minute ≤ 59, t.second ≤ 59, t.hundredth ≤ 99]

/-- The field checks of CLOSE-ALARM-SET, in the order hour, its enable, minute, its enable (R188). -/
def alarmFault (a : Alarm) : Option Nat := firstFault [a.hour ≤ 23, true, a.minute ≤ 59, true]

/-- The four link rates (R194). -/
def goodRate (rate : Nat) : Bool := rate = 115200 || rate = 230400 || rate = 460800 || rate = 921600

/-- The field checks of LINK-SET (R201). -/
def linkSetFault (rate : Nat) (supervision : Option Supervision) : Option Nat :=
  firstFault [goodRate rate, supervision.isSome]

end Sys2Proof.Machine
end

