-- ==== Sys2Proof/Machine/Settlement.lean ====
section
/-! DEFINITION. The ledger operations of the Settlement Unit (chapters 7 and 8): what each reads and checks when it
is served (`judgeCommit`, `judgeRequest`) and what each changes at its completion (`writeSale`, `applyRequest`).
The arbiter that serves them is in Decision.lean. -/

namespace Sys2Proof.Machine

/-! ## SALE-COMMIT -/

/-- The levy rate of a fee class, in basis points (R133). -/
def rateOf (s : State) (feeClass : Nat) : Nat :=
  if h : feeClass < 8 then s.ledger.tariff.get ⟨feeClass, h⟩ else 0

/-- Available credit: limit − committed (R127). -/
def availableCredit (b : Buyer) : Nat := b.limit - b.committed

/-- Check 5 of R138: the figures of the sale, or the refusal for CREDIT with its figures (R49 to R53). -/
def judgeCredit (b : Buyer) (l : Lot) (price rate requested : Nat) : CommitAnswer :=
  let q := clampPacks requested l.packsRemaining l.minTake
  match affordable (debitOf price l.unitsPerPack rate) (availableCredit b) l.minTake q with
  | some packs =>
    let amount := amountOf price l.unitsPerPack packs
    .accepted
      { buyer := b.number, price := price, units := l.unitsPerPack, quantity := q, packs := packs, amount := amount,
        levy := levyOf rate amount, debit := debitOf price l.unitsPerPack rate packs }
  | none =>
    .refused (.credit
      { buyer := b.number, price := price, quantity := q,
        minTakeDebit := debitOf price l.unitsPerPack rate l.minTake, available := availableCredit b })

/-- The checks of SALE-COMMIT in the order of R138, on what it reads when it is served (R137). A binding always names an
existing account, and the lot and the run of an offering clock always exist (R137), so a bound desk is never refused in the
first arm, and the last arm is never met: what the model answers there is log entry 24's. -/
def judgeCommit (s : State) (c : ClockId) (r : CommitRequest) : CommitAnswer :=
  match (s.desk r.desk).binding.bind s.buyer with
  | none => .refused .notSigned
  | some b =>
    if b.flags.blocked then .refused .blocked
    else if !b.flags.permit.get c then .refused .notPermitted
    else if b.openInvoice = none ∧ Config.invoiceSlots ≤ s.ledger.invoices.length then .refused .invoiceFull
    else
      match s.lot r.lot, (s.clock c).startPrice with
      | some l, some p =>
        judgeCredit b l (priceAt p r.step (stepSizeOf l (s.clock c).params)) (rateOf s b.feeClass) r.packs
      | _, _ => .refused .notSigned

/-- The number after an invoice number: 999,999 is followed by 1 (R160). -/
def numberAfter (n : Nat) : Nat := if n < 999999 then n + 1 else 1

/-- The first number, counting upward from `n`, that no slot holds (R160). With as many tries as held numbers one is
always found. -/
def freeNumber (held : Nat → Bool) : Nat → Nat → Nat
  | 0, n => n
  | tries + 1, n => if held n then freeNumber held tries (numberAfter n) else n

/-- The number the next invoice takes (R160). -/
def newInvoiceNumber (s : State) : Nat :=
  freeNumber (fun n => (s.invoice n).isSome) s.ledger.invoices.length s.ledger.nextInvoice

/-- A new OPEN invoice whose first line has sequence `first` (R139, R160). -/
def openInvoice (buyer first : Nat) (s : State) : State :=
  let n := newInvoiceNumber s
  let s := s.modBuyer buyer fun b => { b with openInvoice := some n }
  { s with ledger := { s.ledger with
      nextInvoice := numberAfter n
      invoices := insertKey Invoice.number
        { number := n, buyer := buyer, state := .opened, lineCount := 0, firstLine := first, lastLine := first,
          goods := 0, levies := 0, debits := 0, residue := none, total := none } s.ledger.invoices } }

/-- The open invoice of a buyer (R126). -/
def openInvoiceOf (s : State) (buyer : Nat) : Option Nat := (s.buyer buyer).bind Buyer.openInvoice

/-- All the changes of an accepted SALE-COMMIT, in one operation (R139): SALE line in the reserved place, invoice,
account, lot, last sale, counters (R142). -/
def writeSale (c : ClockId) (r : CommitRequest) (f : SaleFigures) (s : State) : State :=
  let seq := s.ledger.journal.lastWritten + 1
  let s := if (openInvoiceOf s f.buyer).isSome then s else openInvoice f.buyer seq s
  let number := (openInvoiceOf s f.buyer).getD 0
  let s := writeLine
    { sequence := 0, kind := .sale, stamp := calendarOrigin, stampValid := false, clock := c, lot := r.lot,
      run := (s.clock c).run, buyer := some f.buyer, desk := some r.desk, invoice := some number,
      voidedSequence := none, voided := false, cause := none, packs := f.packs, unitsPerPack := f.units,
      price := f.price, amount := f.amount, levy := f.levy, debit := f.debit } s
  let s := s.setClock c { s.clock c with reservation := false }
  let s := s.modInvoice number fun i => { i with
    lineCount := i.lineCount + 1, lastLine := seq, goods := i.goods + f.amount, levies := i.levies + f.levy,
    debits := i.debits + f.debit }
  let s := s.modBuyer f.buyer fun b => { b with committed := b.committed + f.debit }
  let s := s.modLot r.lot fun l => { l with
    packsSold := l.packsSold + f.packs, packsRemaining := l.packsRemaining - f.packs }
  let s := s.setLastSale c (some
    { lot := r.lot, buyer := f.buyer, desk := r.desk, packs := f.packs, price := f.price, sequence := seq })
  s.count fun n => { n with
    accepted := countUp top16 n.accepted
    cut := if f.packs < f.quantity then countUp top16 n.cut else n.cut }

/-- A refused SALE-COMMIT changes its counter and nothing else (R116, R142). -/
def countRefusal (r : CommitRefusal) (s : State) : State :=
  s.count fun n =>
    match r with
    | .notSigned => { n with notSigned := countUp top16 n.notSigned }
    | .blocked => { n with blocked := countUp top16 n.blocked }
    | .notPermitted => { n with notPermitted := countUp top16 n.notPermitted }
    | .invoiceFull => { n with invoiceFull := countUp top16 n.invoiceFull }
    | .credit _ => { n with credit := countUp top16 n.credit }

/-! ## Host ledger requests -/

/-- The line with a sequence, written and unreleased (R146). -/
def State.line (s : State) (n : Nat) : Option JournalLine :=
  findKey JournalLine.sequence n s.ledger.journal.lines

/-- The clock a SALE-VOID's line names, as read at its service (R156). -/
def lineClock (s : State) : LedgerRequest → Option ClockId
  | .saleVoid n => (s.line n).map JournalLine.clock
  | _ => none

/-- Check 3 of R156: the line's clock is HELD with the line's lot and its lot mark at or below the line. -/
def voidable (s : State) (l : JournalLine) : Bool :=
  (s.clock l.clock).state = .held && (s.clock l.clock).lot = some l.lot &&
    (match s.ledger.journal.lotMark.get l.clock with
      | some m => m ≤ l.sequence
      | none => false)

/-- Check 4 of R156: the line's invoice is held, OPEN, and was not opened after the line. -/
def invoiceTakesVoid (s : State) (l : JournalLine) : Bool :=
  match l.invoice.bind s.invoice with
  | some i => i.state = .opened && i.firstLine ≤ l.sequence
  | none => false

/-- The checks of SALE-VOID when it is served (R156). -/
def judgeVoid (s : State) (n : Nat) : Service :=
  match s.line n with
  | none => .refuse .notFound .empty
  | some l =>
    if l.kind ≠ .sale ∨ l.voided then .refuse .state .empty
    else if !voidable s l then .refuse .state .empty
    else if !invoiceTakesVoid s l then .refuse .state .empty
    else if !grantable s then .refuse .journalFull .empty
    else .go

/-- The invoice an INVOICE-CLOSE would close, or its refusal (R162). -/
def invoiceToClose (s : State) : InvoiceChoice → Service × Option Nat
  | .invoice n =>
    match s.invoice n with
    | none => (.refuse .notFound .empty, none)
    | some i => if i.state = .opened then (.go, some n) else (.refuse .state .empty, none)
  | .buyer n =>
    match s.buyer n with
    | none => (.refuse .notFound .empty, none)
    | some b =>
      match b.openInvoice with
      | none => (.refuse .state .empty, none)
      | some i => (.go, some i)

/-- The lowest-numbered clock in a state other than IDLE or CLOSED (R163). -/
def busyClock (s : State) : Option ClockId :=
  allClocks.find? fun c => (s.clock c).state ≠ .idle ∧ (s.clock c).state ≠ .closed

/-- The invoices of a buyer that are CLOSED. -/
def closedInvoices (s : State) (buyer : Nat) : Nat :=
  (s.ledger.invoices.filter fun i => i.buyer = buyer ∧ i.state = .closed).length

/-- The checks a host ledger request meets when it is served (R128 to R131, R133, R141, R156, R162, R163). -/
def judgeRequest (s : State) : LedgerRequest → Service
  | .buyerEnter a =>
    if (s.buyer a.number).isSome then .refuse .exists_ .empty
    else if Config.buyerAccounts ≤ s.ledger.buyers.length then .refuse .full .empty
    else .go
  | .buyerFlags a => if (s.buyer a.number).isSome then .go else .refuse .notFound .empty
  | .buyerLimit number limit =>
    match s.buyer number with
    | none => .refuse .notFound .empty
    | some b => if limit < b.committed then .refuse .belowCommitted (.committed b.committed) else .go
  | .buyerRemove number =>
    match s.buyer number with
    | none => .refuse .notFound .empty
    | some b =>
      if 0 < b.committed ∨ b.openInvoice.isSome ∨ 0 < b.boundDesks ∨ 0 < closedInvoices s number then
        .refuse .state .empty
      else .go
  | .tariffSet _ _ => .go
  | .saleVoid n => judgeVoid s n
  | .paymentPost n =>
    match s.invoice n with
    | none => .refuse .notFound .empty
    | some i => if i.state = .opened then .refuse .state .empty else .go
  | .invoiceClose which => (invoiceToClose s which).1
  | .dayClose =>
    match busyClock s with
    | some c => .refuse .state (.clockAtFault c)
    | none => .go

/-- The buyer's committed, 0 where no account exists. -/
def committedOf (s : State) (buyer : Nat) : Nat := ((s.buyer buyer).map Buyer.committed).getD 0

/-- The buyer's available credit, 0 where no account exists. -/
def availableOf (s : State) (buyer : Nat) : Nat := ((s.buyer buyer).map availableCredit).getD 0

/-- An invoice closed: total and residue stored, the buyer's open invoice absent and committed lowered by the
residue (R55, R162). -/
def closeInvoice (n : Nat) (s : State) : State :=
  match s.invoice n with
  | none => s
  | some i =>
    let s := s.modInvoice n fun i => { i with
      state := .closed, total := some (totalOf i.debits), residue := some (residueOf i.debits) }
    s.modBuyer i.buyer fun b => { b with openInvoice := none, committed := b.committed - residueOf i.debits }

/-- INVOICE-CLOSE accepted, with its reply (R162). -/
def applyClose (n : Nat) (s : State) : Answer :=
  match s.invoice n with
  | none => refuse s .notFound
  | some i =>
    let t := closeInvoice n s
    accept t (.invoiceClosed
      { invoice := n, buyer := i.buyer, lineCount := i.lineCount, goods := i.goods, levies := i.levies,
        debits := i.debits, total := totalOf i.debits, residue := residueOf i.debits,
        committed := committedOf t i.buyer })

/-- The OPEN invoices in ascending number. -/
def openInvoices (s : State) : List Invoice := s.ledger.invoices.filter fun i => i.state = .opened

/-- DAY-CLOSE accepted: each OPEN invoice closed, in ascending number (R163). -/
def applyDayClose (s : State) : Answer :=
  let l := openInvoices s
  accept (l.foldl (fun s i => closeInvoice i.number s) s)
    (.dayClosed l.length (l.map fun i => totalOf i.debits).sum (l.map fun i => residueOf i.debits).sum)

/-- The changes of an accepted SALE-VOID, in one event (R157). -/
def writeVoid (l : JournalLine) (s : State) : State :=
  let seq := s.ledger.journal.lastWritten + 1
  let s := writeLine { l with kind := .void, voidedSequence := some l.sequence, voided := false } s
  let s := s.setJournal { s.ledger.journal with
    lines := modKey JournalLine.sequence l.sequence (fun x => { x with voided := true }) s.ledger.journal.lines }
  let s := s.modLot l.lot fun x => { x with
    packsSold := x.packsSold - l.packs, packsRemaining := x.packsRemaining + l.packs }
  let s := s.modBuyer (l.buyer.getD 0) fun b => { b with committed := b.committed - l.debit }
  let s := s.modInvoice (l.invoice.getD 0) fun i => { i with
    goods := i.goods - l.amount, levies := i.levies - l.levy, debits := i.debits - l.debit,
    lineCount := i.lineCount + 1, lastLine := seq }
  let s := match s.ledger.lastSale.get l.clock with
    | some x => if x.sequence = l.sequence then s.setLastSale l.clock none else s
    | none => s
  s.setBoard l.clock { s.board l.clock with snapshotChanged := true }

/-- SALE-VOID at its completion: checks 1 and 5 again, then its changes and its reply (R156, R157). -/
def applyVoid (n : Nat) (s : State) : Answer :=
  match s.line n with
  | none => refuse s .notFound
  | some l =>
    if !grantable s then refuse s .journalFull
    else
      let t := writeVoid l s
      let b := l.buyer.getD 0
      accept t (.voided
        { sequence := s.ledger.journal.lastWritten + 1, buyer := b, invoice := l.invoice.getD 0, packs := l.packs,
          debit := l.debit, committed := committedOf t b, available := availableOf t b,
          invoiceDebits := (((t.invoice (l.invoice.getD 0)).map Invoice.debits).getD 0),
          packsSold := ((t.lot l.lot).map Lot.packsSold).getD 0,
          packsRemaining := ((t.lot l.lot).map Lot.packsRemaining).getD 0 })

/-- PAYMENT-POST accepted: committed lowered by 10 × total and the slot freed (R56, R141). -/
def applyPayment (n : Nat) (s : State) : Answer :=
  match s.invoice n with
  | none => refuse s .notFound
  | some i =>
    let total := i.total.getD 0
    let s := s.modBuyer i.buyer fun b => { b with committed := b.committed - 10 * total }
    let s := { s with ledger := { s.ledger with invoices := dropKey Invoice.number n s.ledger.invoices } }
    accept s (.paid i.buyer total (committedOf s i.buyer) (availableOf s i.buyer))

/-- A new account (R128). -/
def newBuyer (a : BuyerEntry) : Buyer :=
  { number := a.number, name := storedText a.name, feeClass := a.feeClass, limit := a.limit, committed := 0,
    flags := { blocked := false, permit := Vector.replicate 4 true }, openInvoice := none, boundDesks := 0 }

/-- What an accepted host ledger request changes at its completion, with its reply; SALE-VOID and BUYER-REMOVE check
once more (R131, R156). -/
def applyRequest (s : State) : LedgerRequest → Answer
  | .buyerEnter a =>
    let s := { s with ledger := { s.ledger with buyers := insertKey Buyer.number (newBuyer a) s.ledger.buyers } }
    accept s (.accounts s.ledger.buyers.length)
  | .buyerFlags a =>
    let s := s.modBuyer a.number fun b => { b with flags := applyFlags (a.action.getD .set) a.flags b.flags }
    match s.buyer a.number with
    | some b => accept s (.flags b.flags)
    | none => refuse s .notFound
  | .buyerLimit number limit =>
    let s := s.modBuyer number fun b => { b with limit := limit }
    accept s (.limit limit (committedOf s number) (availableOf s number))
  | .buyerRemove number =>
    if ((s.buyer number).map Buyer.boundDesks).getD 0 = 0 then
      let s := { s with ledger := { s.ledger with buyers := dropKey Buyer.number number s.ledger.buyers } }
      accept s (.accounts s.ledger.buyers.length)
    else refuse s .state
  | .tariffSet feeClass rate =>
    if h : feeClass < 8 then
      accept { s with ledger := { s.ledger with tariff := s.ledger.tariff.set feeClass rate } }
    else refuse s .badField
  | .saleVoid n => applyVoid n s
  | .paymentPost n => applyPayment n s
  | .invoiceClose which =>
    match (invoiceToClose s which).2 with
    | some n => applyClose n s
    | none => refuse s .state
  | .dayClose => applyDayClose s

end Sys2Proof.Machine
end

