-- ==== Sys2Proof/Machine/Decision.lean ====
section
/-! DEFINITION. Stop decisions and the ledger arbiter (chapters 6 and 7): the collection, the offering of candidates,
the service and the completion of ledger operations, and what the clock does with each answer. -/

namespace Sys2Proof.Machine

/-! ## The arbiter -/

/-- What the arbiter chooses to serve (R135). -/
inductive Choice
  | commit (c : ClockId)
  | request
  | nothing
  deriving DecidableEq, Repr

/-- The clocks from the one after the clock last served, round from 4 to 1 (R135). -/
def serviceOrder (last : ClockId) : List ClockId := [last + 1, last + 2, last + 3, last]

/-- The choice among the waiting operations (R135). -/
def choose (a : Arbiter) : Choice :=
  match (serviceOrder a.lastServed).find? fun c => (a.commits.get c).isSome with
  | some c => .commit c
  | none => if a.requests.isEmpty then .nothing else .request

/-- Whether the arbiter may serve: nothing in progress, no reset under way, the main supply present (R135, R145,
R202). -/
def mayServe (s : State) : Bool :=
  s.ledger.arbiter.inProgress = none && s.hlp.resetting = none && s.hall.main = .present

/-- The chosen operation is served: it reads what it reads once, now (R136). -/
def serveChoice (x : Choice) (s : State) : State :=
  let a := s.ledger.arbiter
  match x with
  | .commit c =>
    match a.commits.get c with
    | some r =>
      s.setArbiter { a with
        inProgress := some (.commit c r (judgeCommit s c r)), commits := a.commits.set c none, lastServed := c }
    | none => s
  | .request =>
    match a.requests with
    | (tag, r) :: rest =>
      s.setArbiter { a with
        inProgress := some (.host tag r (lineClock s r) (judgeRequest s r)), requests := rest }
    | [] => s
  | .nothing => s

/-- An operation that arrives at an arbiter with none in progress is served (R135). -/
def serveWaiting (s : State) : State := if mayServe s then serveChoice (choose s.ledger.arbiter) s else s

/-- The waiting operations are dropped without being served and without a reply (R145). -/
def dropWaiting (s : State) : State :=
  s.setArbiter { s.ledger.arbiter with commits := Vector.replicate 4 none, requests := [] }

/-! ## The offering -/

/-- The clock places a SALE-COMMIT for the head entry of its collection (R114). -/
def placeCommit (c : ClockId) (s : State) : State :=
  match (s.clock c).collection, (s.clock c).lot with
  | p :: _, some n =>
    let a := s.ledger.arbiter
    s.setArbiter { a with
      commits := a.commits.set c (some { lot := n, desk := p.desk, packs := p.packs, step := p.step }) }
  | _, _ => s

/-- Entry to DECIDING: the first candidate is offered (R68, R112, R114). -/
def enterDeciding (c : ClockId) (s : State) : State :=
  serveWaiting (placeCommit c (s.setClock c { s.clock c with state := .deciding, windowEnds := none }))

/-- Every candidate refused: back to RUNNING at the same step without a tick, or HELD with a hold pending (R69,
R120). -/
def allRefused (c : ClockId) (s : State) : State :=
  match (s.clock c).holdPending with
  | some cause => enterHeld c cause s
  | none => askUpdate c (startStep c (s.setClock c { s.clock c with state := .running }))

/-- The desk's reason for a refused commit (R116). -/
def refusalReason : CommitRefusal → DeskRefusal
  | .notSigned => .notSigned
  | .blocked => .blocked
  | .notPermitted => .notPermitted
  | .invoiceFull => .invoiceFull
  | .credit _ => .credit

/-- A CREDIT refusal queues a CREDIT_REFUSED report (R117). -/
def reportCredit (c : ClockId) (r : CommitRequest) (x : CommitRefusal) (s : State) : State :=
  match x with
  | .credit f =>
    raise (.creditRefused
      { clock := c, lot := r.lot, run := (s.clock c).run, desk := r.desk, buyer := f.buyer, step := r.step,
        price := f.price, requested := r.packs, quantity := f.quantity, minTakeDebit := f.minTakeDebit,
        available := f.available }) s
  | .notSigned => s
  | .blocked => s
  | .notPermitted => s
  | .invoiceFull => s

/-- The clock's part in a refusal (R116): desk answer with a REFUSED pulse, report, and the next candidate placed or
"all refused". -/
def clockRefused (c : ClockId) (r : CommitRequest) (x : CommitRefusal) (s : State) : State :=
  let s := s.setClock c { s.clock c with collection := (s.clock c).collection.tail }
  let s := pulseRefused r.desk (refusePress r.desk (refusalReason x) c s)
  let s := reportCredit c r x s
  if (s.clock c).collection.isEmpty then allRefused c s else placeCommit c s

/-- Entry to SOLD: last sale price kept, pause timer started, priority update (R69, R118). -/
def enterSold (c : ClockId) (price : Nat) (s : State) : State :=
  let x := s.clock c
  askUpdate c (s.setClock c { x with
    state := .sold, lastSalePrice := some price, pauseEnds := some (s.timebase + x.params.pause * Config.ms) })

/-- The clock's part in an accepted sale (R118, R119): the other entries answered OUTBID in key order, WIN pulse, SALE
report, then SOLD or the end of the lot. The update asked for at the sale is taken after the lot's end, so that its
frame shows the whole event (R169, log entry 8). -/
def clockAccepted (c : ClockId) (r : CommitRequest) (f : SaleFigures) (seq : Nat) (s : State) : State :=
  let rest := (s.clock c).collection.tail
  let s := s.setClock c { s.clock c with collection := [] }
  let s := pulseWin r.desk (rest.foldl (fun s p => refusePress p.desk .outbid c s) s)
  match s.lot r.lot with
  | none => s
  | some l =>
    let again : Bool := l.minTake ≤ l.packsRemaining
    let s := raise (.sale
      { clock := c, lot := r.lot, run := (s.clock c).run, sequence := seq, buyer := f.buyer, desk := r.desk,
        step := r.step, price := f.price, requested := r.packs, packs := f.packs, amount := f.amount, levy := f.levy,
        debit := f.debit, remaining := l.packsRemaining, next := if again then .restart else .lotEnd }) s
    if again then enterSold c f.price s else askUpdate c (endLot c .sold s)

/-! ## Completions -/

/-- Nothing is in progress any more. -/
def clearProgress (s : State) : State := s.setArbiter { s.ledger.arbiter with inProgress := none }

/-- The records a SALE-COMMIT changes at its completion (R138, R139). -/
def commitChanges (c : ClockId) (r : CommitRequest) (a : CommitAnswer) (s : State) : State :=
  match a with
  | .accepted f => writeSale c r f s
  | .refused x => countRefusal x s

/-- What the offering clock does with the answer (R116, R118). -/
def clockAnswered (c : ClockId) (r : CommitRequest) (a : CommitAnswer) (s : State) : State :=
  match a with
  | .accepted f => clockAccepted c r f s.ledger.journal.lastWritten s
  | .refused x => clockRefused c r x s

/-- A served request answered: refused, or carried out (R134). -/
def requestChanges (r : LedgerRequest) (v : Service) (s : State) : Answer :=
  match v with
  | .refuse status body => refuse s status body
  | .go => applyRequest s r

/-- The reservation requests deferred by a DAY-CLOSE reach the journal in the order made (R152). -/
def releaseAllDeferred (s : State) : State :=
  let l := s.ledger.journal.deferred
  l.foldl (fun s c => releaseDeferred c s) (s.setJournal { s.ledger.journal with deferred := [] })

/-- A reset that waits for the operation in progress has its reply placed behind that operation's (R202). -/
def continueReset (s : State) : State :=
  match s.ledger.arbiter.inProgress, s.hlp.resetting with
  | none, some (.waiting tag) =>
    let s := placeReply { tag := tag, kind := 169, status := .ok, body := .empty, after := .warmStart } s
    { s with hlp := { s.hlp with resetting := some .replying } }
  | _, _ => s

/-- The rest of a completion: the operation chosen among those waiting before it is served, or else one that the
event itself has placed (R135); then a waiting reset goes on (R202). What is served reads the records as the rest of the
event has left them: DEDUCED, log entry 27. -/
def afterCompletion (x : Choice) (s : State) : State := continueReset (serveWaiting (serveChoice x s))

/-- The choice made at a completion, among the operations that wait before it (R135). -/
def choiceNow (s : State) : Choice := if mayServe s then choose s.ledger.arbiter else .nothing

/-- A SALE-COMMIT completes. While the main supply is FAILED only the retained records change (R125, R145). -/
def completeCommit (c : ClockId) (r : CommitRequest) (a : CommitAnswer) (s : State) : State :=
  let s := clearProgress s
  match s.hall.main with
  | .failed => commitChanges c r a s
  | .present => afterCompletion (choiceNow s) (clockAnswered c r a (commitChanges c r a s))

/-- The reply to a ledger request (R196). -/
def ledgerReply (tag : Byte) (r : LedgerRequest) (status : Status) (body : ReplyBody) : Reply :=
  { tag := tag, kind := 128 + r.kind, status := status, body := body, after := .nothing }

/-- A host ledger operation completes and its reply is placed; a DAY-CLOSE lets the deferred requests go on, before the
next operation is served (log entry 27). While the main supply is FAILED there is no reply (R134, R145, R152). -/
def completeHost (tag : Byte) (r : LedgerRequest) (v : Service) (s : State) : State :=
  let s := clearProgress s
  let a := requestChanges r v s
  match s.hall.main with
  | .failed => a.state
  | .present =>
    let t := placeReply (ledgerReply tag r a.status a.body) a.state
    let t := match r with
      | .dayClose => releaseAllDeferred t
      | _ => t
    afterCompletion (choiceNow s) t

/-- The operation in progress completes in the retained store with no reply and no answer, as it has before a start
(R144, R145). -/
def settleInProgress (s : State) : State :=
  match s.ledger.arbiter.inProgress with
  | none => s
  | some (.commit c r a) => commitChanges c r a (clearProgress s)
  | some (.host _ r _ v) => (requestChanges r v (clearProgress s)).state

/-! ## Presses -/

/-- A press placed by its key; it has the latest arrival, so it stands behind every entry of the same step and
offset (R48, R110). -/
def insertPress (p : Press) : List Press → List Press
  | [] => [p]
  | q :: rest => if p.step < q.step ∨ (p.step = q.step ∧ p.offset < q.offset) then p :: q :: rest
      else q :: insertPress p rest

/-- Whether a new press has an earlier key than an entry (R48). -/
def earlierKey (p q : Press) : Bool := p.step < q.step || (p.step = q.step && p.offset < q.offset)

/-- A press admitted in STOPPING: DUPLICATE, placed, or OUTBID for it or for the last entry (R109 to R111). -/
def collect (c : ClockId) (p : Press) (s : State) : State :=
  let x := s.clock c
  if x.collection.any fun q => q.desk = p.desk then refusePress p.desk .duplicate c s
  else if x.collection.length < Config.collectionEntries then
    s.setClock c { x with collection := insertPress p x.collection }
  else
    match x.collection.getLast? with
    | none => s
    | some last =>
      if earlierKey p last then
        refusePress last.desk .outbid c
          (s.setClock c { x with collection := insertPress p x.collection.dropLast })
      else refusePress p.desk .outbid c s

/-- The first admitted press: step timer halted, window started, priority update; with window 0 the clock enters
DECIDING in the same event (R68, R112). -/
def stopClock (c : ClockId) (p : Press) (s : State) : State :=
  let x := s.clock c
  let halted : StepTimer := match x.stepTimer with
    | .running t => .halted (s.left t)
    | t => t
  let s := s.setClock c { x with
    state := .stopping, stepTimer := halted, collection := [p],
    windowEnds := some (s.timebase + x.params.window * 250) }
  let s := if x.params.window = 0 then
      s.setClock c { s.clock c with state := .deciding, windowEnds := none } else s
  let s := askUpdate c s
  if x.params.window = 0 then serveWaiting (placeCommit c s) else s

/-- The checks of a press against its clock, in the order of R94: the press step, or the refusal. A press that meets a clock
in LOADED is refused IDLE_CLOCK by R94's first check, also after a warm start, where R124 says that a clock which has taken
a lot since refuses it LATE: DESIGN CHOICE, log entry 52. -/
def judgePress (x : Clock) (run tag : Nat) : Except DeskRefusal Nat :=
  if x.state ≠ .running ∧ x.state ≠ .stopping then .error .idleClock
  else if run ≠ x.run then .error .late
  else
    match pressStep x.k tag x.params.ageLimit with
    | some step => .ok step
    | none => .error .late

/-- A press is taken: it is given an arrival number, then admitted or refused (R93, R94, R96). -/
def takePress (d : DeskId) (c : ClockId) (run tag offset packs : Nat) (s : State) : State :=
  let arrival := s.bus.nextArrival
  let s := { s with bus := { s.bus with nextArrival := (arrival + 1) % 4294967296 } }
  match judgePress (s.clock c) run tag with
  | .error reason => refusePress d reason c s
  | .ok step =>
    let p : Press := { desk := d, packs := packs, offset := offset, step := step, arrival := arrival }
    if (s.clock c).state = .running then stopClock c p s else collect c p s

/-- An event of a good reply goes to the rule that owns it (R93). The numbers of a good reply are in range (R88). -/
def takeEvent (e : DeskEvent) (s : State) : State :=
  match e with
  | .press d c run tag offset packs =>
    match deskNumbered d, clockNumbered c with
    | some d, some c => takePress d c run tag offset packs s
    | _, _ => s
  | .signOn d b =>
    match deskNumbered d with
    | some d => signOn d b s
    | none => s
  | .signOff d =>
    match deskNumbered d with
    | some d => unbindDesk d s
    | none => s

/-- A good reply: counters and row state, then the events of a new batch in order (R88). -/
def takeReply (r : RowId) (y : RowReply) (s : State) : State :=
  let s := goodRow r s
  if y.batch = 0 ∨ y.batch = (s.row r).lastBatch then s
  else y.events.foldl (fun s e => takeEvent e s) (s.setRow r { s.row r with lastBatch := y.batch })

/-- A reply that is not good: counted bad, a miss counted, the wait ended at once with the line free behind it (R89). -/
def badReply (r : RowId) (s : State) : State :=
  endWait false (missRow r (s.setRow r { s.row r with framesBad := countUp top16 (s.row r).framesBad }))

end Sys2Proof.Machine
end

