-- ==== Sys2Proof/Machine/BusEvents.lean ====
section
/-! DEFINITION. The events of the desk bus (5.2 to 5.5): ticks and polls sent, row replies, misses, and the line
falling idle. -/

namespace Sys2Proof.Machine

/-- The tick at the head has been sent: removed and counted (R92). -/
def tickGone (rest : List Tick) (s : State) : State :=
  busFree { s with bus := { s.bus with ticks := rest, ticksSent := countUp top16 s.bus.ticksSent } }

/-- A poll has been sent: its reply is awaited for 2 ms, next row advances (R87), and the lamps of the polled row move
on (R102). -/
def pollGone (p : Poll) (s : State) : State :=
  let s := { s with bus := { s.bus with
    activity := .awaiting p (s.timebase + Config.rowReplyWait), poll := none, nextRow := rowAfter s.bus.nextRow } }
  s.setRow p.row (visitRow p (s.row p.row))

/-- TICK_SENT (R92): a tick is on the line in SENDING alone, which a tick handed over on a free line brings about (5.10.1);
one handed over while a poll is sent or its reply awaited waits. -/
def execTickSent (s : State) : Host.Outcome State Fault Refusal :=
  .next (whenPowered s
    (match s.bus.activity, s.bus.ticks with
      | .sending, _ :: rest => tickGone rest s
      | .sending, [] => s
      | .idle, _ => s
      | .awaiting _ _, _ => s))

/-- POLL_SENT (R87, R92, R102): the poll on its way has gone. One that was due and had not been built yet is built and
sent by the command itself (log entry 5). -/
def execPollSent (s : State) : Host.Outcome State Fault Refusal :=
  .next (whenPowered s
    (match s.bus.activity, s.bus.poll with
      | .idle, some p => pollGone p s
      | .idle, none => if pollDue s then pollGone (pollOf s) s else s
      | .sending, _ => s
      | .awaiting _ _, _ => s))

/-- ROW_REPLY_GOOD (R88): a complete reply whose framing and check are correct; one that is not good after all is
the bad reply of R89. A reply that none awaits is no reply to any poll (log entry 9). One that starts only after a silent
timeout, or that was on its way at a start, and comes after the next POLL_SENT is judged as a reply to the new poll, where
R89 discards what comes late and R88 has a reply name the polled row: DESIGN CHOICE, log entry 42. -/
def execRowReplyGood (reply : RowReply) (s : State) : Host.Outcome State Fault Refusal :=
  .next (whenPowered s
    (match s.bus.activity with
      | .awaiting p _ =>
        if goodReply p reply then endWait false (takeReply p.row reply s) else badReply p.row s
      | .sending => s
      | .idle => s))

/-- ROW_REPLY_BAD (R89); a late reply that is bad counts against the poll out now in the same way (log entry 42). -/
def execRowReplyBad (s : State) : Host.Outcome State Fault Refusal :=
  .next (whenPowered s
    (match s.bus.activity with
      | .awaiting p _ => badReply p.row s
      | .sending => s
      | .idle => s))

/-- ROW_REPLY_TIMEOUT (R89): no complete reply within 2 ms. With part of a reply on the line the part does not transmit
until the line has fallen idle; a silent line is idle already (log entry 35). -/
def execRowReplyTimeout (s : State) (part : Bool := false) : Host.Outcome State Fault Refusal :=
  .next (whenPowered s
    (match s.bus.activity with
      | .awaiting p t => endWait part (missRow p.row (s.reach t))
      | .sending => s
      | .idle => s))

/-- DESK_BUS_LINE_IDLE (R89): the line has fallen idle and the part may transmit again. -/
def execDeskBusLineIdle (s : State) : Host.Outcome State Fault Refusal :=
  .next (whenPowered s (if s.bus.lineHeld then endWait false s else s))

end Sys2Proof.Machine
end

