-- ==== Sys2Proof/Machine/ClockEvents.lean ====
section
/-! DEFINITION. The events of the Clock Engine (4.2): the taking of a lot and the expiries of the clock's four timers.
A timer that is not running does not expire (log entry 9). -/

namespace Sys2Proof.Machine

/-- Whether a clock in a state has a preview, step, window or pause timer that may expire is the clock's own; each
definition here is one expiry with its guard. The preview of a LOADED NEW clock expires at `t` (R65). -/
def previewRunsOut (c : ClockId) (t : Nat) (s : State) : State :=
  let s := s.reach t
  testNew c (s.setClock c { s.clock c with previewEnds := none })

/-- TAKE_LOT (R62): an IDLE clock takes its lane's READY candidate. -/
def execTakeLot (c : ClockId) (s : State) : Host.Outcome State Fault Refusal :=
  .next (whenPowered s
    (match mayTake s c with
      | some l => takeLot c l s
      | none => s))

/-- PREVIEW_EXPIRY (R65). -/
def execPreviewExpiry (c : ClockId) (s : State) : Host.Outcome State Fault Refusal :=
  .next (whenPowered s
    (match (s.clock c).state, (s.clock c).previewEnds with
      | .loaded .new, some t => previewRunsOut c t s
      | _, _ => s))

/-- STEP_TIMER_EXPIRY (R42, R67). -/
def execStepTimerExpiry (c : ClockId) (s : State) : Host.Outcome State Fault Refusal :=
  .next (whenPowered s
    (match (s.clock c).state, (s.clock c).stepTimer with
      | .running, .running t => stepClock c (s.reach t)
      | _, _ => s))

/-- WINDOW_EXPIRY (R112). -/
def execWindowExpiry (c : ClockId) (s : State) : Host.Outcome State Fault Refusal :=
  .next (whenPowered s
    (match (s.clock c).state, (s.clock c).windowEnds with
      | .stopping, some t => enterDeciding c (s.reach t)
      | _, _ => s))

/-- PAUSE_EXPIRY (R66, R70). -/
def execPauseExpiry (c : ClockId) (s : State) : Host.Outcome State Fault Refusal :=
  .next (whenPowered s
    (match (s.clock c).state, (s.clock c).pauseEnds with
      | .sold, some t => restartClock c (s.reach t)
      | _, _ => s))

end Sys2Proof.Machine
end

