-- ==== Sys2Proof/Machine/Hall.lean ====
section
/-! DEFINITION. Hall Services and the host link's state (chapters 10 and 11): time-set, the calendar's advance and
the close alarm, the key switch, supervision, and the arrival of a valid frame. -/

namespace Sys2Proof.Machine

/-! ## Calendar -/

/-- Time-set is set; at a change every clock is told (R184). -/
def setTime (s : State) : State :=
  if s.hall.timeSet then s else eachClock tellClock { s with hall := { s.hall with timeSet := true } }

/-- Time-set is cleared; at a change it is a hold cause for every clock (R72, R184). -/
def clearTime (s : State) : State :=
  if s.hall.timeSet then
    eachClock (fun c s => holdClock c .timeNotSet s) { s with hall := { s.hall with timeSet := false } }
  else s

/-- The close alarm fires: TRADING_CLOSE, then every clock's closing flag (R77, R187). The order of their reports is log
entry 49's. -/
def fireAlarm (s : State) : State :=
  eachClock closeClock (raise (.tradingClose s.hall.calendar s.hall.alarm) s)

/-- One advance of the calendar (R183): past the end of 2099 time-set is cleared (R184); an advance into a minute the
alarm matches fires it while the main supply is present and time-set is set (R187). Time-set is cleared before the
alarm is tested, so no alarm fires in the advance past the end of 2099: DESIGN CHOICE, log entry 45. -/
def advanceCalendar (s : State) : State :=
  let old := s.hall.calendar
  let s := { s with hall := { s.hall with calendar := nextHundredth old } }
  match s.hall.main with
  | .failed => if atCalendarEnd old then { s with hall := { s.hall with timeSet := false } } else s
  | .present =>
    let s := if atCalendarEnd old then clearTime s else s
    if s.hall.timeSet && entersMinute s.hall.calendar && alarmMatches s.hall.alarm s.hall.calendar then fireAlarm s
    else s

/-! ## Key switch -/

/-- The qualified position changes: KEY report, and every clock told (R189): leaving SALE is a hold cause, entering
SALE makes a start condition true. The order of their reports is log entry 49's. -/
def changeKey (new : KeyPosition) (s : State) : State :=
  let old := s.hall.key
  let s := raise (.key old new s.hall.calendar)
    { s with hall := { s.hall with key := new, keyCounter := 0, keyRaw := new } }
  if old = .sale then eachClock (fun c s => holdClock c .key s) s
  else if new = .sale then eachClock tellClock s
  else s

/-- One sample of the key contacts (R189). -/
def sampleKey (x : KeyPosition) (s : State) : State :=
  let h := s.hall
  if x = h.key then { s with hall := { h with keyRaw := x, keyCounter := 0 } }
  else
    let n := if x = h.keyRaw then h.keyCounter + 1 else 1
    if n < Config.keySamples then { s with hall := { h with keyRaw := x, keyCounter := n } }
    else changeKey x s

/-! ## Gate samples -/

/-- One sample of a lane's gate (R25). -/
def sampleGate (c : ClockId) (blocked : Bool) (s : State) : State :=
  let lane := s.lane c
  if blocked = lane.blocked then s.setLane c { lane with counter := 0 }
  else if lane.counter + 1 < lane.count then s.setLane c { lane with counter := lane.counter + 1 }
  else gateChanges c s

/-! ## Backup supply -/

/-- The backup supply changes (R191). -/
def changeBackup (x : BackupSupply) (s : State) : State :=
  match s.hall.main with
  | .present => raise (.backupLow x) { s with hall := { s.hall with backup := x, backupFlag := x = .low } }
  | .failed =>
    { s with hall := { s.hall with
        backup := x, retainedValid := s.hall.retainedValid && x = .ok } }

/-! ## Supervision and valid frames -/

/-- Supervision starts afresh with the stored setting, or stands stopped for OFF (R197). -/
def restartSupervision (s : State) : State :=
  { s with hlp := { s.hlp with
      supervisionEnds := (supervisionTime s.hlp.supervision).map (s.timebase + ·) } }

/-- The supervision timer expires: HOST-LOST, a HOST_LOST report, every clock told (R197). The order of their reports is log
entry 49's. -/
def loseHost (s : State) : State :=
  eachClock tellClock (raise (.hostLost .hostLost)
    { s with hlp := { s.hlp with link := .hostLost, supervisionEnds := none } })

/-- A valid frame in HOST-LOST brings the link back to LINKED before its dispatch (R197). The order of the reports of this
event is log entry 49's. -/
def restoreHost (s : State) : State :=
  match s.hlp.link with
  | .linked => s
  | .hostLost => eachClock tellClock (raise (.hostLost .linked) { s with hlp := { s.hlp with link := .linked } })

/-- A valid frame has arrived: counted good, the receiver HUNTING again, supervision restarted, the link restored
(R195, R197). -/
def frameArrives (s : State) : State :=
  restoreHost (restartSupervision
    { s with hlp := { s.hlp with framesGood := countUp top16 s.hlp.framesGood, receiver := .hunting } })

/-- A bad frame is counted and discarded, and the receiver hunts again (R195). -/
def frameFails (s : State) : State :=
  { s with hlp := { s.hlp with framesBad := countUp top16 s.hlp.framesBad, receiver := .hunting } }

/-- A valid frame that finds a request held, or dispatch stopped by a reset, is an overrun (R196, R202). -/
def countOverrun (s : State) : State := { s with hlp := { s.hlp with overruns := countUp top16 s.hlp.overruns } }

end Sys2Proof.Machine
end

