-- ==== Sys2Proof/Machine/Starts.lean ====
section
/-! DEFINITION. Starts and supply failure: the fail (R190 and each chapter's rule), the cold start and the warm
start, with the order R192 and the chapters give within a start. -/

namespace Sys2Proof.Machine

/-! ## The fail -/

/-- A clock at a main-supply fail: its timers stop without expiring (R85); the step timer keeps no running time. -/
def stopClockTimers (x : Clock) : Clock :=
  { x with stepTimer := .stopped, previewEnds := none, pauseEnds := none, windowEnds := none }

/-- The main supply is declared FAILED (R190): fail stamp taken, a calendar snapshot with its time-set flag (R183),
every timer stopped (R40, R85), the links silent (R107, R181, R203), the waiting ledger operations dropped (R145); a
reset under way is over (R202). The operation in progress stays until its completion. -/
def failMain (s : State) : State :=
  let s := dropWaiting s
  { s with
    hall := { s.hall with
      main := .failed, mainReturns := none,
      failStamp := some { stamp := s.hall.calendar, timeSet := s.hall.timeSet } }
    lanes := mapCells (fun l => { l with gapEnds := none }) s.lanes
    clocks := mapCells stopClockTimers s.clocks
    bus := { s.bus with activity := .idle, poll := none }
    boards := mapCells (fun b => { b with activity := .idle }) s.boards
    hlp := { s.hlp with
      receiver := .hunting, held := none, replies := [], resetting := none, attention := false,
      supervisionEnds := none } }

/-! ## The values of a warm start -/

/-- A lane's volatile state after a warm start; the ARRIVING train gets a full gap time (R39). -/
def warmLane (now : Nat) (l : Lane) : Lane :=
  { Lane.atStart with
    trains := l.trains
    gapEnds := if l.trains.any (fun t => t.state = .arriving) then some (now + 20 * Config.sec) else none }

/-- A clock keeps its parameters and run number (R84). -/
def warmClock (x : Clock) : Clock := { Clock.atStart with run := x.run, params := x.params }

/-- An ON_CLOCK lot is sorted by its pack counts; every other lot is kept (R17). -/
def sortLot (l : Lot) : Lot := if l.state = .onClock then { l with state := sortedState l } else l

/-- The Settlement Unit keeps its tables, the journal's lines and its numbers (R144, R166); no desk is bound
(R106). -/
def warmLedger (x : Ledger) : Ledger :=
  { x with
    buyers := x.buyers.map fun b => { b with boundDesks := 0 }
    journal := { x.journal with lotMark := Vector.replicate 4 none, deferred := [] }
    arbiter := .atStart
    lastSale := Vector.replicate 4 none
    counters := .zero }

/-- Hall Services keep calendar, time-set, alarm and fail stamp; the backup supply is read afresh (R192, R193). -/
def warmHall (kind : StartKind) (backup : BackupSupply) (h : Hall) : Hall :=
  { h with
    keyRaw := .locked, keyCounter := 0, key := .locked, main := .present, mainReturns := none, backup := backup,
    backupFlag := backup = .low, retainedValid := true, lastStart := kind }

/-- A reading of LOW as the start ends queues a BACKUP_LOW report (R192). -/
def reportBackup (backup : BackupSupply) (s : State) : State :=
  match backup with
  | .ok => s
  | .low => raise (.backupLow .low) s

/-- The first report after a warm start at a main return is MAIN_FAIL (R192). -/
def reportMainFail (kind : StartKind) (s : State) : State :=
  match kind with
  | .warmSupply => raise (.mainFail s.hall.failStamp s.hall.calendar s.hall.timeSet) s
  | .warmReset => s
  | .cold => s

/-- Every block takes its warm-start values, the operation in progress having completed first (R192, R193, R203 and
the start rules of each chapter). -/
def warmValues (kind : StartKind) (backup : BackupSupply) (s : State) : State :=
  let s := settleInProgress s
  { s with
    hlp := .atStart s.timebase s.hlp.linkRate s.hlp.supervision
    lots := s.lots.map sortLot
    lanes := mapCells (warmLane s.timebase) s.lanes
    clocks := mapCells warmClock s.clocks
    bus := .atStart
    ledger := warmLedger s.ledger
    boards := Vector.replicate 4 (.atStart s.timebase)
    hall := warmHall kind backup s.hall }

/-- The warm start: values, MAIN_FAIL at a main return, BACKUP_LOW, then the departure test of every lane (R39,
R192), the lanes in the order 1 to 4: DESIGN CHOICE, log entry 4. `mainReturn` says whether the start follows a main
return. -/
def warmStart (kind : StartKind) (mainReturn : Bool) (backup : BackupSupply) (s : State) : State :=
  let s := warmValues kind backup s
  let s := if mainReturn then reportMainFail kind s else s
  eachClock testDepartures (reportBackup backup s)

/-- The cold start: every table emptied, every block at its cold-start values (R16, R38, R83, R105, R143, R165,
R180, R193, R203). The commands that wait outside the part and the timebase are no state a start empties. -/
def coldStart (backup : BackupSupply) (s : State) : State :=
  reportBackup backup
    { State.reset with
      pending := s.pending
      timebase := s.timebase
      hlp := .atStart s.timebase 115200 .eightSeconds
      boards := Vector.replicate 4 (.atStart s.timebase)
      hall := .atColdStart s.timebase backup }

/-- A start at power-on or at a main return: warm with the retained store valid, else cold (R192). -/
def startBySupply (mainReturn : Bool) (backup : BackupSupply) (s : State) : State :=
  if s.hall.retainedValid then warmStart .warmSupply mainReturn backup s else coldStart backup s

end Sys2Proof.Machine
end

