-- ==== Sys2Proof/Machine/HallEvents.lean ====
section
/-! DEFINITION. The events of Hall Services (10.2 to 10.6): the calendar's advance, key samples, the main and the
backup supply, and power-on. Calendar and backup go on while the main supply is FAILED (R183, R191). -/

namespace Sys2Proof.Machine

/-- CALENDAR_ADVANCE (R183): one hundredth, every 10,000 µs. -/
def execCalendarAdvance (s : State) : Host.Outcome State Fault Refusal :=
  let t := s.reach s.hall.nextAdvance
  .next (advanceCalendar { t with hall := { t.hall with nextAdvance := s.hall.nextAdvance + Config.hundredth } })

/-- KEY_QUALIFIED_CHANGE (R189): the key's counter reaches 20 at a position other than the qualified one. The command
stands for the samples still lacking (log entry 10). -/
def execKeyQualifiedChange (position : KeyPosition) (s : State) : Host.Outcome State Fault Refusal :=
  .next (whenPowered s (if position = s.hall.key then s else changeKey position s))

/-- KEY_SAMPLE (R189): one sample of the two contacts. -/
def execKeySample (saleClosed setupClosed : Bool) (s : State) : Host.Outcome State Fault Refusal :=
  .next (whenPowered s (sampleKey (sampledKey saleClosed setupClosed) s))

/-- MAIN_SUPPLY_FAIL (R190). -/
def execMainSupplyFail (s : State) : Host.Outcome State Fault Refusal :=
  .next (whenPowered s (failMain s))

/-- MAIN_SUPPLY_ABOVE_THRESHOLD (R190): the 200 ms qualification begins. -/
def execMainSupplyAboveThreshold (s : State) : Host.Outcome State Fault Refusal :=
  .next
    (match s.hall.main, s.hall.mainReturns with
      | .failed, none => { s with hall := { s.hall with mainReturns := some (s.timebase + Config.mainReturnTime) } }
      | .failed, some _ => s
      | .present, _ => s)

/-- MAIN_SUPPLY_BELOW_THRESHOLD (R190): the monitor reads below threshold. A supply that was PRESENT is declared FAILED;
while FAILED a fall restarts the qualification, which begins again above threshold. -/
def execMainSupplyBelowThreshold (s : State) : Host.Outcome State Fault Refusal :=
  .next
    (match s.hall.main with
      | .failed => { s with hall := { s.hall with mainReturns := none } }
      | .present => failMain s)

/-- MAIN_SUPPLY_RETURN (R190, R192): after 200 ms above threshold the supply is PRESENT and a start begins. -/
def execMainSupplyReturn (backup : BackupSupply) (s : State) : Host.Outcome State Fault Refusal :=
  .next
    (match s.hall.main, s.hall.mainReturns with
      | .failed, some t => startBySupply true backup (s.reach t)
      | .failed, none => s
      | .present, _ => s)

/-- POWER_ON (R192): a start by the retained store's validity. A power-on that finds the main supply FAILED is also a
main return, with its MAIN_FAIL report (log entry 11). -/
def execPowerOn (backup : BackupSupply) (s : State) : Host.Outcome State Fault Refusal :=
  .next (startBySupply (s.hall.main = .failed) backup s)

/-- BACKUP_CHANGE (R191): 100 consecutive readings give the other state. A change to the state held is none (log entry
9). -/
def execBackupChange (reading : BackupSupply) (s : State) : Host.Outcome State Fault Refusal :=
  .next (if reading = s.hall.backup then s else changeBackup reading s)

end Sys2Proof.Machine
end

