-- ==== Sys2Proof/Machine/ClockRequests.lean ====
section
/-! DEFINITION. The clock requests (4.1, 4.3 to 4.6): each clock's part, and the naming of one clock or all four
(R60). -/

namespace Sys2Proof.Machine

/-- One clock's part of a request: the state after it and the clock's outcome. -/
abbrev ClockStep := ClockId → State → State × ClockOutcome

/-- A refusal at one clock: nothing changes. -/
def clockRefuses (s : State) (status : Status) : State × ClockOutcome := (s, { status := status, ended := none })

/-- An acceptance at one clock. -/
def clockAccepts (s : State) : State × ClockOutcome := (s, { status := .ok, ended := none })

/-- CLOCK-SET at one clock: only IDLE or CLOSED (R59). -/
def setClockParams (a : ClockSettings) : ClockStep := fun c s =>
  let x := s.clock c
  if x.state = .idle ∨ x.state = .closed then clockAccepts (s.setClock c { x with params := setParams a x.params })
  else clockRefuses s .state

/-- CLOCK-HOLD at one clock (the table of R74). -/
def requestHold : ClockStep := fun c s =>
  match (s.clock c).state with
  | .idle => clockRefuses s .state
  | .closed => clockRefuses s .state
  | _ => clockAccepts (holdClock c .holdRequest s)

/-- An accepted resume: new run number, RUNNING at the same step with a full period, tick, priority update (R75). -/
def resumeClock (c : ClockId) (s : State) : State :=
  let x := s.clock c
  askUpdate c (handTick c (startStep c (s.setClock c { x with state := .running, run := (x.run + 1) % 16 })))

/-- CLOCK-RESUME at one clock, its checks in the order of R75. -/
def requestResume : ClockStep := fun c s =>
  if (s.clock c).state ≠ .held then clockRefuses s .state
  else if voidRuns s c then clockRefuses s .busy
  else if s.hall.key ≠ .sale ∨ (s.board c).online = false then clockRefuses s .state
  else if s.hall.timeSet = false then clockRefuses s .timeNotSet
  else clockAccepts (resumeClock c s)

/-- The lot ended with cause WITHDRAWN, with a NO_SALE line where a reservation is held (R76, R151). -/
def withdrawLot (c : ClockId) (s : State) : State × ClockOutcome :=
  let ended := (s.currentLot c).map fun l => (l.number, endStateOf l)
  let s := if (s.clock c).reservation then writeNoSale c .withdrawn s else s
  (endLot c .withdrawn s, { status := .ok, ended := ended })

/-- CLOCK-WITHDRAW at one clock (the table of R76). -/
def requestWithdraw : ClockStep := fun c s =>
  match (s.clock c).state with
  | .idle => clockRefuses s .state
  | .closed => clockRefuses s .state
  | .stopping => clockRefuses s .busy
  | .deciding => clockRefuses s .busy
  | .held => if voidRuns s c then clockRefuses s .busy else withdrawLot c s
  | .loaded _ => withdrawLot c s
  | .running => withdrawLot c s
  | .sold => withdrawLot c s

/-- CLOCK-OPEN at one clock (R78). -/
def requestOpen : ClockStep := fun c s => clockAccepts (openClock c s)

/-- The request's own status: OK when all are OK, else that of the lowest-numbered clock that is not (R60). -/
def overallStatus (l : List ClockOutcome) : Status :=
  ((l.map ClockOutcome.status).find? fun x => x ≠ .ok).getD .ok

/-- A clock request carried out on one clock, or with number 0 on all four, each as though named alone; any other number
is BAD_FIELD (R60). R60 orders the outcomes in the reply; that the request acts on the clocks in the order 1 to 4 is a
DESIGN CHOICE, log entry 4. -/
def onClocks (n : Nat) (f : ClockStep) (s : State) : Answer :=
  if n = 0 then
    let r0 := f 0 s
    let r1 := f 1 r0.1
    let r2 := f 2 r1.1
    let r3 := f 3 r2.1
    let l := [r0.2, r1.2, r2.2, r3.2]
    ⟨r3.1, overallStatus l, .clockOutcomes l⟩
  else
    match clockNumbered n with
    | none => badField s 1
    | some c =>
      let r := f c s
      ⟨r.1, r.2.status, .clockOutcomes [r.2]⟩

/-- CLOCK-SET (R59, R60): key, fields, then each clock's state. -/
def doClockSet (a : ClockSettings) (s : State) : Answer :=
  if s.hall.key ≠ .setup then refuse s .key
  else
    match clockSetFault a with
    | some pos => badField s pos
    | none => onClocks a.clock (setClockParams a) s

/-- CLOCK-HOLD (R74). -/
def doClockHold (n : Nat) (s : State) : Answer := onClocks n requestHold s

/-- CLOCK-RESUME (R75). -/
def doClockResume (n : Nat) (s : State) : Answer := onClocks n requestResume s

/-- CLOCK-WITHDRAW (R76). -/
def doClockWithdraw (n : Nat) (s : State) : Answer := onClocks n requestWithdraw s

/-- CLOCK-OPEN (R78). -/
def doClockOpen (n : Nat) (s : State) : Answer := onClocks n requestOpen s

/-- The picture of a clock (R82). -/
def clockPicture (s : State) (c : ClockId) : ClockPicture :=
  let x := s.clock c
  let l := s.currentLot c
  { state := x.state, lot := x.lot, run := l.map fun _ => x.run, k := l.map fun _ => x.k,
    startPrice := x.startPrice, stepSize := l.map fun l => stepSizeOf l x.params, price := shownPrice s c,
    reservation := if x.reservation then 1 else 0, asked := x.asked, holdPending := x.holdPending.isSome,
    closing := x.closing, conditions := startConditions s c, previewLeft := x.previewEnds.map s.left,
    pauseLeft := x.pauseEnds.map s.left,
    stepLeft := match x.stepTimer with
      | .stopped => none
      | .halted t => some t
      | .running t => some (s.left t),
    windowLeft := x.windowEnds.map s.left, presses := x.collection.length, params := x.params }

/-- CLOCK-QUERY (R60, R82). -/
def doClockQuery (n : Nat) (s : State) : Answer :=
  if n = 0 then accept s (.clocks (allClocks.map (clockPicture s)))
  else
    match clockNumbered n with
    | none => badField s 1
    | some c => accept s (.clocks [clockPicture s c])

end Sys2Proof.Machine
end

