-- ==== Sys2Proof/Machine/TableRequests.lean ====
section
/-! DEFINITION. The requests that read desks, buyers, invoices and the journal, DESK-RELEASE and JOURNAL-RELEASE
(R100, R103, R132, R154, R155, R164). -/

namespace Sys2Proof.Machine

/-! ## Desks -/

/-- The row form's picture (R103). -/
def rowPicture (s : State) (r : RowId) : RowPicture :=
  let x := s.row r
  { online := x.online, misses := x.misses, lastBatch := x.lastBatch, framesGood := x.framesGood,
    framesBad := x.framesBad, pressesLate := x.pressesLate, pressesRefused := x.pressesRefused,
    missCount := x.missCount, bindings := x.desks.toList.map Desk.binding }

/-- Bus activity by name (R86). -/
def busActivityName : BusActivity → BusActivityName
  | .idle => .idle
  | .sending => .sending
  | .awaiting _ _ => .awaiting

/-- The bus form's picture (R103). -/
def busPicture (s : State) : BusPicture :=
  { pending := Vector.ofFn fun c => pendingOf c s.bus.ticks, nextRow := s.bus.nextRow,
    activity := busActivityName s.bus.activity, ticksSent := s.bus.ticksSent, ticksDropped := s.bus.ticksDropped }

/-- DESK-QUERY (R103). -/
def doDeskQuery (q : DeskQuery) (s : State) : Answer :=
  match q with
  | .desk n =>
    match deskNumbered n with
    | none => badField s 1
    | some d => accept s (.desk (s.desk d))
  | .row n =>
    if n = 0 then accept s (.bus (busPicture s))
    else
      match rowNumbered n with
      | none => badField s 1
      | some r => accept s (.row (rowPicture s r))

/-- DESK-RELEASE (R100). -/
def doDeskRelease (n : Nat) (s : State) : Answer :=
  match deskNumbered n with
  | none => badField s 1
  | some d => accept (unbindDesk d s) (.released (s.desk d).binding)

/-! ## Buyers and invoices -/

/-- BUYER-QUERY (R132). -/
def doBuyerQuery (q : Lookup) (s : State) : Answer :=
  let found := match q with
    | .byNumber n => s.buyer n
    | .nextAfter n => nextKey Buyer.number n s.ledger.buyers
  match found with
  | some b =>
    accept s (.buyer (some (b, availableCredit b, closedInvoices s b.number)) s.ledger.buyers.length)
  | none => refuse s .notFound (.buyer none s.ledger.buyers.length)

/-- Whether an invoice matches the buyer and state a query names (R164). -/
def invoiceMatches (buyer : Option Nat) (state : Option InvoiceState) (i : Invoice) : Bool :=
  (buyer = none || buyer = some i.buyer) && (state = none || state = some i.state)

/-- The figures every INVOICE-QUERY reply carries (R164). -/
def invoiceFigures (s : State) : InvoiceFigures :=
  { openCount := (openInvoices s).length
    closedCount := (s.ledger.invoices.filter fun i => i.state = .closed).length
    nextNumber := s.ledger.nextInvoice }

/-- INVOICE-QUERY (R164): every reply carries the figures, in a BAD_FIELD reply behind the position (R196). -/
def doInvoiceQuery (q : InvoiceQuery) (s : State) : Answer :=
  match invoiceQueryFault q with
  | some pos => refuse s .badField (.invoiceField pos (invoiceFigures s))
  | none =>
    let found := match q with
      | .byNumber n => s.invoice n
      | .nextAfter n buyer state => s.ledger.invoices.find? fun i => n < i.number && invoiceMatches buyer state i
    let body := ReplyBody.invoice found (invoiceFigures s)
    if found.isSome then accept s body else refuse s .notFound body

/-! ## Journal -/

/-- JOURNAL-READ (R154): every reply carries the figures, in a BAD_FIELD reply behind the position (R196). -/
def doJournalRead (start count : Nat) (s : State) : Answer :=
  match journalReadFault start count with
  | some pos => refuse s .badField (.journalField pos (journalFigures s))
  | none =>
    if start ≤ s.ledger.journal.lastReleased then refuse s .notFound (.journal [] (journalFigures s))
    else
      accept s (.journal ((s.ledger.journal.lines.filter fun l => start ≤ l.sequence).take count) (journalFigures s))

/-- JOURNAL-RELEASE (R155). The reply that frees 0 lines carries the last released and the free space too, as the one that
frees some does: DESIGN CHOICE, log entry 50. -/
def doJournalRelease (n : Nat) (s : State) : Answer :=
  let j := s.ledger.journal
  if n = 0 ∨ j.lastWritten < n then badField s 1
  else if n ≤ j.lastReleased then accept s (.linesFreed 0 j.lastReleased (freeSpace s))
  else
    let s := s.setJournal { j with lines := j.lines.filter fun l => n < l.sequence, lastReleased := n }
    accept (eachClock tellSpace s) (.linesFreed (n - j.lastReleased) n (freeSpace s))

end Sys2Proof.Machine
end

