-- ==== Sys2Proof/Machine/HallRequests.lean ====
section
/-! DEFINITION. The requests of the boards and of Hall Services (9.6, 10.2, 10.3). -/

namespace Sys2Proof.Machine

/-! ## Boards -/

/-- A refresh period stored and the timer started afresh (R177). -/
def setPeriod (now period : Nat) (b : Board) : Board := { b with period := period, windowAt := now + period * Config.ms }

/-- BOARD-SET (R177). -/
def doBoardSet (board period : Nat) (s : State) : Answer :=
  match boardSetFault board period with
  | some pos => badField s pos
  | none =>
    match clockNumbered board with
    | some c => accept (s.setBoard c (setPeriod s.timebase period (s.board c)))
    | none => accept { s with boards := mapCells (setPeriod s.timebase period) s.boards }

/-- Link activity by name (R168). -/
def boardActivityName : BoardActivity → BusActivityName
  | .idle => .idle
  | .sending _ => .sending
  | .awaiting _ _ => .awaiting

/-- The picture of a board, with the frame that would be built now (R178). The time to the end of the answer wait has no
unit in R178 and is shown in ms, as the time to the next window is: DESIGN CHOICE, log entry 44. -/
def boardPicture (s : State) (c : ClockId) : BoardPicture :=
  let b := s.board c
  { online := b.online, activity := boardActivityName b.activity, period := b.period,
    windowLeft := inMs (s.left b.windowAt), updatePending := b.updatePending, snapshotChanged := b.snapshotChanged,
    keepAlive := keepAlive s c, frameNumber := b.frameNumber,
    answerLeft := match b.activity with
      | .idle => none
      | .sending _ => none
      | .awaiting _ t => some (inMs (s.left t)),
    misses := b.misses, missCount := b.missCount, framesSent := b.framesSent, badAnswers := b.badAnswers,
    picture := pictureOf s c }

/-- BOARD-QUERY (R178). -/
def doBoardQuery (n : Nat) (s : State) : Answer :=
  if n = 0 then accept s (.boards (allClocks.map (boardPicture s)))
  else
    match clockNumbered n with
    | none => badField s 1
    | some c => accept s (.boards [boardPicture s c])

/-! ## Hall Services -/

/-- HALL-TIME-SET (R185): on BAD_FIELD time-set is cleared, else calendar and time-set are set and the count toward
the next hundredth starts from 0. -/
def doHallTimeSet (t : Stamp) (s : State) : Answer :=
  if s.hall.key ≠ .setup then refuse s .key
  else
    match timeFault t with
    | some pos => badField (clearTime s) pos
    | none =>
      accept
        (setTime { s with hall := { s.hall with calendar := t, nextAdvance := s.timebase + Config.hundredth } })
        (.timeChanged s.hall.calendar s.hall.timeSet t)

/-- HALL-TIME-READ (R186). -/
def doHallTimeRead (s : State) : Answer :=
  let h := s.hall
  accept s (.hall
    { calendar := h.calendar, timeSet := h.timeSet, alarm := h.alarm, key := h.key, main := h.main,
      backup := h.backup, backupFlag := h.backupFlag, retainedValid := h.retainedValid, lastStart := h.lastStart,
      failStamp := h.failStamp })

/-- CLOSE-ALARM-SET (R188). -/
def doCloseAlarmSet (a : Alarm) (s : State) : Answer :=
  if s.hall.key ≠ .setup then refuse s .key
  else
    match alarmFault a with
    | some pos => badField s pos
    | none => accept { s with hall := { s.hall with alarm := a } } (.alarm a)

end Sys2Proof.Machine
end

