-- ==== Sys2Proof/Machine/LotRequests.lean ====
section
/-! DEFINITION. The requests of the Lot Store and the Feed Lane Sequencer (1.5, 2.2, 2.6): each gives the state after
it and its reply. -/

namespace Sys2Proof.Machine

/-! ## Lots -/

/-- A new lot record, or none for a quality class that is none of the three (R11). -/
def newLot (a : LotFields) : Option Lot :=
  a.quality.map fun q =>
    { number := a.number, grower := a.grower, product := a.product, quality := q, stemLength := a.stemLength,
      text := storedText a.text, unitsPerPack := a.unitsPerPack, packsOffered := a.packsOffered, packsSold := 0,
      packsRemaining := a.packsOffered, minTake := a.minTake, startPrice := a.startPrice,
      reservePrice := a.reservePrice, priceStep := a.priceStep, state := .entered, position := none }

/-- LOT-ENTER (R10, R11). -/
def doLotEnter (a : LotFields) (s : State) : Answer :=
  match lotFault a, newLot a with
  | some pos, _ => badField s pos
  | none, none => badField s 4
  | none, some l =>
    if (s.lot a.number).isSome then refuse s .exists_
    else if Config.lotSlots ≤ s.lots.length then refuse s .full
    else
      let s := { s with lots := insertKey Lot.number l s.lots }
      accept s (.occupied s.lots.length)

/-- The record with its host fields replaced by an assembled record; packs remaining follows packs offered where the
amendment gives it (R13). -/
def amendLot (a : LotAmendment) (f : LotFields) (l : Lot) : Lot :=
  { l with
    grower := f.grower, product := f.product, quality := f.quality.getD l.quality, stemLength := f.stemLength,
    text := storedText f.text, unitsPerPack := f.unitsPerPack, packsOffered := f.packsOffered,
    packsRemaining := a.packsOffered.getD l.packsRemaining, minTake := f.minTake, startPrice := f.startPrice,
    reservePrice := f.reservePrice, priceStep := f.priceStep }

/-- The states in which a lot may be amended (R12). -/
def amendable (l : Lot) : Bool :=
  (l.state = .entered || l.state = .queued || l.state = .ready) && l.packsSold = 0

/-- LOT-AMEND (R12, R13). -/
def doLotAmend (a : LotAmendment) (s : State) : Answer :=
  match s.lot a.number with
  | none => refuse s .notFound
  | some l =>
    if amendable l then
      match lotFault (assembled a l) with
      | some pos => badField s pos
      | none => accept (s.modLot a.number (amendLot a (assembled a l)))
    else refuse s .state

/-- The states in which a lot may be removed (R14). -/
def removable (l : Lot) : Bool := l.state = .entered || l.state.isEnded

/-- LOT-REMOVE: the slot emptied and the lot's manifest place made vacant (R14). -/
def doLotRemove (n : Nat) (s : State) : Answer :=
  match s.lot n with
  | none => refuse s .notFound
  | some l =>
    if removable l then
      let s := { s with lots := dropKey Lot.number n s.lots, lanes := mapCells (vacate n) s.lanes }
      accept s (.occupied s.lots.length)
    else refuse s .state

/-- LOT-QUERY (R15). -/
def doLotQuery (q : Lookup) (s : State) : Answer :=
  let found := match q with
    | .byNumber n => s.lot n
    | .nextAfter n => nextKey Lot.number n s.lots
  match found with
  | some l => accept s (.lot (some l) s.lots.length)
  | none => refuse s .notFound (.lot none s.lots.length)

/-! ## Trains -/

/-- The first lot of a manifest that keeps it from being announced, with the status (R22 stage 4). -/
def announceLotFault (s : State) : List Nat → Option (Status × Nat)
  | [] => none
  | n :: rest =>
    match s.lot n with
    | none => some (.notFound, n)
    | some l => if l.state = .entered then announceLotFault s rest else some (.state, n)

/-- TRAIN-ANNOUNCE (R22, R23). -/
def doTrainAnnounce (a : TrainAnnouncement) (s : State) : Answer :=
  match announceFault a, clockNumbered a.lane with
  | some pos, _ => badField s pos
  | none, none => badField s 1
  | none, some c =>
    let lane := s.lane c
    if (lane.trains.any fun t => t.number = a.train) then refuse s .exists_
    else if Config.laneTrains ≤ lane.trains.length then refuse s .full
    else
      match announceLotFault s (a.trolleys.flatMap TrolleyEntry.lots) with
      | some (status, n) => refuse s status (.lotAtFault n)
      | none =>
        let s := queueTrolleys c a.train 1 a.trolleys
          (s.setLane c { lane with trains := lane.trains ++ [announcedTrain a] })
        accept s (.trains (lane.trains.length + 1))

/-- TRAIN-CANCEL (R24). -/
def doTrainCancel (lane train : Nat) (s : State) : Answer :=
  match laneTrainFault lane train, clockNumbered lane with
  | some pos, _ => badField s pos
  | none, none => badField s 1
  | none, some c =>
    let x := s.lane c
    match x.trains.find? fun t => t.number = train with
    | none => refuse s .notFound
    | some t =>
      if t.state = .announced then
        let rest := x.trains.filter fun y => y.number ≠ train
        accept (modLots makeEntered (placesOf t) (s.setLane c { x with trains := rest })) (.trains rest.length)
      else refuse s .state

/-- One train of the lane form (R34). -/
def summaryOf (t : Train) : TrainSummary :=
  { number := t.number, state := t.state, trolleys := t.trolleys.length,
    counted := (t.trolleys.filter Trolley.counted).length }

/-- The lane form's picture (R34), the gap timer with 1 to 60,000 ms to its expiry (R19). -/
def lanePicture (s : State) (c : ClockId) : LanePicture :=
  let x := s.lane c
  { count := x.count, gapTime := x.gapTime, blocked := x.blocked, counter := x.counter, passageOpen := x.passageOpen,
    gapLeft := x.gapEnds.map fun t => inMs (s.left t), strays := x.strays, trains := x.trains.map summaryOf,
    candidate := (candidate s c).map fun l => (l.number, l.state) }

/-- The train form's picture (R35). -/
def trainPicture (s : State) (t : Train) : TrainPicture :=
  { state := t.state
    trolleys := t.trolleys.map fun x =>
      { tag := x.tag, counted := x.counted
        places := x.places.map fun p => p.map fun n => (n, (s.lot n).map Lot.state) } }

/-- LANE-QUERY (R34, R35). -/
def doLaneQuery (q : LaneQuery) (s : State) : Answer :=
  match q with
  | .lane n =>
    match clockNumbered n with
    | none => badField s 1
    | some c => accept s (.lane (lanePicture s c))
  | .train n train =>
    match laneTrainFault n train, clockNumbered n with
    | some pos, _ => badField s pos
    | none, none => badField s 1
    | none, some c =>
      match (s.lane c).trains.find? fun t => t.number = train with
      | none => refuse s .notFound
      | some t => accept s (.train (trainPicture s t))

/-- One lane's settings stored; a new count starts the qualification afresh (R33). -/
def setLaneValues (a : LaneSettings) (x : Lane) : Lane :=
  { x with
    count := a.count.getD x.count
    counter := if a.count.isSome then 0 else x.counter
    gapTime := a.gapTime.getD x.gapTime }

/-- LANE-SET (R33). -/
def doLaneSet (a : LaneSettings) (s : State) : Answer :=
  match laneSetFault a with
  | some pos => badField s pos
  | none =>
    match clockNumbered a.lane with
    | some c => accept (s.setLane c (setLaneValues a (s.lane c)))
    | none => accept { s with lanes := mapCells (setLaneValues a) s.lanes }

end Sys2Proof.Machine
end

