-- ==== Sys2Proof/Machine/LinkRequests.lean ====
section
/-! DEFINITION. The Host Link Port's own requests (11.4, 11.5), the arrival of a ledger request at the arbiter (R134),
and the dispatch of every request (R196). -/

namespace Sys2Proof.Machine

/-! ## Reports and statistics -/

/-- REPORT-TAKE (R199). -/
def doReportTake (count : Nat) (s : State) : Answer :=
  if inRange 1 8 count then
    let left := s.hlp.reports.drop count
    accept
      { s with hlp := { s.hlp with reports := left, lostCount := 0, attention := attentionOf s.hlp.enables left } }
      (.reports s.hlp.lostCount left.length (s.hlp.reports.take count))
  else badField s 1

/-- REPORT-ENABLE (R199). -/
def doReportEnable (e : ClassEnables) (s : State) : Answer :=
  accept { s with hlp := { s.hlp with enables := e, attention := attentionOf e s.hlp.reports } }
    (.enables s.hlp.enables)

/-- The five counters of a row (R104). -/
def rowCounters (r : Row) : RowCounters :=
  { framesGood := r.framesGood, framesBad := r.framesBad, pressesLate := r.pressesLate,
    pressesRefused := r.pressesRefused, missCount := r.missCount }

/-- The three counters of a board (R179). -/
def boardCounters (b : Board) : BoardCounters :=
  { missCount := b.missCount, framesSent := b.framesSent, badAnswers := b.badAnswers }

/-- Every event counter of the part, read in one event (R200). -/
def statsOf (s : State) : Stats :=
  { strays := mapCells Lane.strays s.lanes, rows := mapCells rowCounters s.bus.rows, ticksSent := s.bus.ticksSent,
    ticksDropped := s.bus.ticksDropped, boards := mapCells boardCounters s.boards, ledger := s.ledger.counters,
    framesGood := s.hlp.framesGood, framesBad := s.hlp.framesBad, overruns := s.hlp.overruns }

/-- A row with its five counters at 0 (R200). -/
def clearRow (r : Row) : Row :=
  { r with framesGood := 0, framesBad := 0, pressesLate := 0, pressesRefused := 0, missCount := 0 }

/-- A board with its three counters at 0 (R200). -/
def clearBoard (b : Board) : Board := { b with missCount := 0, framesSent := 0, badAnswers := 0 }

/-- A lane with its stray count at 0 (R200). -/
def clearLane (l : Lane) : Lane := { l with strays := 0 }

/-- Every event counter set to 0; no other state changes (R200). -/
def clearStats (s : State) : State :=
  { s with
    lanes := mapCells clearLane s.lanes
    bus := { s.bus with rows := mapCells clearRow s.bus.rows, ticksSent := 0, ticksDropped := 0 }
    boards := mapCells clearBoard s.boards
    ledger := { s.ledger with counters := .zero }
    hlp := { s.hlp with framesGood := 0, framesBad := 0, overruns := 0 } }

/-- STATS-READ (R200). -/
def doStatsRead (s : State) : Answer := accept s (.stats (statsOf s))

/-- STATS-CLEAR (R200). -/
def doStatsClear (s : State) : Answer := accept (clearStats s) (.stats (statsOf s))

/-! ## The part and the link -/

/-- The capacities of the part (R200). -/
def capacities : Capacities :=
  { lots := 1024, lanes := 4, trainsPerLane := 8, trolleysPerTrain := 24, lotsPerTrolley := 4, clocks := 4, rows := 30,
    desks := 480, buyers := 2048, feeClasses := 8, invoices := 4096, journalLines := 8192, reports := 64 }

/-- IDENTIFY (R200). -/
def doIdentify (s : State) : Answer :=
  accept s (.identity
    { name := "Stavik 440", revision := Config.revisionCode, capacities := capacities, linkRate := s.hlp.linkRate,
      supervision := s.hlp.supervision, lastStart := s.hall.lastStart })

/-- LINK-SET (R201): both values stored and supervision restarted; the rate on the line follows the reply. The timer is
restarted also where the link is HOST-LOST, which stays so: a request held before the loss can be dispatched there, and a
second expiry then queues HOST_LOST again: DESIGN CHOICE, log entry 47. -/
def doLinkSet (rate : Nat) (supervision : Option Supervision) (s : State) : Answer :=
  if s.hall.key ≠ .setup then refuse s .key
  else
    match linkSetFault rate supervision, supervision with
    | some pos, _ => badField s pos
    | none, none => badField s 2
    | none, some x =>
      accept (restartSupervision { s with hlp := { s.hlp with linkRate := rate, supervision := x } })

/-! ## Dispatch -/

/-- The reply to a request, completed in the event that carries it out (R196). -/
def finish (tag : Byte) (r : Request) (after : AfterReply) (a : Answer) : State :=
  placeReply
    { tag := tag, kind := r.replyKind, status := a.status, body := a.body,
      after := if a.status = .ok then after else .nothing } a.state

/-- A host ledger request arrives at the arbiter (R134): key gate and fields, then BUSY behind eight waiting, else it
joins the list and is served when nothing is in progress (R135). -/
def arriveLedger (tag : Byte) (r : LedgerRequest) (s : State) : State :=
  if ledgerKeyRefused s.hall.key r then placeReply (ledgerReply tag r .key .empty) s
  else
    match ledgerFault r with
    | some pos => placeReply (ledgerReply tag r .badField (.field pos)) s
    | none =>
      let a := s.ledger.arbiter
      if Config.ledgerWaiting ≤ a.requests.length then
        placeReply (ledgerReply tag r .busy .empty) (s.count fun n => { n with busy := countUp top16 n.busy })
      else serveWaiting (s.setArbiter { a with requests := a.requests ++ [(tag, r)] })

/-- CONTROLLER-RESET is dispatched (R202): dispatch and the arbiter stop, the waiting operations are dropped, and the
reply is placed when nothing is in progress. -/
def beginReset (tag : Byte) (s : State) : State :=
  let s := dropWaiting s
  continueReset { s with hlp := { s.hlp with resetting := some (.waiting tag) } }

/-- A request is dispatched to the block that owns it (R196). -/
def dispatchRequest (tag : Byte) (r : Request) (s : State) : State :=
  let done := finish tag r .nothing
  match r with
  | .identify => done (doIdentify s)
  | .lotEnter a => done (doLotEnter a s)
  | .lotAmend a => done (doLotAmend a s)
  | .lotRemove n => done (doLotRemove n s)
  | .lotQuery q => done (doLotQuery q s)
  | .trainAnnounce a => done (doTrainAnnounce a s)
  | .trainCancel lane train => done (doTrainCancel lane train s)
  | .laneQuery q => done (doLaneQuery q s)
  | .laneSet a => done (doLaneSet a s)
  | .clockSet a => done (doClockSet a s)
  | .clockQuery n => done (doClockQuery n s)
  | .clockHold n => done (doClockHold n s)
  | .clockResume n => done (doClockResume n s)
  | .clockWithdraw n => done (doClockWithdraw n s)
  | .clockOpen n => done (doClockOpen n s)
  | .deskQuery q => done (doDeskQuery q s)
  | .deskRelease n => done (doDeskRelease n s)
  | .ledger l => arriveLedger tag l s
  | .buyerQuery q => done (doBuyerQuery q s)
  | .invoiceQuery q => done (doInvoiceQuery q s)
  | .journalRead start count => done (doJournalRead start count s)
  | .journalRelease n => done (doJournalRelease n s)
  | .boardSet board period => done (doBoardSet board period s)
  | .boardQuery n => done (doBoardQuery n s)
  | .hallTimeSet t => done (doHallTimeSet t s)
  | .hallTimeRead => done (doHallTimeRead s)
  | .closeAlarmSet a => done (doCloseAlarmSet a s)
  | .reportTake n => done (doReportTake n s)
  | .reportEnable e => done (doReportEnable e s)
  | .statsRead => done (doStatsRead s)
  | .statsClear => done (doStatsClear s)
  | .linkSet rate x => finish tag r (.newRate rate) (doLinkSet rate x s)
  | .controllerReset => beginReset tag s
  | .unknown => done (refuse s .unknownRequest)

/-- A valid frame has been taken in (R196): an overrun while a request is held or a reset is under way, dispatched
with a free reply place, else held. -/
def routeRequest (tag : Byte) (r : Request) (s : State) : State :=
  if s.hlp.held.isSome || s.hlp.resetting.isSome then countOverrun s
  else if placesUsed s < Config.replyPlaces then dispatchRequest tag r s
  else { s with hlp := { s.hlp with held := some (tag, r) } }

/-- A request's frame arrives (R195 to R197); on a silent link nothing does (R203). An IDLE clock that the frame's arrival
tells of the link's return (R79, R197) takes its candidate by a TAKE_LOT of its own (R62), after the dispatch: DESIGN
CHOICE, log entry 46. -/
def hostRequest (tag : Byte) (r : Request) (s : State) : State :=
  whenPowered s (routeRequest tag r (frameArrives s))

/-- What the end of a reply's last byte brings (R201, R202). -/
def afterReply (x : AfterReply) (backup : BackupSupply) (s : State) : State :=
  match x with
  | .nothing => s
  | .newRate rate => { s with hlp := { s.hlp with activeRate := rate } }
  | .warmStart => warmStart .warmReset false backup s

/-- A held request is dispatched when a place is free (R196). -/
def dispatchHeld (s : State) : State :=
  match s.hlp.held with
  | some (tag, r) =>
    if placesUsed s < Config.replyPlaces then dispatchRequest tag r { s with hlp := { s.hlp with held := none } } else s
  | none => s

/-- The last byte of the oldest completed reply has been sent: its place is freed, its own effect follows, and a held
request is dispatched (R196, R201, R202). -/
def replyGone (backup : BackupSupply) (s : State) : State :=
  match s.hlp.replies with
  | [] => s
  | r :: rest => dispatchHeld (afterReply r.after backup { s with hlp := { s.hlp with replies := rest } })

end Sys2Proof.Machine
end

