-- ==== Sys2Proof/Machine/HostCommands.lean ====
section
/-! DEFINITION. The host requests as commands of the part: each is one valid frame, taken in by R195 to R197 and
carried out by the rule of its owner. -/

namespace Sys2Proof.Machine

/-! ## Lots and lanes -/

/-- IDENTIFY (R200). -/
def execIdentify (tag : Byte) (s : State) : Host.Outcome State Fault Refusal :=
  .next (hostRequest tag .identify s)

/-- LOT-ENTER (R10, R11). -/
def execLotEnter (tag : Byte) (a : LotFields) (s : State) : Host.Outcome State Fault Refusal :=
  .next (hostRequest tag (.lotEnter a) s)

/-- LOT-AMEND (R12, R13). -/
def execLotAmend (tag : Byte) (a : LotAmendment) (s : State) : Host.Outcome State Fault Refusal :=
  .next (hostRequest tag (.lotAmend a) s)

/-- LOT-REMOVE (R14). -/
def execLotRemove (tag : Byte) (number : Nat) (s : State) : Host.Outcome State Fault Refusal :=
  .next (hostRequest tag (.lotRemove number) s)

/-- LOT-QUERY (R15). -/
def execLotQuery (tag : Byte) (q : Lookup) (s : State) : Host.Outcome State Fault Refusal :=
  .next (hostRequest tag (.lotQuery q) s)

/-- TRAIN-ANNOUNCE (R22, R23). -/
def execTrainAnnounce (tag : Byte) (a : TrainAnnouncement) (s : State) : Host.Outcome State Fault Refusal :=
  .next (hostRequest tag (.trainAnnounce a) s)

/-- TRAIN-CANCEL (R24). -/
def execTrainCancel (tag : Byte) (lane train : Nat) (s : State) : Host.Outcome State Fault Refusal :=
  .next (hostRequest tag (.trainCancel lane train) s)

/-- LANE-QUERY (R34, R35). -/
def execLaneQuery (tag : Byte) (q : LaneQuery) (s : State) : Host.Outcome State Fault Refusal :=
  .next (hostRequest tag (.laneQuery q) s)

/-- LANE-SET (R33). -/
def execLaneSet (tag : Byte) (a : LaneSettings) (s : State) : Host.Outcome State Fault Refusal :=
  .next (hostRequest tag (.laneSet a) s)

/-! ## Clocks -/

/-- CLOCK-SET (R59, R60). -/
def execClockSet (tag : Byte) (a : ClockSettings) (s : State) : Host.Outcome State Fault Refusal :=
  .next (hostRequest tag (.clockSet a) s)

/-- CLOCK-QUERY (R82). -/
def execClockQuery (tag : Byte) (clock : Nat) (s : State) : Host.Outcome State Fault Refusal :=
  .next (hostRequest tag (.clockQuery clock) s)

/-- CLOCK-HOLD (R74). -/
def execClockHold (tag : Byte) (clock : Nat) (s : State) : Host.Outcome State Fault Refusal :=
  .next (hostRequest tag (.clockHold clock) s)

/-- CLOCK-RESUME (R75). -/
def execClockResume (tag : Byte) (clock : Nat) (s : State) : Host.Outcome State Fault Refusal :=
  .next (hostRequest tag (.clockResume clock) s)

/-- CLOCK-WITHDRAW (R76). -/
def execClockWithdraw (tag : Byte) (clock : Nat) (s : State) : Host.Outcome State Fault Refusal :=
  .next (hostRequest tag (.clockWithdraw clock) s)

/-- CLOCK-OPEN (R78). -/
def execClockOpen (tag : Byte) (clock : Nat) (s : State) : Host.Outcome State Fault Refusal :=
  .next (hostRequest tag (.clockOpen clock) s)

/-! ## Desks and buyers -/

/-- DESK-QUERY (R103). -/
def execDeskQuery (tag : Byte) (q : DeskQuery) (s : State) : Host.Outcome State Fault Refusal :=
  .next (hostRequest tag (.deskQuery q) s)

/-- DESK-RELEASE (R100). -/
def execDeskRelease (tag : Byte) (desk : Nat) (s : State) : Host.Outcome State Fault Refusal :=
  .next (hostRequest tag (.deskRelease desk) s)

/-- BUYER-ENTER (R128). -/
def execBuyerEnter (tag : Byte) (a : BuyerEntry) (s : State) : Host.Outcome State Fault Refusal :=
  .next (hostRequest tag (.ledger (.buyerEnter a)) s)

/-- BUYER-FLAGS (R129). -/
def execBuyerFlags (tag : Byte) (a : FlagChange) (s : State) : Host.Outcome State Fault Refusal :=
  .next (hostRequest tag (.ledger (.buyerFlags a)) s)

/-- BUYER-LIMIT (R130). -/
def execBuyerLimit (tag : Byte) (number limit : Nat) (s : State) : Host.Outcome State Fault Refusal :=
  .next (hostRequest tag (.ledger (.buyerLimit number limit)) s)

/-- BUYER-REMOVE (R131). -/
def execBuyerRemove (tag : Byte) (number : Nat) (s : State) : Host.Outcome State Fault Refusal :=
  .next (hostRequest tag (.ledger (.buyerRemove number)) s)

/-- BUYER-QUERY (R132). -/
def execBuyerQuery (tag : Byte) (q : Lookup) (s : State) : Host.Outcome State Fault Refusal :=
  .next (hostRequest tag (.buyerQuery q) s)

/-- TARIFF-SET (R133). -/
def execTariffSet (tag : Byte) (feeClass rate : Nat) (s : State) : Host.Outcome State Fault Refusal :=
  .next (hostRequest tag (.ledger (.tariffSet feeClass rate)) s)

/-! ## Journal and invoices -/

/-- SALE-VOID (R156). -/
def execSaleVoid (tag : Byte) (sequence : Nat) (s : State) : Host.Outcome State Fault Refusal :=
  .next (hostRequest tag (.ledger (.saleVoid sequence)) s)

/-- PAYMENT-POST (R141). -/
def execPaymentPost (tag : Byte) (invoice : Nat) (s : State) : Host.Outcome State Fault Refusal :=
  .next (hostRequest tag (.ledger (.paymentPost invoice)) s)

/-- INVOICE-CLOSE (R162). -/
def execInvoiceClose (tag : Byte) (which : InvoiceChoice) (s : State) : Host.Outcome State Fault Refusal :=
  .next (hostRequest tag (.ledger (.invoiceClose which)) s)

/-- DAY-CLOSE (R163). -/
def execDayClose (tag : Byte) (s : State) : Host.Outcome State Fault Refusal :=
  .next (hostRequest tag (.ledger .dayClose) s)

/-- INVOICE-QUERY (R164). -/
def execInvoiceQuery (tag : Byte) (q : InvoiceQuery) (s : State) : Host.Outcome State Fault Refusal :=
  .next (hostRequest tag (.invoiceQuery q) s)

/-- JOURNAL-READ (R154). -/
def execJournalRead (tag : Byte) (start count : Nat) (s : State) : Host.Outcome State Fault Refusal :=
  .next (hostRequest tag (.journalRead start count) s)

/-- JOURNAL-RELEASE (R155). -/
def execJournalRelease (tag : Byte) (sequence : Nat) (s : State) : Host.Outcome State Fault Refusal :=
  .next (hostRequest tag (.journalRelease sequence) s)

/-! ## Boards, hall, link and part -/

/-- BOARD-SET (R177). -/
def execBoardSet (tag : Byte) (board period : Nat) (s : State) : Host.Outcome State Fault Refusal :=
  .next (hostRequest tag (.boardSet board period) s)

/-- BOARD-QUERY (R178). -/
def execBoardQuery (tag : Byte) (board : Nat) (s : State) : Host.Outcome State Fault Refusal :=
  .next (hostRequest tag (.boardQuery board) s)

/-- HALL-TIME-SET (R185). -/
def execHallTimeSet (tag : Byte) (time : Stamp) (s : State) : Host.Outcome State Fault Refusal :=
  .next (hostRequest tag (.hallTimeSet time) s)

/-- HALL-TIME-READ (R186). -/
def execHallTimeRead (tag : Byte) (s : State) : Host.Outcome State Fault Refusal :=
  .next (hostRequest tag .hallTimeRead s)

/-- CLOSE-ALARM-SET (R188). -/
def execCloseAlarmSet (tag : Byte) (alarm : Alarm) (s : State) : Host.Outcome State Fault Refusal :=
  .next (hostRequest tag (.closeAlarmSet alarm) s)

/-- REPORT-TAKE (R199). -/
def execReportTake (tag : Byte) (count : Nat) (s : State) : Host.Outcome State Fault Refusal :=
  .next (hostRequest tag (.reportTake count) s)

/-- REPORT-ENABLE (R199). -/
def execReportEnable (tag : Byte) (enables : ClassEnables) (s : State) : Host.Outcome State Fault Refusal :=
  .next (hostRequest tag (.reportEnable enables) s)

/-- STATS-READ (R200). -/
def execStatsRead (tag : Byte) (s : State) : Host.Outcome State Fault Refusal :=
  .next (hostRequest tag .statsRead s)

/-- STATS-CLEAR (R200). -/
def execStatsClear (tag : Byte) (s : State) : Host.Outcome State Fault Refusal :=
  .next (hostRequest tag .statsClear s)

/-- LINK-SET (R201). -/
def execLinkSet (tag : Byte) (rate : Nat) (supervision : Option Supervision) (s : State) :
    Host.Outcome State Fault Refusal :=
  .next (hostRequest tag (.linkSet rate supervision) s)

/-- CONTROLLER-RESET (R202). -/
def execControllerReset (tag : Byte) (s : State) : Host.Outcome State Fault Refusal :=
  .next (hostRequest tag .controllerReset s)

/-- A frame of no known kind or form: UNKNOWN_REQUEST (R196). -/
def execUnknownRequest (tag : Byte) (s : State) : Host.Outcome State Fault Refusal :=
  .next (hostRequest tag .unknown s)

end Sys2Proof.Machine
end

