-- ==== Sys2Proof/Machine/LaneEvents.lean ====
section
/-! DEFINITION. The events of the Feed Lane Sequencer (2.3, 2.4): gate samples, qualified changes and the gap timer. -/

namespace Sys2Proof.Machine

/-- GATE_QUALIFIED_CHANGE (R25): the qualification counter reaches its count. The command stands for the samples
still lacking (log entry 10). -/
def execGateQualifiedChange (lane : ClockId) (s : State) : Host.Outcome State Fault Refusal :=
  .next (whenPowered s (gateChanges lane s))

/-- GAP_EXPIRY (R29). -/
def execGapExpiry (lane : ClockId) (s : State) : Host.Outcome State Fault Refusal :=
  .next (whenPowered s
    (match (s.lane lane).gapEnds with
      | none => s
      | some t => gapRunsOut lane (s.reach t)))

/-- GATE_SAMPLE (R25): one sample of the gate, BLOCKED or CLEAR. -/
def execGateSample (lane : ClockId) (blocked : Bool) (s : State) : Host.Outcome State Fault Refusal :=
  .next (whenPowered s (sampleGate lane blocked s))

end Sys2Proof.Machine
end

