-- ==== Sys2Proof/Machine/LedgerEvents.lean ====
section
/-! DEFINITION. The completions of the ledger operation in progress (7.6, 8.4). They happen in the retained store also
while the main supply is FAILED (R145). -/

namespace Sys2Proof.Machine

/-- LEDGER_OPERATION_COMPLETE (R134): the host ledger request in progress, other than a SALE-VOID, completes. -/
def execLedgerOperationComplete (s : State) : Host.Outcome State Fault Refusal :=
  .next
    (match s.ledger.arbiter.inProgress with
      | some (.host _ (.saleVoid _) _ _) => s
      | some (.host tag r _ v) => completeHost tag r v s
      | some (.commit _ _ _) => s
      | none => s)

/-- SALE_COMMIT_COMPLETE (R138, R139): the SALE-COMMIT in progress completes. -/
def execSaleCommitComplete (s : State) : Host.Outcome State Fault Refusal :=
  .next
    (match s.ledger.arbiter.inProgress with
      | some (.commit c r a) => completeCommit c r a s
      | some (.host _ _ _ _) => s
      | none => s)

/-- SALE_VOID_COMPLETE (R156, R157): the SALE-VOID in progress completes. -/
def execSaleVoidComplete (s : State) : Host.Outcome State Fault Refusal :=
  .next
    (match s.ledger.arbiter.inProgress with
      | some (.host tag (.saleVoid n) _ v) => completeHost tag (.saleVoid n) v s
      | some (.host _ _ _ _) => s
      | some (.commit _ _ _) => s
      | none => s)

end Sys2Proof.Machine
end

