-- ==== Sys2Proof/Machine/Wire.lean ====
section
/-! DEFINITION. The wire layouts of 11.8: the check of R195, host frames, the journal line record, desk bus frames and
board frames, each with the writer and the reader of its bytes. A reader answers `none` for bytes that are no frame of
its kind. -/

namespace Sys2Proof.Machine

/-! ## Numbers and the check -/

/-- A number in `n` bytes, most significant byte first (11.8). -/
def bytesOf : Nat → Nat → List Byte
  | 0, _ => []
  | n + 1, x => BitVec.ofNat 8 (x / 256 ^ n) :: bytesOf n x

/-- The number that the first `n` bytes carry on top of `acc`, most significant first, and the bytes after them. -/
def readFrom (acc : Nat) : Nat → List Byte → Option (Nat × List Byte)
  | 0, l => some (acc, l)
  | _ + 1, [] => none
  | n + 1, b :: l => readFrom (acc * 256 + b.toNat) n l

/-- The number in the first `n` bytes and the bytes after them. -/
def readNumber (n : Nat) (l : List Byte) : Option (Nat × List Byte) := readFrom 0 n l

/-- One bit of the check: shift out the high bit, with polynomial 0x1021 where it was 1 (R195). -/
def crcBit (c : BitVec 16) : BitVec 16 := if c.msb then (c <<< 1) ^^^ 0x1021#16 else c <<< 1

/-- One byte of the check, its most significant bit first (R195). -/
def crcByte (c : BitVec 16) (b : Byte) : BitVec 16 :=
  crcBit (crcBit (crcBit (crcBit (crcBit (crcBit (crcBit (crcBit (c ^^^ (b.zeroExtend 16 <<< 8)))))))))

/-- The check of R195: initial value 0xFFFF, no final inversion. -/
def crc (l : List Byte) : Nat := (l.foldl crcByte 0xFFFF#16).toNat

/-- Bytes followed by their check, its high byte first (R195). -/
def withCheck (l : List Byte) : List Byte := l ++ bytesOf 2 (crc l)

/-- The first `n` bytes, when there are as many. -/
def takeExactly (n : Nat) (l : List Byte) : Option (List Byte × List Byte) :=
  if n ≤ l.length then some (l.take n, l.drop n) else none

/-! ## Host frames (11.8.1) -/

/-- A host frame. -/
structure HostFrame where
  kind : Nat
  tag : Byte
  body : List Byte
  deriving DecidableEq, Repr

/-- The bytes of a host frame (11.8.1). -/
def writeHostFrame (f : HostFrame) : List Byte :=
  Config.hostStartByte :: withCheck (bytesOf 2 f.body.length ++ bytesOf 1 f.kind ++ f.tag :: f.body)

/-- A host frame read from its bytes: start byte, a length of at most 512, and a check that agrees (R195). -/
def readHostFrame : List Byte → Option HostFrame
  | [] => none
  | start :: l => do
    if start ≠ Config.hostStartByte then none
    let (len, l1) ← readNumber 2 l
    if 512 < len then none
    let (kind, l2) ← readNumber 1 l1
    let (head, l3) ← takeExactly (len + 1) l2
    let (check, l4) ← readNumber 2 l3
    if check ≠ crc (l.take (len + 4)) ∨ l4 ≠ [] then none
    match head with
    | tag :: body => some { kind := kind, tag := tag, body := body }
    | [] => none

/-- The requests of the catalogue that have no field (11.2.1). -/
def bareRequest (kind : Nat) : Option Request :=
  if kind = 1 then some .identify
  else if kind = 27 then some (.ledger .dayClose)
  else if kind = 34 then some .hallTimeRead
  else if kind = 38 then some .statsRead
  else if kind = 39 then some .statsClear
  else if kind = 41 then some .controllerReset
  else none

/-- The request a valid frame is (R196): of its kind, or of no known kind or form. The fields of a body are read by the
free `Config.requestBody` (log entry 48). -/
def requestOf (kind : Nat) (body : List Byte) : Request :=
  match bareRequest kind with
  | some r => if body.isEmpty then r else .unknown
  | none =>
    match Config.requestBody kind body with
    | some r => if r.replyKind = 128 + kind then r else .unknown
    | none => .unknown

/-! ## Reply statuses (R196) -/

/-- The status byte with which every reply body begins (the table of R196). -/
def statusCode : Status → Nat
  | .ok => 0
  | .unknownRequest => 1
  | .badField => 2
  | .notFound => 3
  | .exists_ => 4
  | .full => 5
  | .state => 6
  | .busy => 7
  | .key => 8
  | .belowCommitted => 9
  | .journalFull => 10
  | .timeNotSet => 11

/-- The status a status byte names. -/
def statusOf (n : Nat) : Option Status :=
  [.ok, .unknownRequest, .badField, .notFound, .exists_, .full, .state, .busy, .key, .belowCommitted, .journalFull,
    .timeNotSet][n]?

/-! ## Optional fields and codes -/

/-- An absent field is written 0 (11.8). -/
def orZero (x : Option Nat) : Nat := x.getD 0

/-- A field written 0 is absent (11.8). -/
def absentIfZero (n : Nat) : Option Nat := if n = 0 then none else some n

/-- A flag bit of value `weight`. -/
def flagBit (weight : Nat) (b : Bool) : Nat := if b then weight else 0

/-- The bit of value `weight` of a byte. -/
def bitOf (weight n : Nat) : Bool := n / weight % 2 = 1

/-! ## Journal line records (11.8.2) -/

/-- The kind byte of a journal line. -/
def lineKindCode : LineKind → Nat
  | .sale => 1
  | .void => 2
  | .noSale => 3

/-- The kind a kind byte names. -/
def lineKindOf (n : Nat) : Option LineKind :=
  if n = 1 then some .sale else if n = 2 then some .void else if n = 3 then some .noSale else none

/-- The stamp's eight bytes. -/
def stampBytes (t : Stamp) : List Byte :=
  bytesOf 2 t.year ++ bytesOf 1 t.month ++ bytesOf 1 t.day ++ bytesOf 1 t.hour ++ bytesOf 1 t.minute ++
    bytesOf 1 t.second ++ bytesOf 1 t.hundredth

/-- The flags byte: stamp valid, voided mark, cause WITHDRAWN. -/
def lineFlags (l : JournalLine) : Nat :=
  flagBit 1 l.stampValid + flagBit 2 l.voided + flagBit 4 (l.cause = some .withdrawn)

/-- The 56 bytes of a journal line (11.8.2). -/
def writeLineRecord (l : JournalLine) : List Byte :=
  bytesOf 4 l.sequence ++ bytesOf 1 (lineKindCode l.kind) ++ bytesOf 1 (lineFlags l) ++ stampBytes l.stamp ++
    bytesOf 1 (numberOf l.clock) ++ bytesOf 1 l.run ++ bytesOf 2 l.lot ++ bytesOf 2 (orZero l.buyer) ++
    bytesOf 2 (orZero (l.desk.map numberOf)) ++ bytesOf 4 (orZero l.invoice) ++ bytesOf 4 (orZero l.voidedSequence) ++
    bytesOf 2 l.packs ++ bytesOf 2 l.unitsPerPack ++ bytesOf 4 l.price ++ bytesOf 6 l.amount ++ bytesOf 6 l.levy ++
    bytesOf 6 l.debit

/-- A stamp read from its eight bytes. -/
def readStamp (l : List Byte) : Option (Stamp × List Byte) := do
  let (year, l) ← readNumber 2 l
  let (month, l) ← readNumber 1 l
  let (day, l) ← readNumber 1 l
  let (hour, l) ← readNumber 1 l
  let (minute, l) ← readNumber 1 l
  let (second, l) ← readNumber 1 l
  let (hundredth, l) ← readNumber 1 l
  some ({ year := year, month := month, day := day, hour := hour, minute := minute, second := second,
          hundredth := hundredth }, l)

/-- A journal line read from its record. Only a NO_SALE line has a cause (R148). -/
def readLineRecord (l : List Byte) : Option (JournalLine × List Byte) := do
  let (sequence, l) ← readNumber 4 l
  let (code, l) ← readNumber 1 l
  let kind ← lineKindOf code
  let (flags, l) ← readNumber 1 l
  let (stamp, l) ← readStamp l
  let (clockNo, l) ← readNumber 1 l
  let clock ← clockNumbered clockNo
  let (run, l) ← readNumber 1 l
  let (lot, l) ← readNumber 2 l
  let (buyer, l) ← readNumber 2 l
  let (desk, l) ← readNumber 2 l
  let (invoice, l) ← readNumber 4 l
  let (voidedSequence, l) ← readNumber 4 l
  let (packs, l) ← readNumber 2 l
  let (units, l) ← readNumber 2 l
  let (price, l) ← readNumber 4 l
  let (amount, l) ← readNumber 6 l
  let (levy, l) ← readNumber 6 l
  let (debit, l) ← readNumber 6 l
  some ({ sequence := sequence, kind := kind, stamp := stamp, stampValid := bitOf 1 flags, clock := clock, lot := lot,
          run := run, buyer := absentIfZero buyer, desk := deskNumbered desk, invoice := absentIfZero invoice,
          voidedSequence := absentIfZero voidedSequence, voided := bitOf 2 flags,
          cause := if kind = .noSale then some (if bitOf 4 flags then .withdrawn else .reserve) else none,
          packs := packs, unitsPerPack := units, price := price, amount := amount, levy := levy, debit := debit }, l)

/-! ## The bus envelope (11.8.3) -/

/-- A frame of the desk bus or of a board link. -/
structure BusFrame where
  address : Nat
  type : Nat
  body : List Byte
  deriving DecidableEq, Repr

/-- Start byte of a bus frame (11.8.3). -/
def busStartByte : Byte := 0x5A

/-- The bytes of a bus frame: the check covers the address to the end of the body (11.8.3). -/
def writeBusFrame (f : BusFrame) : List Byte :=
  busStartByte :: withCheck (bytesOf 1 f.address ++ bytesOf 1 f.type ++ bytesOf 1 f.body.length ++ f.body)

/-- A bus frame read from its bytes: body of at most 64 bytes and a check that agrees. -/
def readBusFrame : List Byte → Option BusFrame
  | [] => none
  | start :: l => do
    if start ≠ busStartByte then none
    let (address, l1) ← readNumber 1 l
    let (type, l2) ← readNumber 1 l1
    let (len, l3) ← readNumber 1 l2
    if 64 < len then none
    let (body, l4) ← takeExactly len l3
    let (check, l5) ← readNumber 2 l4
    if check ≠ crc (l.take (len + 3)) ∨ l5 ≠ [] then none
    some { address := address, type := type, body := body }

/-! ## Desk bus frames (11.8.3) -/

/-- A tick frame, broadcast (R46). -/
def tickFrame (t : Tick) : BusFrame :=
  { address := 0, type := 1, body := bytesOf 1 (numberOf t.clock) ++ bytesOf 1 t.run ++ bytesOf 1 t.tag }

/-- A lamp byte: bit 0 WIN, bit 1 REFUSED. -/
def lampByte (l : Bool × Bool) : Byte := BitVec.ofNat 8 (flagBit 1 l.1 + flagBit 2 l.2)

/-- A poll frame: the acknowledgement and the sixteen lamp bytes (R87). -/
def pollFrame (p : Poll) : BusFrame :=
  { address := numberOf p.row, type := 2, body := bytesOf 1 p.ack ++ p.lamps.map lampByte }

/-- The bytes of an event. -/
def eventBytes : DeskEvent → List Byte
  | .press desk clock run tag offset packs =>
    bytesOf 1 1 ++ bytesOf 2 desk ++ bytesOf 1 clock ++ bytesOf 1 run ++ bytesOf 1 tag ++ bytesOf 2 offset ++
      bytesOf 2 packs
  | .signOn desk buyer => bytesOf 1 2 ++ bytesOf 2 desk ++ bytesOf 2 buyer
  | .signOff desk => bytesOf 1 3 ++ bytesOf 2 desk

/-- An event read from its bytes. -/
def readEvent (l : List Byte) : Option (DeskEvent × List Byte) := do
  let (type, l) ← readNumber 1 l
  if type = 1 then
    let (desk, l) ← readNumber 2 l
    let (clock, l) ← readNumber 1 l
    let (run, l) ← readNumber 1 l
    let (tag, l) ← readNumber 1 l
    let (offset, l) ← readNumber 2 l
    let (packs, l) ← readNumber 2 l
    some (.press desk clock run tag offset packs, l)
  else if type = 2 then
    let (desk, l) ← readNumber 2 l
    let (buyer, l) ← readNumber 2 l
    some (.signOn desk buyer, l)
  else if type = 3 then
    let (desk, l) ← readNumber 2 l
    some (.signOff desk, l)
  else none

/-- So many events read in order. -/
def readEvents : Nat → List Byte → Option (List DeskEvent × List Byte)
  | 0, l => some ([], l)
  | n + 1, l => do
    let (e, l) ← readEvent l
    let (rest, l) ← readEvents n l
    some (e :: rest, l)

/-- A row's reply frame (11.8.3). -/
def replyFrame (r : RowReply) : BusFrame :=
  { address := r.row, type := 3,
    body := bytesOf 1 r.batch ++ bytesOf 1 r.events.length ++ r.events.flatMap eventBytes }

/-- A row reply read from the bytes on the bus; its event count is 0 to 4 (11.8.3). -/
def readRowReply (bytes : List Byte) : Option RowReply := do
  let f ← readBusFrame bytes
  if f.type ≠ 3 then none
  let (batch, l) ← readNumber 1 f.body
  let (count, l) ← readNumber 1 l
  if 4 < count then none
  let (events, l) ← readEvents count l
  if l ≠ [] then none
  some { row := f.address, batch := batch, events := events }

/-! ## Board frames (11.8.4) -/

/-- The clock-state byte of a display frame. -/
def clockStateCode : ClockState → Nat
  | .idle => 0
  | .loaded .new => 1
  | .loaded .restart => 2
  | .running => 3
  | .stopping => 4
  | .deciding => 5
  | .sold => 6
  | .held => 7
  | .closed => 8

/-- The state a clock-state byte names. -/
def clockStateOf (n : Nat) : Option ClockState :=
  match n with
  | 0 => some .idle
  | 1 => some (.loaded .new)
  | 2 => some (.loaded .restart)
  | 3 => some .running
  | 4 => some .stopping
  | 5 => some .deciding
  | 6 => some .sold
  | 7 => some .held
  | 8 => some .closed
  | _ => none

/-- The quality-class byte. -/
def qualityCode : QualityClass → Nat
  | .a1 => 1
  | .a2 => 2
  | .b1 => 3

/-- The quality class a byte names. -/
def qualityOf (n : Nat) : Option QualityClass :=
  if n = 1 then some .a1 else if n = 2 then some .a2 else if n = 3 then some .b1 else none

/-- The presence byte: lot, stem length, text, price, dial, last sale. -/
def presenceByte (p : Picture) : Nat :=
  flagBit 1 p.lot.isSome + flagBit 2 (p.lot.bind ShownLot.stemLength).isSome +
    flagBit 4 (p.lot.bind ShownLot.text).isSome + flagBit 8 p.price.isSome + flagBit 16 p.dial.isSome +
    flagBit 32 p.lastSale.isSome

/-- The lot part of a display frame, offsets 3 to 17; zeros without a lot. -/
def lotBytes : Option ShownLot → List Byte
  | none => bytesOf 15 0
  | some l =>
    bytesOf 2 l.number ++ bytesOf 3 l.grower ++ bytesOf 2 l.product ++ bytesOf 1 (qualityCode l.quality) ++
      bytesOf 1 (orZero l.stemLength) ++ bytesOf 2 l.unitsPerPack ++ bytesOf 2 l.packsRemaining ++
      bytesOf 2 l.minTake

/-- The last-sale part of a display frame, offsets 22 to 30; zeros without one. -/
def saleBytes : Option ShownSale → List Byte
  | none => bytesOf 9 0
  | some r => bytesOf 2 r.lot ++ bytesOf 2 r.buyer ++ bytesOf 2 r.packs ++ bytesOf 3 r.price

/-- The display text of a picture, empty without one. -/
def shownText (p : Picture) : List Nat := (p.lot.bind ShownLot.text).getD []

/-- The body of a display frame (11.8.4). -/
def displayBody (number : Nat) (p : Picture) : List Byte :=
  bytesOf 1 number ++ bytesOf 1 (clockStateCode p.state) ++ bytesOf 1 (presenceByte p) ++ lotBytes p.lot ++
    bytesOf 3 (orZero p.price) ++ bytesOf 1 (orZero p.dial) ++ saleBytes p.lastSale ++
    bytesOf 1 (shownText p).length ++ (shownText p).map (BitVec.ofNat 8)

/-- What a board link carries, as a frame of the bus envelope with the board's number as address (11.8.4). -/
def boardFrame (board : ClockId) : BoardFrame → BusFrame
  | .display n p => { address := numberOf board, type := 16, body := displayBody n p }
  | .probe n => { address := numberOf board, type := 17, body := bytesOf 1 n }

/-- A board's answer: the frame number it answers (11.8.4). -/
def answerFrame (board : ClockId) (number : Nat) : BusFrame :=
  { address := numberOf board, type := 18, body := bytesOf 1 number }

/-- The frame number of a board's answer, read from the bytes on its link. -/
def readAnswer (board : ClockId) (bytes : List Byte) : Option Nat := do
  let f ← readBusFrame bytes
  if f.type ≠ 18 ∨ f.address ≠ numberOf board then none
  let (n, l) ← readNumber 1 f.body
  if l ≠ [] then none
  some n

end Sys2Proof.Machine
end

