-- ==== Sys2Proof/Machine/LinkEvents.lean ====
section
/-! DEFINITION. The events of the host link (11.1 to 11.3): overruns, bad frames, the idle line, replies sent,
supervision and the bytes of the line. -/

namespace Sys2Proof.Machine

/-- FRAME_OVERRUN (R196, R202): a valid frame that finds a request held, or dispatch stopped by a reset, is counted
and discarded; its supervision restart and its link restoring stand (R197). In any other state the frame is none that
overruns, and nothing happens (log entry 9). -/
def execFrameOverrun (s : State) : Host.Outcome State Fault Refusal :=
  .next (whenPowered s
    (if s.hlp.held.isSome || s.hlp.resetting.isSome then countOverrun (frameArrives s) else s))

/-- How far the bytes received since a start byte have come (R195). -/
inductive Reception
  | part | oversize | whole
  deriving DecidableEq, Repr

/-- A frame is abandoned at a length field above 512, and is whole with its last CRC byte (R195, 11.8.1). -/
def receptionOf (l : List Byte) : Reception :=
  match readNumber 2 l.tail with
  | none => .part
  | some (len, _) => if 512 < len then .oversize else if len + 7 ≤ l.length then .whole else .part

/-- The receiver with so many bytes of a frame, its last just received (R195). -/
def keepReceiving (frame : List Byte) (spoiled : Bool) (s : State) : State :=
  { s with hlp := { s.hlp with receiver := .receiving frame spoiled (s.timebase + Config.receiverIdle) } }

/-- The last CRC byte has arrived (R195): a valid frame is handed to R196, any other is counted bad. -/
def frameEnds (frame : List Byte) (spoiled : Bool) (s : State) : State :=
  if spoiled then frameFails s
  else
    match readHostFrame frame with
    | some f => routeRequest f.tag (requestOf f.kind f.body) (frameArrives s)
    | none => frameFails s

/-- One more byte of the frame being received (R195). -/
def extendFrame (frame : List Byte) (spoiled : Bool) (s : State) : State :=
  match receptionOf frame with
  | .part => keepReceiving frame spoiled s
  | .oversize => frameFails s
  | .whole => frameEnds frame spoiled s

/-- A byte received (R195): in HUNTING a start byte begins a frame and any other is passed over; in RECEIVING it is the
next byte of the frame, whatever its value. -/
def receiveByte (b : LineByte) (s : State) : State :=
  match s.hlp.receiver with
  | .hunting => if b.value = Config.hostStartByte then keepReceiving [b.value] b.stopError s else s
  | .receiving frame spoiled _ => extendFrame (frame ++ [b.value]) (spoiled || b.stopError) s

/-- Whether a frame has the fault named (R195). -/
def hasFault : FrameFault → Bool
  | .checkFailed frame => (readHostFrame frame).isNone
  | .stopBitError => true
  | .oversizeLength length => 512 < length

/-- FRAME_BAD (R195): counted and discarded without reply, whatever was wrong with it. A frame without the fault named
is not bad, and nothing happens (log entry 9). -/
def execFrameBad (why : FrameFault) (s : State) : Host.Outcome State Fault Refusal :=
  .next (whenPowered s (if hasFault why then frameFails s else s))

/-- RECEIVER_IDLE_TIMEOUT (R195): a partial frame is abandoned once the line has been idle for more than 1 ms. -/
def execReceiverIdleTimeout (s : State) : Host.Outcome State Fault Refusal :=
  .next (whenPowered s
    (match s.hlp.receiver with
      | .hunting => s
      | .receiving _ _ idleAt => frameFails (s.reach idleAt)))

/-- REPLY_SENT (R196): the place of the reply whose last byte has gone is freed. -/
def execReplySent (backup : BackupSupply) (s : State) : Host.Outcome State Fault Refusal :=
  .next (whenPowered s (replyGone backup s))

/-- SUPERVISION_EXPIRY (R197). -/
def execSupervisionExpiry (s : State) : Host.Outcome State Fault Refusal :=
  .next (whenPowered s
    (match s.hlp.supervisionEnds with
      | none => s
      | some t => loseHost (s.reach t)))

/-- START_BYTE_RECEIVED (R195): the bytes the line delivers at this moment, one after another. -/
def execStartByteReceived (s : State) (bytes : List LineByte :=
    [{ value := Config.hostStartByte, stopError := false }]) : Host.Outcome State Fault Refusal :=
  .next (whenPowered s (bytes.foldl (fun s b => receiveByte b s) s))

end Sys2Proof.Machine
end

