-- ==== Sys2Proof/Machine/Dispatch.lean ====
section
/-! DEFINITION. One arm for each command of `Instr`: its meaning. -/

namespace Sys2Proof.Machine

def exec (i : Instr) (s : State) : Host.Outcome State Fault Refusal :=
  match i with
  | .identify tag => Sys2Proof.Machine.execIdentify tag s
  | .lotEnter tag a => Sys2Proof.Machine.execLotEnter tag a s
  | .lotAmend tag a => Sys2Proof.Machine.execLotAmend tag a s
  | .lotRemove tag number => Sys2Proof.Machine.execLotRemove tag number s
  | .lotQuery tag q => Sys2Proof.Machine.execLotQuery tag q s
  | .trainAnnounce tag a => Sys2Proof.Machine.execTrainAnnounce tag a s
  | .trainCancel tag lane train => Sys2Proof.Machine.execTrainCancel tag lane train s
  | .laneQuery tag q => Sys2Proof.Machine.execLaneQuery tag q s
  | .laneSet tag a => Sys2Proof.Machine.execLaneSet tag a s
  | .clockSet tag a => Sys2Proof.Machine.execClockSet tag a s
  | .clockQuery tag clock => Sys2Proof.Machine.execClockQuery tag clock s
  | .clockHold tag clock => Sys2Proof.Machine.execClockHold tag clock s
  | .clockResume tag clock => Sys2Proof.Machine.execClockResume tag clock s
  | .clockWithdraw tag clock => Sys2Proof.Machine.execClockWithdraw tag clock s
  | .clockOpen tag clock => Sys2Proof.Machine.execClockOpen tag clock s
  | .deskQuery tag q => Sys2Proof.Machine.execDeskQuery tag q s
  | .deskRelease tag desk => Sys2Proof.Machine.execDeskRelease tag desk s
  | .buyerEnter tag a => Sys2Proof.Machine.execBuyerEnter tag a s
  | .buyerFlags tag a => Sys2Proof.Machine.execBuyerFlags tag a s
  | .buyerLimit tag number limit => Sys2Proof.Machine.execBuyerLimit tag number limit s
  | .buyerRemove tag number => Sys2Proof.Machine.execBuyerRemove tag number s
  | .buyerQuery tag q => Sys2Proof.Machine.execBuyerQuery tag q s
  | .tariffSet tag feeClass rate => Sys2Proof.Machine.execTariffSet tag feeClass rate s
  | .saleVoid tag sequence => Sys2Proof.Machine.execSaleVoid tag sequence s
  | .paymentPost tag invoice => Sys2Proof.Machine.execPaymentPost tag invoice s
  | .invoiceClose tag which => Sys2Proof.Machine.execInvoiceClose tag which s
  | .dayClose tag => Sys2Proof.Machine.execDayClose tag s
  | .invoiceQuery tag q => Sys2Proof.Machine.execInvoiceQuery tag q s
  | .journalRead tag start count => Sys2Proof.Machine.execJournalRead tag start count s
  | .journalRelease tag sequence => Sys2Proof.Machine.execJournalRelease tag sequence s
  | .boardSet tag board period => Sys2Proof.Machine.execBoardSet tag board period s
  | .boardQuery tag board => Sys2Proof.Machine.execBoardQuery tag board s
  | .hallTimeSet tag time => Sys2Proof.Machine.execHallTimeSet tag time s
  | .hallTimeRead tag => Sys2Proof.Machine.execHallTimeRead tag s
  | .closeAlarmSet tag alarm => Sys2Proof.Machine.execCloseAlarmSet tag alarm s
  | .reportTake tag count => Sys2Proof.Machine.execReportTake tag count s
  | .reportEnable tag enables => Sys2Proof.Machine.execReportEnable tag enables s
  | .statsRead tag => Sys2Proof.Machine.execStatsRead tag s
  | .statsClear tag => Sys2Proof.Machine.execStatsClear tag s
  | .linkSet tag rate supervision => Sys2Proof.Machine.execLinkSet tag rate supervision s
  | .controllerReset tag => Sys2Proof.Machine.execControllerReset tag s
  | .unknownRequest tag => Sys2Proof.Machine.execUnknownRequest tag s
  | .frameOverrun => Sys2Proof.Machine.execFrameOverrun s
  | .frameBad why => Sys2Proof.Machine.execFrameBad why s
  | .receiverIdleTimeout => Sys2Proof.Machine.execReceiverIdleTimeout s
  | .replySent backup => Sys2Proof.Machine.execReplySent backup s
  | .supervisionExpiry => Sys2Proof.Machine.execSupervisionExpiry s
  | .ledgerOperationComplete => Sys2Proof.Machine.execLedgerOperationComplete s
  | .saleCommitComplete => Sys2Proof.Machine.execSaleCommitComplete s
  | .saleVoidComplete => Sys2Proof.Machine.execSaleVoidComplete s
  | .takeLot c => Sys2Proof.Machine.execTakeLot c s
  | .previewExpiry c => Sys2Proof.Machine.execPreviewExpiry c s
  | .stepTimerExpiry c => Sys2Proof.Machine.execStepTimerExpiry c s
  | .windowExpiry c => Sys2Proof.Machine.execWindowExpiry c s
  | .pauseExpiry c => Sys2Proof.Machine.execPauseExpiry c s
  | .gateQualifiedChange lane => Sys2Proof.Machine.execGateQualifiedChange lane s
  | .gapExpiry lane => Sys2Proof.Machine.execGapExpiry lane s
  | .tickSent => Sys2Proof.Machine.execTickSent s
  | .pollSent => Sys2Proof.Machine.execPollSent s
  | .rowReplyGood reply => Sys2Proof.Machine.execRowReplyGood reply s
  | .rowReplyBad => Sys2Proof.Machine.execRowReplyBad s
  | .rowReplyTimeout part => Sys2Proof.Machine.execRowReplyTimeout s part
  | .refreshWindow b => Sys2Proof.Machine.execRefreshWindow b s
  | .boardTransmitEnd b => Sys2Proof.Machine.execBoardTransmitEnd b s
  | .boardAnswerGood b number => Sys2Proof.Machine.execBoardAnswerGood b number s
  | .boardAnswerBad b => Sys2Proof.Machine.execBoardAnswerBad b s
  | .boardAnswerTimeout b => Sys2Proof.Machine.execBoardAnswerTimeout b s
  | .calendarAdvance => Sys2Proof.Machine.execCalendarAdvance s
  | .keyQualifiedChange position => Sys2Proof.Machine.execKeyQualifiedChange position s
  | .mainSupplyFail => Sys2Proof.Machine.execMainSupplyFail s
  | .mainSupplyAboveThreshold => Sys2Proof.Machine.execMainSupplyAboveThreshold s
  | .mainSupplyReturn backup => Sys2Proof.Machine.execMainSupplyReturn backup s
  | .powerOn backup => Sys2Proof.Machine.execPowerOn backup s
  | .backupChange reading => Sys2Proof.Machine.execBackupChange reading s
  | .gateSample lane blocked => Sys2Proof.Machine.execGateSample lane blocked s
  | .keySample saleClosed setupClosed => Sys2Proof.Machine.execKeySample saleClosed setupClosed s
  | .mainSupplyBelowThreshold => Sys2Proof.Machine.execMainSupplyBelowThreshold s
  | .startByteReceived bytes => Sys2Proof.Machine.execStartByteReceived s bytes
  | .deskBusLineIdle => Sys2Proof.Machine.execDeskBusLineIdle s

end Sys2Proof.Machine
end

