-- ==== Sys2Proof/Machine/Timers.lean ====
section
/-! DEFINITION. What the part's own timebase brings while no command waits: each event that is due joins the queue as
the command the table lists for it, and with none due a microsecond passes (log entry 2). -/

namespace Sys2Proof.Machine

/-- A timer that runs to `t` has expired at `now`. -/
def isDue (now : Nat) : Option Nat → Bool
  | none => false
  | some t => t ≤ now

/-- The events due at one clock: the expiries of its timers (R57) and the taking of a lot (R62). -/
def dueAtClock (s : State) (c : ClockId) : List Instr :=
  let x := s.clock c
  (if isDue s.timebase x.previewEnds then [.previewExpiry c] else []) ++
  (match x.stepTimer with
    | .running t => if t ≤ s.timebase then [.stepTimerExpiry c] else []
    | .halted _ => []
    | .stopped => []) ++
  (if isDue s.timebase x.windowEnds then [.windowExpiry c] else []) ++
  (if isDue s.timebase x.pauseEnds then [.pauseExpiry c] else []) ++
  (if (mayTake s c).isSome then [.takeLot c] else [])

/-- The gap timer of a lane (R29). -/
def dueAtLane (s : State) (c : ClockId) : List Instr :=
  if isDue s.timebase (s.lane c).gapEnds then [.gapExpiry c] else []

/-- The timers of a board: the answer wait (R174) and the refresh timer (R172). -/
def dueAtBoard (s : State) (c : ClockId) : List Instr :=
  (match (s.board c).activity with
    | .awaiting _ t => if t ≤ s.timebase then [.boardAnswerTimeout c] else []
    | .sending _ => []
    | .idle => []) ++
  (if (s.board c).windowAt ≤ s.timebase then [.refreshWindow c] else [])

/-- The time at which an idle line abandons the frame being received (R195). -/
def idleLineEnds : Receiver → Option Nat
  | .hunting => none
  | .receiving _ _ idleAt => some idleAt

/-- The idle line (R195) and supervision (R197). -/
def dueAtLink (s : State) : List Instr :=
  (if isDue s.timebase (idleLineEnds s.hlp.receiver) then [.receiverIdleTimeout] else []) ++
  (if isDue s.timebase s.hlp.supervisionEnds then [.supervisionExpiry] else [])

/-- The wait for a row's reply (R87). The part's own timer brings it with a silent line (log entry 35). -/
def dueAtBus (s : State) : List Instr :=
  match s.bus.activity with
  | .awaiting _ t => if t ≤ s.timebase then [.rowReplyTimeout false] else []
  | .sending => []
  | .idle => []

/-- The events due now. The calendar runs in both supplies (R183); while FAILED every block rests, and the end of the
200 ms above threshold brings the return, with the backup monitor read as it stands (R190, R192; log entry 14). -/
def dueCommands (s : State) : List Instr :=
  (if s.hall.nextAdvance ≤ s.timebase then [.calendarAdvance] else []) ++
  (match s.hall.main with
    | .failed => if isDue s.timebase s.hall.mainReturns then [.mainSupplyReturn s.hall.backup] else []
    | .present =>
      dueAtLink s ++ allClocks.flatMap (dueAtLane s) ++ allClocks.flatMap (dueAtClock s) ++ dueAtBus s ++
        allClocks.flatMap (dueAtBoard s))

/-- The part goes on by itself with nothing due: the poll that may be sent begins (R92), and with none a microsecond
passes. -/
def goOn (s : State) : State :=
  if s.hall.main = .present ∧ pollDue s = true then beginPoll s else { s with timebase := s.timebase + 1 }

/-- With no command waiting, the events due now join the queue, so that what is due at once comes at once; with none due
the bus goes on, or a microsecond passes (0.5.3; log entry 2). -/
def idle (s : State) : State :=
  match dueCommands s with
  | [] => goOn s
  | due => { s with pending := due }

end Sys2Proof.Machine
end

