-- ==== Sys2Proof/WellFormed.lean ====
section
/-! DEFINITION. Which commands are well formed: their fields fit the records that carry them (11.8). What a request's
owner makes of a field out of range is the owner's rule, and no matter of form. -/

namespace Sys2Proof

/-- A number that fits a field of `n` bytes. -/
def fits (n x : Nat) : Bool := x < 256 ^ n

/-- A text whose characters are bytes, of a length that fits one byte. -/
def fitsText : Option (List Nat) → Bool
  | none => true
  | some t => fits 1 t.length && t.all (fits 1)

/-- An amendment whose text fits. -/
def LotAmendment.fits (a : LotAmendment) : Bool :=
  match a.text with
  | .keep => true
  | .absent => true
  | .give t => fitsText (some t)

/-- A manifest whose trolley and lot counts fit one byte each. -/
def TrainAnnouncement.fits (a : TrainAnnouncement) : Bool :=
  Sys2Proof.fits 1 a.trolleys.length && a.trolleys.all fun t => Sys2Proof.fits 1 t.lots.length

/-- An event whose fields fit the event table of 11.8.3. -/
def DeskEvent.fits : DeskEvent → Bool
  | .press desk clock run tag offset packs =>
    Sys2Proof.fits 2 desk && Sys2Proof.fits 1 clock && Sys2Proof.fits 1 run && Sys2Proof.fits 1 tag &&
      Sys2Proof.fits 2 offset && Sys2Proof.fits 2 packs
  | .signOn desk buyer => Sys2Proof.fits 2 desk && Sys2Proof.fits 2 buyer
  | .signOff desk => Sys2Proof.fits 2 desk

/-- A row reply of the form of 11.8.3: its fields fit, and it holds at most four events. -/
def RowReply.fits (r : RowReply) : Bool :=
  Sys2Proof.fits 1 r.row && Sys2Proof.fits 1 r.batch && r.events.length ≤ 4 && r.events.all DeskEvent.fits

/-- The form of each command. -/
def Instr.wellFormed : Instr → Bool
  | .identify _ => true
  | .lotEnter _ a => fitsText a.text
  | .lotAmend _ a => a.fits
  | .lotRemove _ _ => true
  | .lotQuery _ _ => true
  | .trainAnnounce _ a => a.fits
  | .trainCancel _ _ _ => true
  | .laneQuery _ _ => true
  | .laneSet _ _ => true
  | .clockSet _ _ => true
  | .clockQuery _ _ => true
  | .clockHold _ _ => true
  | .clockResume _ _ => true
  | .clockWithdraw _ _ => true
  | .clockOpen _ _ => true
  | .deskQuery _ _ => true
  | .deskRelease _ _ => true
  | .buyerEnter _ a => fitsText a.name
  | .buyerFlags _ _ => true
  | .buyerLimit _ _ _ => true
  | .buyerRemove _ _ => true
  | .buyerQuery _ _ => true
  | .tariffSet _ _ _ => true
  | .saleVoid _ _ => true
  | .paymentPost _ _ => true
  | .invoiceClose _ _ => true
  | .dayClose _ => true
  | .invoiceQuery _ _ => true
  | .journalRead _ _ _ => true
  | .journalRelease _ _ => true
  | .boardSet _ _ _ => true
  | .boardQuery _ _ => true
  | .hallTimeSet _ _ => true
  | .hallTimeRead _ => true
  | .closeAlarmSet _ _ => true
  | .reportTake _ _ => true
  | .reportEnable _ _ => true
  | .statsRead _ => true
  | .statsClear _ => true
  | .linkSet _ _ _ => true
  | .controllerReset _ => true
  | .unknownRequest _ => true
  | .frameOverrun => true
  | .frameBad (.checkFailed frame) => frame.length ≤ 519
  | .frameBad .stopBitError => true
  | .frameBad (.oversizeLength n) => fits 2 n
  | .receiverIdleTimeout => true
  | .replySent _ => true
  | .supervisionExpiry => true
  | .ledgerOperationComplete => true
  | .saleCommitComplete => true
  | .saleVoidComplete => true
  | .takeLot _ => true
  | .previewExpiry _ => true
  | .stepTimerExpiry _ => true
  | .windowExpiry _ => true
  | .pauseExpiry _ => true
  | .gateQualifiedChange _ => true
  | .gapExpiry _ => true
  | .tickSent => true
  | .pollSent => true
  | .rowReplyGood r => r.fits
  | .rowReplyBad => true
  | .rowReplyTimeout _ => true
  | .refreshWindow _ => true
  | .boardTransmitEnd _ => true
  | .boardAnswerGood _ n => fits 1 n
  | .boardAnswerBad _ => true
  | .boardAnswerTimeout _ => true
  | .calendarAdvance => true
  | .keyQualifiedChange _ => true
  | .mainSupplyFail => true
  | .mainSupplyAboveThreshold => true
  | .mainSupplyReturn _ => true
  | .powerOn _ => true
  | .backupChange _ => true
  | .gateSample _ _ => true
  | .keySample _ _ => true
  | .mainSupplyBelowThreshold => true
  | .startByteReceived bytes => 1 ≤ bytes.length && bytes.length ≤ 519
  | .deskBusLineIdle => true

end Sys2Proof
end

