-- ==== Sys2Proof/Safety.lean ====
section
/-! DEFINITION. What a safe run of the part is: it never stops, its queues and counters stay within the bounds the
manual gives them, and the calendar shows a date that exists. -/

namespace Sys2Proof.Safety

open Sys2Proof.Machine

/-- The outcome is a next state. -/
def IsNext (o : Host.Outcome State Fault Refusal) : Prop := ∃ t, o = .next t

/-- `P` of the next state, if there is one. -/
def After (o : Host.Outcome State Fault Refusal) (P : State → Prop) : Prop := ∀ t, o = .next t → P t

/-- The report queue keeps its bounds (R194, R198), and attention is asserted exactly while an enabled report waits
and the main supply is present (R198, R203). -/
structure ReportsKept (s : State) : Prop where
  room : s.hlp.reports.length ≤ Config.reportPlaces
  lost : s.hlp.lostCount ≤ 255
  number : s.hlp.reportNumber < 65536
  attention : s.hall.main = .present → s.hlp.attention = attentionOf s.hlp.enables s.hlp.reports

/-- The calendar shows a date and time that exist (R182). -/
abbrev DateExists (t : Stamp) : Prop :=
  2000 ≤ t.year ∧ t.year ≤ 2099 ∧ 1 ≤ t.month ∧ t.month ≤ 12 ∧ 1 ≤ t.day ∧ t.day ≤ daysOf t.year t.month ∧
    t.hour ≤ 23 ∧ t.minute ≤ 59 ∧ t.second ≤ 59 ∧ t.hundredth ≤ 99

/-- The calendar of a state shows a date and time that exist (R182). -/
abbrev CalendarKept (s : State) : Prop := DateExists s.hall.calendar

/-- No clock has more than four ticks pending (R91). -/
abbrev TicksKept (s : State) : Prop := ∀ c, pendingOf c s.bus.ticks ≤ Config.ticksPerClock

/-- The reply queue's places in use, those reserved among them, and the waiting host ledger requests stay within
their bounds (R134, R194, R196). -/
structure RepliesKept (s : State) : Prop where
  places : placesUsed s ≤ Config.replyPlaces
  waiting : s.ledger.arbiter.requests.length ≤ Config.ledgerWaiting

/-- Committed never exceeds limit (R127), with what the operation in progress has read kept true of the accounts until
it completes (R136): a sale's debit fits, a new limit is not below committed, a new account's number is free. -/
structure CreditKept (s : State) : Prop where
  unique : s.ledger.buyers.Pairwise fun a b => a.number ≠ b.number
  limits : ∀ b ∈ s.ledger.buyers, b.committed ≤ b.limit
  sale : ∀ c r f, s.ledger.arbiter.inProgress = some (.commit c r (.accepted f)) →
    ∀ b ∈ s.ledger.buyers, b.number = f.buyer → b.committed + f.debit ≤ b.limit
  limit : ∀ tag n limit line, s.ledger.arbiter.inProgress = some (.host tag (.buyerLimit n limit) line .go) →
    ∀ b ∈ s.ledger.buyers, b.number = n → b.committed ≤ limit
  fresh : ∀ tag a line, s.ledger.arbiter.inProgress = some (.host tag (.buyerEnter a) line .go) →
    s.buyer a.number = none

/-- Every place of the manifests of a hall, lane by lane (R20). -/
def allPlaces (s : State) : List (Option Nat) := allClocks.flatMap fun c => (s.lane c).trains.flatMap placesOf

/-- A lot is ON_CLOCK exactly while one clock holds it as its current lot (R3), with what keeps it so: lot and train
numbers are unique, a clock without a lot is IDLE or CLOSED (R57), a manifest names a lot at one place only (R7, R22),
and the lots of an ANNOUNCED train are QUEUED (R4). -/
structure LotsKept (s : State) : Prop where
  unique : s.lots.Pairwise fun a b => a.number ≠ b.number
  held : ∀ c, ∀ n ∈ (s.clock c).lot, ∃ l ∈ s.lot n, l.state = .onClock
  onClock : ∀ l ∈ s.lots, l.state = .onClock → ∃ c, (s.clock c).lot = some l.number
  once : ∀ c d, c ≠ d → (s.clock c).lot = none ∨ (s.clock c).lot ≠ (s.clock d).lot
  bare : ∀ c, (s.clock c).state = .idle ∨ (s.clock c).state = .closed → (s.clock c).lot = none
  trains : ∀ c, (s.lane c).trains.Pairwise fun x y => x.number ≠ y.number
  placed : ∀ p ∈ allPlaces s, ∀ n ∈ p, ∃ l ∈ s.lot n, l.state ≠ .entered
  apart : ((allPlaces s).filterMap id).Nodup
  announced : ∀ c, ∀ x ∈ (s.lane c).trains, x.state = .announced →
    ∀ p ∈ placesOf x, ∀ n ∈ p, ∀ l ∈ s.lot n, l.state = .queued

/-- How many desks are bound to a buyer (R86). -/
def desksBoundTo (s : State) (buyer : Nat) : Nat :=
  ((List.finRange 480).filter fun d => (s.desk d).binding = some buyer).length

/-- Each account's bound-desk count is the number of desks bound to it (R86), every binding names an account, and an
account that the operation in progress will enter has a free number (R128, R136). -/
structure BindingsKept (s : State) : Prop where
  unique : s.ledger.buyers.Pairwise fun a b => a.number ≠ b.number
  counts : ∀ b ∈ s.ledger.buyers, b.boundDesks = desksBoundTo s b.number
  named : ∀ d, ∀ n ∈ (s.desk d).binding, (s.buyer n).isSome
  fresh : ∀ tag a line, s.ledger.arbiter.inProgress = some (.host tag (.buyerEnter a) line .go) →
    s.buyer a.number = none

/-- A collection holds at most 16 presses, of 16 desks (R108). -/
abbrev CollectionsKept (s : State) : Prop :=
  ∀ c, (s.clock c).collection.length ≤ 16 ∧ (s.clock c).collection.Pairwise fun p q => p.desk ≠ q.desk

/-- What holds of a clock whose commit waits or is in progress: DECIDING with its reservation, on the lot it offers
(R114, R147). -/
abbrev Offering (s : State) (c : ClockId) (r : CommitRequest) : Prop :=
  (s.clock c).state = .deciding ∧ (s.clock c).reservation = true ∧ (s.clock c).lot = some r.lot

/-- Unreleased lines and reservations together never exceed the 8,192 places (R147), with what keeps it so: a clock that
runs its lot holds its reservation (R64), and each commit is its clock's one offer (R114). -/
structure JournalKept (s : State) : Prop where
  order : s.ledger.journal.lastReleased ≤ s.ledger.journal.lastWritten
  room : s.ledger.journal.lastWritten - s.ledger.journal.lastReleased + reservationsHeld s ≤ 8192
  holders : s.hall.main = .present → ∀ c, ((s.clock c).state = .running ∨ (s.clock c).state = .stopping ∨
    (s.clock c).state = .deciding ∨ (s.clock c).state = .held) → (s.clock c).reservation = true
  served : ∀ c r a, s.ledger.arbiter.inProgress = some (.commit c r a) →
    Offering s c r ∧ s.ledger.arbiter.commits.get c = none
  waiting : ∀ c, ∀ r ∈ s.ledger.arbiter.commits.get c, Offering s c r

/-! ## What the statements speak of -/

/-- The part takes a request and carries it out at once: main supply PRESENT, link LINKED, no request held, no reset
under way, a free reply place (R190, R196, R197, R202). -/
abbrev Ready (s : State) : Prop :=
  s.hall.main = .present ∧ s.hlp.link = .linked ∧ s.hlp.held = none ∧ s.hlp.resetting = none ∧
    placesUsed s < Config.replyPlaces

/-- What the arrival of a valid frame alone changes on a LINKED link (R195, R197). -/
def framed (s : State) : State :=
  { s with hlp := { s.hlp with
      framesGood := countUp top16 s.hlp.framesGood, receiver := .hunting,
      supervisionEnds := (supervisionTime s.hlp.supervision).map (s.timebase + ·) } }

/-- A reply with nothing but itself to bring (R196). -/
def plainReply (tag : Byte) (kind : Nat) (status : Status) (body : ReplyBody) : Reply :=
  { tag := tag, kind := kind, status := status, body := body, after := .nothing }

/-- `s` with one more completed reply (R196). -/
def replied (tag : Byte) (kind : Nat) (status : Status) (body : ReplyBody) (s : State) : State :=
  { s with hlp := { s.hlp with replies := s.hlp.replies ++ [plainReply tag kind status body] } }

/-- No operation waits at the ledger arbiter. -/
abbrev NothingWaits (s : State) : Prop :=
  s.ledger.arbiter.requests = [] ∧ ∀ c, s.ledger.arbiter.commits.get c = none

/-- The arbiter with nothing in progress. -/
def free (s : State) : State :=
  s.setArbiter { s.ledger.arbiter with inProgress := none }

/-- The command of an operation's completion. -/
def completionOf : Operation → Instr
  | .commit _ _ _ => .saleCommitComplete
  | .host _ (.saleVoid _) _ _ => .saleVoidComplete
  | .host _ _ _ _ => .ledgerOperationComplete

/-- The command that sends a host ledger request. -/
def ledgerCommand (tag : Byte) : LedgerRequest → Instr
  | .buyerEnter a => .buyerEnter tag a
  | .buyerFlags a => .buyerFlags tag a
  | .buyerLimit number limit => .buyerLimit tag number limit
  | .buyerRemove number => .buyerRemove tag number
  | .tariffSet feeClass rate => .tariffSet tag feeClass rate
  | .saleVoid sequence => .saleVoid tag sequence
  | .paymentPost invoice => .paymentPost tag invoice
  | .invoiceClose which => .invoiceClose tag which
  | .dayClose => .dayClose tag

/-- The SALE line an accepted commit writes on an invoice (R148, R150): `c`'s sale of `r` with the figures `f`. -/
def saleLineOf (s : State) (c : ClockId) (r : CommitRequest) (f : SaleFigures) (invoice : Nat) : JournalLine :=
  { sequence := s.ledger.journal.lastWritten + 1, kind := .sale, stamp := s.hall.calendar,
    stampValid := s.hall.timeSet, clock := c, lot := r.lot, run := (s.clock c).run, buyer := some f.buyer,
    desk := some r.desk, invoice := some invoice, voidedSequence := none, voided := false, cause := none,
    packs := f.packs, unitsPerPack := f.units, price := f.price, amount := f.amount, levy := f.levy,
    debit := f.debit }

/-- The `k`-th number after an invoice number, counting upward and from 999,999 round to 1 (R160). -/
def invoiceAfter : Nat → Nat → Nat
  | 0, n => n
  | k + 1, n => invoiceAfter k (if n < 999999 then n + 1 else 1)

/-- The invoice `n` that a sale to `b` is written on, as it stands before the sale's own line: the buyer's open one, or a
new one with the first number that no invoice holds and its first line to be written (R139, R160). -/
def SaleInvoice (s : State) (b : Buyer) (n : Nat) (i : Invoice) : Prop :=
  (b.openInvoice = some n ∧ s.invoice n = some i) ∨
  (b.openInvoice = none ∧ s.invoice n = none ∧
    (∃ j, j ≤ s.ledger.invoices.length ∧ n = invoiceAfter j s.ledger.nextInvoice ∧
      ∀ k, k < j → (s.invoice (invoiceAfter k s.ledger.nextInvoice)).isSome) ∧
    i = { number := n, buyer := b.number, state := .opened, lineCount := 0,
          firstLine := s.ledger.journal.lastWritten + 1, lastLine := s.ledger.journal.lastWritten + 1, goods := 0,
          levies := 0, debits := 0, residue := none, total := none })

/-- The command that sends a request. -/
def requestCommand (tag : Byte) : Request → Instr
  | .identify => .identify tag
  | .lotEnter a => .lotEnter tag a
  | .lotAmend a => .lotAmend tag a
  | .lotRemove n => .lotRemove tag n
  | .lotQuery q => .lotQuery tag q
  | .trainAnnounce a => .trainAnnounce tag a
  | .trainCancel lane train => .trainCancel tag lane train
  | .laneQuery q => .laneQuery tag q
  | .laneSet a => .laneSet tag a
  | .clockSet a => .clockSet tag a
  | .clockQuery n => .clockQuery tag n
  | .clockHold n => .clockHold tag n
  | .clockResume n => .clockResume tag n
  | .clockWithdraw n => .clockWithdraw tag n
  | .clockOpen n => .clockOpen tag n
  | .deskQuery q => .deskQuery tag q
  | .deskRelease n => .deskRelease tag n
  | .ledger r => ledgerCommand tag r
  | .buyerQuery q => .buyerQuery tag q
  | .invoiceQuery q => .invoiceQuery tag q
  | .journalRead start count => .journalRead tag start count
  | .journalRelease n => .journalRelease tag n
  | .boardSet board period => .boardSet tag board period
  | .boardQuery n => .boardQuery tag n
  | .hallTimeSet t => .hallTimeSet tag t
  | .hallTimeRead => .hallTimeRead tag
  | .closeAlarmSet a => .closeAlarmSet tag a
  | .reportTake n => .reportTake tag n
  | .reportEnable e => .reportEnable tag e
  | .statsRead => .statsRead tag
  | .statsClear => .statsClear tag
  | .linkSet rate x => .linkSet tag rate x
  | .controllerReset => .controllerReset tag
  | .unknown => .unknownRequest tag

/-- A lot in an end state or MISSING, whose place the lane walk passes over (R30). -/
abbrev Ended (l : Lot) : Prop :=
  l.state = .soldOut ∨ l.state = .done ∨ l.state = .unsold ∨ l.state = .missing

/-- The head trains `gone` that have left a lane, as R32 chooses them: each had no lot that is not ended, and the train
now at the head has one. -/
def LeftBy (t : State) (gone kept : List Train) : Prop :=
  (∀ y ∈ gone, ∀ n l, some n ∈ placesOf y → t.lot n = some l → Ended l) ∧
  (∀ y, kept.head? = some y → ∃ n l, some n ∈ placesOf y ∧ t.lot n = some l ∧ ¬ Ended l)

/-- The Desk Bus Controller as every start leaves it (R105, R106). -/
def BusStarted (t : State) : Prop :=
  (∀ r, t.row r =
    { online := false, misses := 8, lastBatch := 0, framesGood := 0, framesBad := 0, pressesLate := 0,
      pressesRefused := 0, missCount := 0
      desks := Vector.replicate 16
        { binding := none, win := { phase := .idle, visits := 0, queued := 0 },
          refused := { phase := .idle, visits := 0, queued := 0 }, lastRefusal := none } }) ∧
  t.bus.ticks = [] ∧ t.bus.ticksSent = 0 ∧ t.bus.ticksDropped = 0 ∧ t.bus.nextArrival = 0 ∧
  t.bus.activity = .idle ∧ t.bus.nextRow = 0

/-- The four Board Drivers as every start leaves them: the values of R180, and the probe of the start's own refresh
window on the link (R176, R180). -/
def BoardsStarted (t : State) : Prop :=
  ∀ c, t.board c =
    { online := false, activity := .sending (.probe 1), period := 40, windowAt := t.timebase + 40000,
      updatePending := false, snapshotChanged := true, builtAt := t.timebase, frameNumber := 1, misses := 3,
      framesSent := 0, missCount := 0, badAnswers := 0 }

/-- A press of desk `d` on clock `c` has been refused: its last refusal and its row's counter say so, no lamp is pulsed
(R96, R111). -/
def PressRefused (s t : State) (d : DeskId) (c : ClockId) (reason : DeskRefusal) : Prop :=
  t.desk d = { s.desk d with
    lastRefusal := some { reason := reason, clock := some c, lot := (s.clock c).lot } } ∧
  (∀ d', d' ≠ d → t.desk d' = s.desk d') ∧
  (t.row (rowOfDesk d)).pressesLate =
    (if reason = .late then countUp 65535 (s.row (rowOfDesk d)).pressesLate
      else (s.row (rowOfDesk d)).pressesLate) ∧
  (t.row (rowOfDesk d)).pressesRefused =
    (if reason = .late then (s.row (rowOfDesk d)).pressesRefused
      else countUp 65535 (s.row (rowOfDesk d)).pressesRefused)

/-- The minute of a time of day is one the close alarm names: of its two fields the enabled ones match, with minute 0
where the hour alone is enabled (R187). -/
def AlarmMeets (a : Alarm) (x : Stamp) : Prop :=
  (a.hourOn = true ∧ x.hour = a.hour ∧ x.minute = (if a.minuteOn then a.minute else 0)) ∨
  (a.hourOn = false ∧ a.minuteOn = true ∧ x.minute = a.minute)

/-- `x` is the first hundredth of the minute after `t`, carried through hour, day, month and year (R183); the end of 2099
apart. -/
def CarriesTo (t x : Stamp) : Prop :=
  t.second = 59 ∧ t.hundredth = 99 ∧
  ((t.minute < 59 ∧ x = { t with hundredth := 0, second := 0, minute := t.minute + 1 }) ∨
    (t.minute = 59 ∧ t.hour < 23 ∧ x = { t with hundredth := 0, second := 0, minute := 0, hour := t.hour + 1 }) ∨
    ∃ last, last = (if t.month = 2 then (if t.year % 4 = 0 then 29 else 28)
        else if t.month = 4 ∨ t.month = 6 ∨ t.month = 9 ∨ t.month = 11 then 30 else 31) ∧
      t.minute = 59 ∧ t.hour = 23 ∧
      ((t.day < last ∧ x = { t with hundredth := 0, second := 0, minute := 0, hour := 0, day := t.day + 1 }) ∨
        (t.day = last ∧ t.month < 12 ∧
          x = { t with hundredth := 0, second := 0, minute := 0, hour := 0, day := 1, month := t.month + 1 }) ∨
        (t.day = last ∧ t.month = 12 ∧ t.year < 2099 ∧
          x = { year := t.year + 1, month := 1, day := 1, hour := 0, minute := 0, second := 0, hundredth := 0 })))

/-- Bytes the line delivers without a stop-bit error. -/
def clean (l : List Byte) : List LineByte := l.map fun b => { value := b, stopError := false }

/-- What every warm start leaves of `s`: the hall's retained values, clocks at their start but for run number and
parameters, the journal's lines, the tables, each ON_CLOCK lot sorted by its packs, the train queues but for the trains
that leave, and every lane, desk, board and waiting operation at its start (R17, R39, R84, R106, R144, R166, R180, R193,
R203). -/
def WarmFrom (s t : State) : Prop :=
  BusStarted t ∧ BoardsStarted t ∧
  (∀ c, t.lane c =
      { trains := (t.lane c).trains, count := 5, gapTime := 20, blocked := false, counter := 0, passageOpen := false,
        gapEnds := if (s.lane c).trains.any (fun y => y.state = .arriving) then some (t.timebase + 20000000) else none,
        strays := 0 } ∧
    ∃ gone, (s.lane c).trains = gone ++ (t.lane c).trains ∧ LeftBy t gone (t.lane c).trains) ∧
  t.ledger.arbiter =
    { inProgress := none, commits := Vector.replicate 4 none, requests := [], lastServed := 3 } ∧
  t.ledger.journal.deferred = [] ∧ (∀ c, t.ledger.lastSale.get c = none) ∧
  t.ledger.counters =
    { accepted := 0, cut := 0, notSigned := 0, blocked := 0, notPermitted := 0, invoiceFull := 0, credit := 0,
      busy := 0 } ∧
  t.hall.main = .present ∧ t.hall.calendar = s.hall.calendar ∧ t.hall.timeSet = s.hall.timeSet ∧
  t.hall.alarm = s.hall.alarm ∧ t.hall.failStamp = s.hall.failStamp ∧ t.hall.key = .locked ∧
  (∀ c, t.clock c = { Clock.atStart with run := (s.clock c).run, params := (s.clock c).params }) ∧
  t.ledger.journal.lines = s.ledger.journal.lines ∧ t.ledger.journal.lastWritten = s.ledger.journal.lastWritten ∧
  t.ledger.journal.lastReleased = s.ledger.journal.lastReleased ∧ (∀ c, t.ledger.journal.lotMark.get c = none) ∧
  t.ledger.invoices = s.ledger.invoices ∧ t.ledger.nextInvoice = s.ledger.nextInvoice ∧
  t.ledger.tariff = s.ledger.tariff ∧ t.ledger.buyers = s.ledger.buyers.map (fun b => { b with boundDesks := 0 }) ∧
  (∀ n l, s.lot n = some l → ∃ l', t.lot n = some l' ∧ l'.packsSold = l.packsSold ∧
    l'.packsRemaining = l.packsRemaining ∧
    l'.state = (if l.state = .onClock then
      (if l.packsRemaining = 0 then .soldOut else if l.packsRemaining < l.minTake then .done else .ready)
      else l.state)) ∧
  t.hlp.linkRate = s.hlp.linkRate ∧ t.hlp.supervision = s.hlp.supervision ∧ t.hlp.link = .linked ∧ t.hlp.replies = []

/-- A journal line whose fields fit its record: each number its field's width, an optional field absent or not 0, a
cause exactly in a NO_SALE line (R148, 11.8.2). -/
def LineFits (l : JournalLine) : Prop :=
  l.sequence < 256 ^ 4 ∧ l.stamp.year < 256 ^ 2 ∧ l.stamp.month < 256 ∧ l.stamp.day < 256 ∧ l.stamp.hour < 256 ∧
    l.stamp.minute < 256 ∧ l.stamp.second < 256 ∧ l.stamp.hundredth < 256 ∧ l.run < 256 ∧ l.lot < 256 ^ 2 ∧
    (∀ n, l.buyer = some n → 0 < n ∧ n < 256 ^ 2) ∧ (∀ n, l.invoice = some n → 0 < n ∧ n < 256 ^ 4) ∧
    (∀ n, l.voidedSequence = some n → 0 < n ∧ n < 256 ^ 4) ∧ l.packs < 256 ^ 2 ∧ l.unitsPerPack < 256 ^ 2 ∧
    l.price < 256 ^ 4 ∧ l.amount < 256 ^ 6 ∧ l.levy < 256 ^ 6 ∧ l.debit < 256 ^ 6 ∧
    (l.cause.isSome ↔ l.kind = .noSale)

end Sys2Proof.Safety
end

