-- ==== Sys2Proof/Certificates/Slice0/Obligations.lean ====
section
/-! DEFINITION. The statements of this model, made from the numbered rules of the manual. Where a statement rests on a
convention the manual leaves open, its docstring names the entry of the assumption log. -/

open Sys2Proof Sys2Proof.Machine Sys2Proof.Safety

/-- A step takes the command at the front (the model's queue of waiting commands, log entry 2). -/
def Obligations.StepRunsFront : Prop :=
  ∀ (c : Instr) (rest : List Instr) (s : State),
    step { s with pending := c :: rest } = exec c { s with pending := rest }

/-- Whatever a command does, the commands behind it wait as they did (log entry 2). -/
def Obligations.ExecKeepsQueue : Prop :=
  ∀ (c : Instr) (s : State), ∃ t, exec c s = .next t ∧ t.pending = s.pending

/-- The invariants of the next statements hold at `State.reset`. The reading of the backup monitor at reset is the
model's (log entry 3); none of the invariants rests on it. -/
def Obligations.KeptAtReset : Prop :=
  ReportsKept State.reset ∧ RepliesKept State.reset ∧ TicksKept State.reset ∧ CalendarKept State.reset ∧
    CreditKept State.reset ∧ CollectionsKept State.reset ∧ LotsKept State.reset ∧ BindingsKept State.reset ∧
    JournalKept State.reset

/-- The report queue never holds more than 64 reports, and attention says whether one of an enabled class waits (R198). -/
def Obligations.ReportsKeptByStep : Prop :=
  ∀ s t : State, ReportsKept s → step s = .next t → ReportsKept t

/-- A dispatched request always has its place in the reply queue (R194, R196), and at most eight wait at the arbiter
(R134). -/
def Obligations.RepliesKeptByStep : Prop :=
  ∀ s t : State, RepliesKept s → step s = .next t → RepliesKept t

/-- The transmit queue holds at most four ticks of any one clock (R91); Advances carry through the fields as a whole, and
only a valid time is set (R182, R183, R185); a collection holds at most 16 presses and no desk twice (R108). -/
def Obligations.TicksAndCalendarKeptByStep : Prop :=
  (∀ s t : State, TicksKept s → step s = .next t → TicksKept t) ∧
  (∀ s t : State, CalendarKept s → step s = .next t → CalendarKept t) ∧
  (∀ s t : State, CollectionsKept s → step s = .next t → CollectionsKept t)

/-- For every buyer account committed never exceeds limit (R127), however the arbiter orders the operations (R123). -/
def Obligations.CreditKeptByStep : Prop :=
  ∀ s t : State, CreditKept s → step s = .next t → CreditKept t

/-- A lot is ON_CLOCK exactly while a clock holds it as its current lot (R3). -/
def Obligations.LotsKeptByStep : Prop :=
  ∀ s t : State, LotsKept s → step s = .next t → LotsKept t

/-- The count of each account always equals the number of desks whose binding names the buyer (R86). -/
def Obligations.BindingsKeptByStep : Prop :=
  ∀ s t : State, BindingsKept s → step s = .next t → BindingsKept t

/-- Unreleased lines and reservations together never exceed the journal's places (R147). That the lot of an offer exists
is the invariant of LotsKeptByStep. -/
def Obligations.JournalKeptByStep : Prop :=
  ∀ s t : State, LotsKept s → JournalKept s → step s = .next t → JournalKept t

/-- R38; R83, with the defaults of R58; R143 and R165; and of the desk bus what R105 gives (the boards: WarmStarts). -/
def Obligations.ColdStarts : Prop :=
  (∀ (backup : BackupSupply) (s : State), s.hall.retainedValid = false →
    ∃ t, exec (.powerOn backup) s = .next t ∧ t.lots = [] ∧ ∀ c : ClockId,
      (t.lane c).trains = [] ∧ (t.lane c).count = 5 ∧ (t.lane c).gapTime = 20 ∧ (t.lane c).blocked = false ∧
      (t.lane c).counter = 0 ∧ (t.lane c).passageOpen = false ∧ (t.lane c).gapEnds = none ∧
      (t.lane c).strays = 0 ∧ candidate t c = none) ∧
  (∀ (backup : BackupSupply) (s : State), s.hall.retainedValid = false →
    ∃ t, exec (.powerOn backup) s = .next t ∧ ∀ c : ClockId,
      (t.clock c).state = .idle ∧ (t.clock c).lot = none ∧ (t.clock c).run = 0 ∧ (t.clock c).k = 0 ∧
      (t.clock c).startPrice = none ∧ (t.clock c).lastSalePrice = none ∧ (t.clock c).stepTimer = .stopped ∧
      (t.clock c).previewEnds = none ∧ (t.clock c).pauseEnds = none ∧ (t.clock c).windowEnds = none ∧
      (t.clock c).collection = [] ∧ (t.clock c).holdPending = none ∧ (t.clock c).closing = false ∧
      (t.clock c).reservation = false ∧ (t.clock c).asked = false ∧
      (t.clock c).params =
        { period := 40000, trim := 0, defaultStep := 10, preview := 1500, window := 24, ageLimit := 2, lift := 0,
          pause := 800 } ∧
      candidate t c = none) ∧
  (∀ (backup : BackupSupply) (s : State), s.hall.retainedValid = false →
    ∃ t, exec (.powerOn backup) s = .next t ∧ t.ledger.buyers = [] ∧ (∀ i, t.ledger.tariff.get i = 0) ∧
      t.ledger.arbiter.inProgress = none ∧ (∀ c, t.ledger.arbiter.commits.get c = none) ∧
      t.ledger.arbiter.requests = [] ∧ t.ledger.arbiter.lastServed = 3 ∧
      (∀ a : Arbiter, a.lastServed = t.ledger.arbiter.lastServed → (a.commits.get 0).isSome → choose a = .commit 0) ∧
      (∀ c, t.ledger.lastSale.get c = none) ∧
      t.ledger.counters =
        { accepted := 0, cut := 0, notSigned := 0, blocked := 0, notPermitted := 0, invoiceFull := 0, credit := 0,
          busy := 0 } ∧
      t.ledger.journal.lines = [] ∧ t.ledger.journal.lastWritten = 0 ∧ t.ledger.journal.lastReleased = 0 ∧
      reservationsHeld t = 0 ∧ freeSpace t = 8192 ∧ (∀ c, t.ledger.journal.lotMark.get c = none) ∧
      t.ledger.journal.deferred = [] ∧
      (∀ l, (writeLine l t).ledger.journal.lines.map JournalLine.sequence = [1]) ∧
      t.ledger.invoices = [] ∧ t.ledger.nextInvoice = 1) ∧
  (∀ (backup : BackupSupply) (s : State), s.hall.retainedValid = false →
    ∃ t, exec (.powerOn backup) s = .next t ∧ BusStarted t ∧ ∀ x ∈ t.hlp.reports, x.body = .backupLow .low)

/-- R10 and R11; R10, its three stages in order. The counting of fields within a request is DEDUCED (log entry 7).
-/
def Obligations.LotEntered : Prop :=
  (∀ (tag : Byte) (a : LotFields) (q : QualityClass) (s : State), Ready s → lotFault a = none → a.quality = some q →
    s.lot a.number = none → s.lots.length < 1024 →
    exec (.lotEnter tag a) s = .next (replied tag 130 .ok (.occupied (s.lots.length + 1))
      { framed s with
        lots := insertKey Lot.number
          { number := a.number, grower := a.grower, product := a.product, quality := q, stemLength := a.stemLength,
            text := storedText a.text, unitsPerPack := a.unitsPerPack, packsOffered := a.packsOffered,
            packsSold := 0, packsRemaining := a.packsOffered, minTake := a.minTake, startPrice := a.startPrice,
            reservePrice := a.reservePrice, priceStep := a.priceStep, state := .entered, position := none } s.lots })) ∧
  (∀ (tag : Byte) (a : LotFields) (s : State), Ready s →
    (∀ pos, lotFault a = some pos →
      exec (.lotEnter tag a) s = .next (replied tag 130 .badField (.field pos) (framed s))) ∧
    (lotFault a = none → (s.lot a.number).isSome →
      exec (.lotEnter tag a) s = .next (replied tag 130 .exists_ .empty (framed s))) ∧
    (lotFault a = none → s.lot a.number = none → 1024 ≤ s.lots.length →
      exec (.lotEnter tag a) s = .next (replied tag 130 .full .empty (framed s))))

/-- R12 and R13; R14. The counting of fields is DEDUCED (log entry 7). -/
def Obligations.LotAmendedAndRemoved : Prop :=
  (∀ (tag : Byte) (a : LotAmendment) (l : Lot) (s : State), Ready s → s.lot a.number = some l →
    ((l.state = .entered ∨ l.state = .queued ∨ l.state = .ready) → l.packsSold = 0 → lotFault (assembled a l) = none →
      exec (.lotAmend tag a) s = .next (replied tag 131 .ok .empty
        ((framed s).modLot a.number (amendLot a (assembled a l)))) ∧
      (amendLot a (assembled a l) l).state = l.state ∧ (amendLot a (assembled a l) l).position = l.position ∧
      (amendLot a (assembled a l) l).packsSold = l.packsSold ∧
      (amendLot a (assembled a l) l).number = l.number ∧
      (amendLot a (assembled a l) l).packsRemaining = a.packsOffered.getD l.packsRemaining) ∧
    ((l.state ≠ .entered ∧ l.state ≠ .queued ∧ l.state ≠ .ready) ∨ l.packsSold ≠ 0 →
      exec (.lotAmend tag a) s = .next (replied tag 131 .state .empty (framed s))) ∧
    (∀ pos, (l.state = .entered ∨ l.state = .queued ∨ l.state = .ready) → l.packsSold = 0 →
      lotFault (assembled a l) = some pos →
      exec (.lotAmend tag a) s = .next (replied tag 131 .badField (.field pos) (framed s)))) ∧
  (∀ (tag : Byte) (a : LotAmendment) (s : State), Ready s → s.lot a.number = none →
    exec (.lotAmend tag a) s = .next (replied tag 131 .notFound .empty (framed s))) ∧
  (∀ (tag : Byte) (n : Nat) (s : State), Ready s →
    (∀ l, s.lot n = some l →
      (l.state = .entered ∨ l.state = .soldOut ∨ l.state = .done ∨ l.state = .unsold ∨ l.state = .missing) →
      exec (.lotRemove tag n) s = .next (replied tag 132 .ok (.occupied (dropKey Lot.number n s.lots).length)
        { framed s with lots := dropKey Lot.number n s.lots, lanes := mapCells (vacate n) s.lanes })) ∧
    (∀ l, s.lot n = some l → (l.state = .queued ∨ l.state = .ready ∨ l.state = .onClock) →
      exec (.lotRemove tag n) s = .next (replied tag 132 .state .empty (framed s))) ∧
    (s.lot n = none → exec (.lotRemove tag n) s = .next (replied tag 132 .notFound .empty (framed s))))

/-- The queries of R15, R34 with R19's gap timer, R35, R82, R103, R132, R164, R178 and R186. The counting of fields in a BAD_FIELD reply is
DEDUCED (log entry 7), as are a query after a number that no lot or buyer can have (log entry 20) and how a begun
millisecond is shown (log entry 21). What a picture shows of a reservation during a DAY-CLOSE (log entry 40) and the unit
of the answer wait's time (log entry 44) are the model's. -/
def Obligations.QueriesAnswered : Prop :=
  ∀ (tag : Byte) (f : InvoiceFigures) (s : State), Ready s →
    f = { openCount := (openInvoices s).length
          closedCount := (s.ledger.invoices.filter fun i => i.state = .closed).length
          nextNumber := s.ledger.nextInvoice } →
    (∀ n l, s.lot n = some l →
      exec (.lotQuery tag (.byNumber n)) s = .next (replied tag 133 .ok (.lot (some l) s.lots.length) (framed s))) ∧
    (∀ n l, nextKey Lot.number n s.lots = some l →
      exec (.lotQuery tag (.nextAfter n)) s = .next (replied tag 133 .ok (.lot (some l) s.lots.length) (framed s))) ∧
    (∀ n, s.lot n = none →
      exec (.lotQuery tag (.byNumber n)) s = .next (replied tag 133 .notFound (.lot none s.lots.length) (framed s))) ∧
    (∀ n, nextKey Lot.number n s.lots = none →
      exec (.lotQuery tag (.nextAfter n)) s = .next (replied tag 133 .notFound (.lot none s.lots.length) (framed s))) ∧
    (∀ n c, clockNumbered n = some c →
      exec (.laneQuery tag (.lane n)) s = .next (replied tag 136 .ok (.lane (lanePicture s c)) (framed s)) ∧
      ((s.lane c).gapEnds = none → (lanePicture s c).gapLeft = none) ∧
      ∀ ends, (s.lane c).gapEnds = some ends →
        (lanePicture s c).gapLeft = some (max 1 ((ends - s.timebase + 999) / 1000))) ∧
    (∀ n c train x, laneTrainFault n train = none → clockNumbered n = some c →
      ((s.lane c).trains.find? fun t => t.number = train) = some x →
      exec (.laneQuery tag (.train n train)) s = .next (replied tag 136 .ok (.train (trainPicture s x)) (framed s))) ∧
    (∀ n c train, laneTrainFault n train = none → clockNumbered n = some c →
      ((s.lane c).trains.find? fun t => t.number = train) = none →
      exec (.laneQuery tag (.train n train)) s = .next (replied tag 136 .notFound .empty (framed s))) ∧
    (∀ n c, clockNumbered n = some c →
      exec (.clockQuery tag n) s = .next (replied tag 139 .ok (.clocks [clockPicture s c]) (framed s))) ∧
    (∀ n d, deskNumbered n = some d →
      exec (.deskQuery tag (.desk n)) s = .next (replied tag 144 .ok (.desk (s.desk d)) (framed s))) ∧
    (∀ n r, rowNumbered n = some r →
      exec (.deskQuery tag (.row n)) s = .next (replied tag 144 .ok (.row (rowPicture s r)) (framed s))) ∧
    exec (.deskQuery tag (.row 0)) s = .next (replied tag 144 .ok (.bus (busPicture s)) (framed s)) ∧
    (∀ n b, s.buyer n = some b →
      exec (.buyerQuery tag (.byNumber n)) s = .next (replied tag 150 .ok
        (.buyer (some (b, b.limit - b.committed, closedInvoices s b.number)) s.ledger.buyers.length) (framed s))) ∧
    (∀ n b, nextKey Buyer.number n s.ledger.buyers = some b →
      exec (.buyerQuery tag (.nextAfter n)) s = .next (replied tag 150 .ok
        (.buyer (some (b, b.limit - b.committed, closedInvoices s b.number)) s.ledger.buyers.length) (framed s))) ∧
    (∀ n, s.buyer n = none →
      exec (.buyerQuery tag (.byNumber n)) s = .next (replied tag 150 .notFound
        (.buyer none s.ledger.buyers.length) (framed s))) ∧
    (∀ n, nextKey Buyer.number n s.ledger.buyers = none →
      exec (.buyerQuery tag (.nextAfter n)) s = .next (replied tag 150 .notFound
        (.buyer none s.ledger.buyers.length) (framed s))) ∧
    (∀ n i, 1 ≤ n → n ≤ 999999 → s.invoice n = some i →
      exec (.invoiceQuery tag (.byNumber n)) s = .next (replied tag 156 .ok
        (.invoice (some i) f) (framed s))) ∧
    (∀ n, 1 ≤ n → n ≤ 999999 → s.invoice n = none →
      exec (.invoiceQuery tag (.byNumber n)) s = .next (replied tag 156 .notFound
        (.invoice none f) (framed s))) ∧
    (∀ n buyer state, n ≤ 999999 → inRangeOpt 1 9999 buyer = true →
      exec (.invoiceQuery tag (.nextAfter n buyer state)) s = .next (replied tag 156
        (if (s.ledger.invoices.find? fun i => n < i.number && invoiceMatches buyer state i).isSome then .ok
          else .notFound)
        (.invoice (s.ledger.invoices.find? fun i => n < i.number && invoiceMatches buyer state i) f) (framed s))) ∧
    (∀ n, n = 0 ∨ 999999 < n →
      exec (.invoiceQuery tag (.byNumber n)) s = .next (replied tag 156 .badField (.invoiceField 1 f) (framed s))) ∧
    (∀ n buyer state, 999999 < n →
      exec (.invoiceQuery tag (.nextAfter n buyer state)) s =
        .next (replied tag 156 .badField (.invoiceField 1 f) (framed s))) ∧
    (∀ n b state, n ≤ 999999 → (b = 0 ∨ 9999 < b) →
      exec (.invoiceQuery tag (.nextAfter n (some b) state)) s =
        .next (replied tag 156 .badField (.invoiceField 2 f) (framed s))) ∧
    (∀ n train, n = 0 ∨ 4 < n →
      exec (.laneQuery tag (.lane n)) s = .next (replied tag 136 .badField (.field 1) (framed s)) ∧
      exec (.laneQuery tag (.train n train)) s = .next (replied tag 136 .badField (.field 1) (framed s))) ∧
    (∀ n train, 1 ≤ n → n ≤ 4 → (train = 0 ∨ 9999 < train) →
      exec (.laneQuery tag (.train n train)) s = .next (replied tag 136 .badField (.field 2) (framed s))) ∧
    (∀ n, 4 < n →
      exec (.clockQuery tag n) s = .next (replied tag 139 .badField (.field 1) (framed s)) ∧
      exec (.boardQuery tag n) s = .next (replied tag 160 .badField (.field 1) (framed s))) ∧
    (∀ n, n = 0 ∨ 480 < n →
      exec (.deskQuery tag (.desk n)) s = .next (replied tag 144 .badField (.field 1) (framed s))) ∧
    (∀ n, 30 < n → exec (.deskQuery tag (.row n)) s = .next (replied tag 144 .badField (.field 1) (framed s))) ∧
    (∀ n c, clockNumbered n = some c →
      exec (.boardQuery tag n) s = .next (replied tag 160 .ok (.boards [boardPicture s c]) (framed s))) ∧
    exec (.hallTimeRead tag) s = .next (replied tag 162 .ok
      (.hall { calendar := s.hall.calendar, timeSet := s.hall.timeSet, alarm := s.hall.alarm, key := s.hall.key,
               main := s.hall.main, backup := s.hall.backup, backupFlag := s.hall.backupFlag,
               retainedValid := s.hall.retainedValid, lastStart := s.hall.lastStart, failStamp := s.hall.failStamp })
      (framed s))

/-- R22 and R23, with R4 and R7 for the lots: place and position are made together; the positions are counted from 1. The
counting of fields within a request is DEDUCED (log entry 7). -/
def Obligations.TrainAnnounced : Prop :=
  (∀ (tag : Byte) (a : TrainAnnouncement) (c : ClockId) (s : State), Ready s → clockNumbered a.lane = some c →
      (∀ pos, announceFault a = some pos →
        exec (.trainAnnounce tag a) s = .next (replied tag 134 .badField (.field pos) (framed s))) ∧
      (announceFault a = none → ((s.lane c).trains.any fun t => t.number = a.train) = true →
        exec (.trainAnnounce tag a) s = .next (replied tag 134 .exists_ .empty (framed s))) ∧
      (announceFault a = none → ((s.lane c).trains.any fun t => t.number = a.train) = false →
        8 ≤ (s.lane c).trains.length →
        exec (.trainAnnounce tag a) s = .next (replied tag 134 .full .empty (framed s))) ∧
      (∀ status n, announceFault a = none → ((s.lane c).trains.any fun t => t.number = a.train) = false →
        (s.lane c).trains.length < 8 →
        announceLotFault s (a.trolleys.flatMap TrolleyEntry.lots) = some (status, n) →
        exec (.trainAnnounce tag a) s = .next (replied tag 134 status (.lotAtFault n) (framed s))) ∧
      (announceFault a = none → ((s.lane c).trains.any fun t => t.number = a.train) = false →
        (s.lane c).trains.length < 8 → announceLotFault s (a.trolleys.flatMap TrolleyEntry.lots) = none →
        exec (.trainAnnounce tag a) s = .next (replied tag 134 .ok (.trains ((s.lane c).trains.length + 1))
          (queueTrolleys c a.train 1 a.trolleys ((framed s).setLane c { s.lane c with
            trains := (s.lane c).trains ++
              [{ number := a.train, state := .announced,
                 trolleys := a.trolleys.map fun t => { tag := t.tag, counted := false, places := t.lots.map some } }] }))))) ∧
  (∀ (a : TrainAnnouncement) (c : ClockId) (s : State), announceFault a = none →
      (∀ i x j n l, a.trolleys[i]? = some x → x.lots[j]? = some n → s.lot n = some l →
        (queueTrolleys c a.train 1 a.trolleys s).lot n = some
          { l with state := .queued
                   position := some { lane := c, train := a.train, trolley := i + 1, place := j + 1 } }) ∧
      (∀ n, n ∉ a.trolleys.flatMap TrolleyEntry.lots → (queueTrolleys c a.train 1 a.trolleys s).lot n = s.lot n))

/-- R24 and R33. The counting of fields in a BAD_FIELD reply is DEDUCED (log entry 7), and that a count given sets the
counter to 0 also where it is the old count (log entry 19). -/
def Obligations.TrainCancelledAndLaneSet : Prop :=
  ∀ (tag : Byte) (n : Nat) (c : ClockId) (s : State), Ready s → clockNumbered n = some c →
    (∀ train x, laneTrainFault n train = none → ((s.lane c).trains.find? fun t => t.number = train) = some x →
      x.state = .announced →
      exec (.trainCancel tag n train) s = .next (replied tag 135 .ok
        (.trains ((s.lane c).trains.filter fun y => y.number ≠ train).length)
        (modLots (fun l => { l with state := .entered, position := none }) (placesOf x)
          ((framed s).setLane c { s.lane c with
            trains := (s.lane c).trains.filter fun y => y.number ≠ train })))) ∧
    (∀ train x, laneTrainFault n train = none → ((s.lane c).trains.find? fun t => t.number = train) = some x →
      x.state ≠ .announced →
      exec (.trainCancel tag n train) s = .next (replied tag 135 .state .empty (framed s))) ∧
    (∀ train, laneTrainFault n train = none → ((s.lane c).trains.find? fun t => t.number = train) = none →
      exec (.trainCancel tag n train) s = .next (replied tag 135 .notFound .empty (framed s))) ∧
    (∀ train, train = 0 ∨ 9999 < train →
      exec (.trainCancel tag n train) s = .next (replied tag 135 .badField (.field 2) (framed s))) ∧
    (∀ count, 1 ≤ count → count ≤ 15 →
      exec (.laneSet tag { lane := n, count := some count, gapTime := none }) s =
        .next (replied tag 137 .ok .empty ((framed s).setLane c { s.lane c with count := count, counter := 0 }))) ∧
    (∀ count gap, 1 ≤ count → count ≤ 15 → 1 ≤ gap → gap ≤ 60 →
      exec (.laneSet tag { lane := n, count := some count, gapTime := some gap }) s =
        .next (replied tag 137 .ok .empty
          ((framed s).setLane c { s.lane c with count := count, counter := 0, gapTime := gap }))) ∧
    (∀ gap, 1 ≤ gap → gap ≤ 60 →
      exec (.laneSet tag { lane := n, count := none, gapTime := some gap }) s =
        .next (replied tag 137 .ok .empty ((framed s).setLane c { s.lane c with gapTime := gap })))

/-- R25 to R28. The time an expiry falls at, and timers kept as end times, are the model's own (log entry 2). A qualified
change as a command of its own is the model's (log entry 10). -/
def Obligations.GateAndPassages : Prop :=
  (∀ (c : ClockId) (s : State), s.hall.main = .present →
      (∀ b, b = (s.lane c).blocked → exec (.gateSample c b) s = .next (s.setLane c { s.lane c with counter := 0 })) ∧
      (∀ b, b ≠ (s.lane c).blocked → (s.lane c).counter + 1 < (s.lane c).count →
        exec (.gateSample c b) s = .next (s.setLane c { s.lane c with counter := (s.lane c).counter + 1 })) ∧
      ((s.lane c).blocked = false → (s.lane c).count ≤ (s.lane c).counter + 1 →
        exec (.gateSample c true) s =
          .next (s.setLane c { s.lane c with blocked := true, counter := 0, passageOpen := true })) ∧
      ((s.lane c).blocked = false →
        exec (.gateQualifiedChange c) s =
          .next (s.setLane c { s.lane c with blocked := true, counter := 0, passageOpen := true })) ∧
      ((s.lane c).blocked = true → (s.lane c).passageOpen = true → countingTrain (s.lane c).trains = none →
        exec (.gateQualifiedChange c) s = .next (raise (.stray c (countUp 65535 (s.lane c).strays))
          (s.setLane c { s.lane c with
            blocked := false, counter := 0, passageOpen := false, strays := countUp 65535 (s.lane c).strays })))) ∧
  (∀ (c : ClockId) (x : Train) (s : State), s.hall.main = .present → (s.lane c).blocked = true →
      (s.lane c).passageOpen = true → countingTrain (s.lane c).trains = some x →
      ∃ t, exec (.gateQualifiedChange c) s = .next t ∧
        (t.lane c).trains = replaceTrain { x with
          trolleys := countFirst x.trolleys
          state := if (countFirst x.trolleys).all Trolley.counted then .arrived else .arriving } (s.lane c).trains ∧
        (t.lane c).gapEnds = (if (countFirst x.trolleys).all Trolley.counted then none
          else some (s.timebase + (s.lane c).gapTime * 1000000)) ∧
        (t.lane c).blocked = false ∧ (t.lane c).passageOpen = false ∧ (t.lane c).counter = 0 ∧
        (t.lane c).strays = (s.lane c).strays ∧ (∀ d, d ≠ c → t.lane d = s.lane d) ∧
        (∀ n, some n ∈ firstUncounted x.trolleys → t.lot n = (s.lot n).map makeReady) ∧
        (∀ n, some n ∉ firstUncounted x.trolleys → t.lot n = s.lot n) ∧
        t.clocks = s.clocks ∧ t.ledger = s.ledger ∧ t.bus = s.bus ∧ t.boards = s.boards ∧ t.hall = s.hall)

/-- R29 and R32: the ARRIVING train turns SHORT, and the head trains none of whose lots is still to be sold leave with
their lots' lane positions and a TRAIN_DONE report each. The time an expiry falls at, and timers kept as end times, are
the model's own (log entry 2), as is the order of the reports of one event (log entry 49). -/
def Obligations.GapExpires : Prop :=
  ∀ (c : ClockId) (ends : Nat) (x : Train) (missed : List Trolley) (s : State), s.hall.main = .present →
    (s.lane c).gapEnds = some ends → ((s.lane c).trains.find? fun t => t.state = .arriving) = some x →
    missed = x.trolleys.filter (fun y => !y.counted) →
    ∃ t gone, exec (.gapExpiry c) s = .next t ∧ t.timebase = max s.timebase ends ∧
      t.lane c = { s.lane c with gapEnds := none, trains := (t.lane c).trains } ∧
      replaceTrain { x with state := .short } (s.lane c).trains = gone ++ (t.lane c).trains ∧
      LeftBy t gone (t.lane c).trains ∧
      (s.hlp.enables.supply = true → s.hlp.reports.length < 64 →
        t.hlp.reports[s.hlp.reports.length]?.map Report.body = some (.short c x.number
          (x.trolleys.filter fun y => y.counted).length missed.length
          ((missed.flatMap Trolley.places).filter Option.isSome).length (missed.head?.map Trolley.tag))) ∧
      (s.hlp.enables.supply = true → s.hlp.reports.length + gone.length < 64 →
        (t.hlp.reports.drop (s.hlp.reports.length + 1)).map Report.body = gone.map fun y =>
          .trainDone c y.number (placesIn t y .soldOut) (placesIn t y .done) (placesIn t y .unsold)
            (placesIn t y .missing) (vacantPlaces y)) ∧
      (∀ n l, s.lot n = some l → l.state = .queued → some n ∈ missed.flatMap Trolley.places →
        (t.lot n).map Lot.state = some .missing) ∧
      (∀ n, some n ∉ missed.flatMap Trolley.places → (t.lot n).map Lot.state = (s.lot n).map Lot.state) ∧
      (∀ n l, s.lot n = some l → (∃ y ∈ gone, some n ∈ placesOf y) → (t.lot n).map Lot.position = some none) ∧
      (∀ n l, s.lot n = some l → (∀ y ∈ gone, some n ∉ placesOf y) →
        (t.lot n).map Lot.position = some l.position) ∧
      (∀ d, d ≠ c → t.lane d = s.lane d) ∧ t.clocks = s.clocks ∧ t.ledger = s.ledger ∧ t.bus = s.bus ∧
      t.boards = s.boards ∧ t.hall = s.hall

/-- R59, with the outcome form of R60. The counting of fields in a BAD_FIELD reply is DEDUCED (log entry 7), and that a
CLOCK-SET which gives no value is accepted (log entry 19). -/
def Obligations.ClockSetStored : Prop :=
  ∀ (tag : Byte) (a : ClockSettings) (s : State), Ready s →
    (s.hall.key ≠ .setup → exec (.clockSet tag a) s = .next (replied tag 138 .key .empty (framed s))) ∧
    (s.hall.key = .setup → 4 < a.clock →
      exec (.clockSet tag a) s = .next (replied tag 138 .badField (.field 1) (framed s))) ∧
    (∀ pos, s.hall.key = .setup → clockSetFault a = some pos →
      exec (.clockSet tag a) s = .next (replied tag 138 .badField (.field pos) (framed s))) ∧
    (∀ c, clockNumbered a.clock = some c → s.hall.key = .setup → clockSetFault a = none →
      ((s.clock c).state = .idle ∨ (s.clock c).state = .closed →
        exec (.clockSet tag a) s = .next (replied tag 138 .ok (.clockOutcomes [{ status := .ok, ended := none }])
          ((framed s).setClock c { s.clock c with params := setParams a (s.clock c).params }))) ∧
      ((s.clock c).state ≠ .idle → (s.clock c).state ≠ .closed →
        exec (.clockSet tag a) s =
          .next (replied tag 138 .state (.clockOutcomes [{ status := .state, ended := none }]) (framed s))))

/-- R74 with R72 and R73. The halted time is DEDUCED (log entry 23). -/
def Obligations.ClockHoldHolds : Prop :=
  ∀ (tag : Byte) (n : Nat) (c : ClockId) (s : State), Ready s → clockNumbered n = some c →
    ((s.clock c).state = .running → ∃ t, exec (.clockHold tag n) s = .next t ∧
      t.clocks = (s.setClock c { s.clock c with
        state := .held, stepTimer := .halted (periodOf (s.clock c).params (s.clock c).k), holdPending := none }).clocks ∧
      t.hlp.replies = s.hlp.replies ++ [plainReply tag 140 .ok (.clockOutcomes [{ status := .ok, ended := none }])] ∧
      t.lots = s.lots ∧ t.lanes = s.lanes ∧ t.ledger = s.ledger ∧ t.bus = s.bus ∧ t.hall = s.hall ∧
      ∀ d, d ≠ c → t.board d = s.board d) ∧
    ((s.clock c).state = .stopping ∨ (s.clock c).state = .deciding ∨ (s.clock c).state = .sold →
      exec (.clockHold tag n) s = .next (replied tag 140 .ok (.clockOutcomes [{ status := .ok, ended := none }])
        ((framed s).setClock c { s.clock c with
          holdPending := some ((s.clock c).holdPending.getD .holdRequest) }))) ∧
    ((s.clock c).state = .loaded .new ∨ (s.clock c).state = .loaded .restart ∨ (s.clock c).state = .held →
      exec (.clockHold tag n) s =
        .next (replied tag 140 .ok (.clockOutcomes [{ status := .ok, ended := none }]) (framed s))) ∧
    ((s.clock c).state = .idle ∨ (s.clock c).state = .closed →
      exec (.clockHold tag n) s =
        .next (replied tag 140 .state (.clockOutcomes [{ status := .state, ended := none }]) (framed s)))

/-- R75. The time an expiry falls at, and timers kept as end times, are the model's own (log entry 2). BUSY is by
the checks of R75 (log entry 15). -/
def Obligations.ClockResumeRuns : Prop :=
  ∀ (tag : Byte) (n : Nat) (c : ClockId) (s : State), Ready s → clockNumbered n = some c →
    ((s.clock c).state = .held → voidRuns s c = false → s.hall.key = .sale → (s.board c).online = true →
      s.hall.timeSet = true → ∃ t, exec (.clockResume tag n) s = .next t ∧
        t.clocks = (s.setClock c { s.clock c with
          state := .running, run := ((s.clock c).run + 1) % 16,
          stepTimer := .running (s.timebase + periodOf (s.clock c).params (s.clock c).k) }).clocks ∧
        (pendingOf c s.bus.ticks < 4 → t.bus.ticks = s.bus.ticks ++
          [{ clock := c, run := ((s.clock c).run + 1) % 16, tag := (s.clock c).k % 256 }]) ∧
        t.hlp.replies = s.hlp.replies ++ [plainReply tag 141 .ok (.clockOutcomes [{ status := .ok, ended := none }])] ∧
        t.lots = s.lots ∧ t.lanes = s.lanes ∧ t.ledger = s.ledger ∧ t.hall = s.hall ∧
        ∀ d, d ≠ c → t.board d = s.board d) ∧
    ((s.clock c).state = .held → voidRuns s c = false → s.hall.key = .sale → (s.board c).online = true →
      s.hall.timeSet = false → exec (.clockResume tag n) s =
        .next (replied tag 141 .timeNotSet (.clockOutcomes [{ status := .timeNotSet, ended := none }]) (framed s))) ∧
    ((s.clock c).state = .held → voidRuns s c = false → (s.hall.key ≠ .sale ∨ (s.board c).online = false) →
      exec (.clockResume tag n) s =
        .next (replied tag 141 .state (.clockOutcomes [{ status := .state, ended := none }]) (framed s))) ∧
    ((s.clock c).state = .held → voidRuns s c = true → exec (.clockResume tag n) s =
      .next (replied tag 141 .busy (.clockOutcomes [{ status := .busy, ended := none }]) (framed s))) ∧
    ((s.clock c).state ≠ .held → exec (.clockResume tag n) s =
      .next (replied tag 141 .state (.clockOutcomes [{ status := .state, ended := none }]) (framed s)))

/-- R76, R71 and R151. BUSY is by the checks of R76 (log entry 15). -/
def Obligations.ClockWithdrawEnds : Prop :=
  ∀ (tag : Byte) (n : Nat) (c : ClockId) (l : Lot) (p : Nat) (s : State), Ready s → clockNumbered n = some c →
    ((s.clock c).state ≠ .idle → (s.clock c).state ≠ .closed → (s.clock c).state ≠ .stopping →
      (s.clock c).state ≠ .deciding → ((s.clock c).state = .held → voidRuns s c = false) →
      (s.clock c).lot = some l.number → s.lot l.number = some l → (s.clock c).startPrice = some p →
      ∃ t, exec (.clockWithdraw tag n) s = .next t ∧
        t.ledger.journal.lines = s.ledger.journal.lines ++ (if (s.clock c).reservation then
          [{ sequence := s.ledger.journal.lastWritten + 1, kind := .noSale, stamp := s.hall.calendar,
             stampValid := s.hall.timeSet, clock := c, lot := l.number, run := (s.clock c).run, buyer := none,
             desk := none, invoice := none, voidedSequence := none, voided := false, cause := some .withdrawn,
             packs := l.packsRemaining, unitsPerPack := l.unitsPerPack,
             price := p - (s.clock c).k * stepSizeOf l (s.clock c).params, amount := 0, levy := 0, debit := 0 }]
          else []) ∧
        t.ledger.journal.lastWritten =
          s.ledger.journal.lastWritten + (if (s.clock c).reservation then 1 else 0) ∧
        t.ledger.journal.lotMark.get c = none ∧
        (t.lot l.number).map Lot.state = some (endStateOf l) ∧
        (t.clock c).state = (if (s.clock c).closing then .closed else .idle) ∧ (t.clock c).lot = none ∧
        (t.clock c).reservation = false ∧ (t.clock c).run = (s.clock c).run ∧
        (∀ d, d ≠ c → t.clock d = s.clock d) ∧ t.ledger.buyers = s.ledger.buyers ∧
        t.ledger.invoices = s.ledger.invoices ∧ t.bus = s.bus ∧ t.hall = s.hall ∧
        t.hlp.replies = s.hlp.replies ++ [plainReply tag 142 .ok
          (.clockOutcomes [{ status := .ok, ended := some (l.number, endStateOf l) }])]) ∧
    ((s.clock c).state = .stopping ∨ (s.clock c).state = .deciding ∨
        ((s.clock c).state = .held ∧ voidRuns s c = true) →
      exec (.clockWithdraw tag n) s =
        .next (replied tag 142 .busy (.clockOutcomes [{ status := .busy, ended := none }]) (framed s))) ∧
    ((s.clock c).state = .idle ∨ (s.clock c).state = .closed →
      exec (.clockWithdraw tag n) s =
        .next (replied tag 142 .state (.clockOutcomes [{ status := .state, ended := none }]) (framed s)))

/-- R78; R77 and R187: the alarm at the carry into a minute it matches, a new day's first included. The time an expiry
falls at, and timers kept as end times, are the model's own (log entry 2), as are a CLOSED clock's k of 0 without prices
(log entry 6) and the order of the reports of one event (log entry 49). -/
def Obligations.TradingClosedAndReopened : Prop :=
  (∀ (tag : Byte) (n : Nat) (c : ClockId) (s : State), Ready s → clockNumbered n = some c →
      ((s.clock c).state = .closed → exec (.clockOpen tag n) s =
        .next (replied tag 143 .ok (.clockOutcomes [{ status := .ok, ended := none }])
          (raise (.clock c .idle .open_ none (s.clock c).run (s.clock c).k)
            ((framed s).setClock c { s.clock c with closing := false, state := .idle })))) ∧
      ((s.clock c).state ≠ .closed → exec (.clockOpen tag n) s =
        .next (replied tag 143 .ok (.clockOutcomes [{ status := .ok, ended := none }])
          ((framed s).setClock c { s.clock c with closing := false })))) ∧
  (∀ (x : Stamp) (s : State), s.hall.main = .present → s.hall.timeSet = true → CarriesTo s.hall.calendar x →
    AlarmMeets s.hall.alarm x →
    ∃ t, exec .calendarAdvance s = .next t ∧
      t.hall = { s.hall with calendar := x, nextAdvance := s.hall.nextAdvance + 10000 } ∧
      (s.hlp.enables.hall = true → s.hlp.reports.length < 64 →
        t.hlp.reports[s.hlp.reports.length]?.map Report.body = some (.tradingClose x s.hall.alarm)) ∧
      (∀ c, (s.clock c).state = .idle → t.clock c = { s.clock c with closing := true, state := .closed }) ∧
      (∀ c, (s.clock c).state = .loaded .new →
        t.clock c = { s.clock c with
          closing := true, state := .closed, lot := none, k := 0, startPrice := none, lastSalePrice := none,
          stepTimer := .stopped, previewEnds := none, pauseEnds := none, windowEnds := none, collection := [],
          holdPending := none, asked := false } ∧
        t.ledger.journal.lotMark.get c = none ∧
        ∀ n l, (s.clock c).lot = some n → s.lot n = some l → t.lot n = some { l with state := .ready }) ∧
      (∀ c, (s.clock c).state ≠ .idle → (s.clock c).state ≠ .loaded .new →
        t.clock c = { s.clock c with closing := true } ∧ t.board c = s.board c) ∧
      (∀ n, (∀ c, (s.clock c).state = .loaded .new → (s.clock c).lot ≠ some n) → t.lot n = s.lot n) ∧
      t.lanes = s.lanes ∧ t.bus = s.bus ∧ t.ledger.journal.lines = s.ledger.journal.lines ∧
      t.ledger.buyers = s.ledger.buyers ∧ t.ledger.invoices = s.ledger.invoices)

/-- R60: each clock's part is decided by its own state; R33, R82, R177 and R178 for the other requests that name all four.
That a request which gives no value, and a count given again, act as R33 and R59 give is DEDUCED (log entry 19), as is how
a begun millisecond is shown (log entry 21). The order in which the four act (log entry 4), what a picture shows of a
reservation during a DAY-CLOSE (log entry 40) and the unit of the answer wait's time (log entry 44) are the model's. -/
def Obligations.ClockZeroIsAllFour : Prop :=
  ∀ (tag : Byte) (s : State), Ready s →
    (∀ i kind f, (i, kind, f) ∈
        [(Instr.clockHold tag, 140, requestHold), (.clockResume tag, 141, requestResume),
         (.clockWithdraw tag, 142, requestWithdraw), (.clockOpen tag, 143, requestOpen)] →
      (∀ r0 r1 r2 r3, r0 = f 0 (framed s) → r1 = f 1 r0.1 → r2 = f 2 r1.1 → r3 = f 3 r2.1 →
        exec (i 0) s = .next (replied tag kind (overallStatus [r0.2, r1.2, r2.2, r3.2])
          (.clockOutcomes [r0.2, r1.2, r2.2, r3.2]) r3.1)) ∧
      (∀ n c, clockNumbered n = some c →
        exec (i n) s = .next (replied tag kind (f c (framed s)).2.status (.clockOutcomes [(f c (framed s)).2])
          (f c (framed s)).1)) ∧
      (∀ n, 4 < n → exec (i n) s = .next (replied tag kind .badField (.field 1) (framed s)))) ∧
    (∀ a r0 r1 r2 r3, a.clock = 0 → clockSetFault a = none → s.hall.key = .setup →
      r0 = setClockParams a 0 (framed s) → r1 = setClockParams a 1 r0.1 → r2 = setClockParams a 2 r1.1 →
      r3 = setClockParams a 3 r2.1 →
      exec (.clockSet tag a) s = .next (replied tag 138 (overallStatus [r0.2, r1.2, r2.2, r3.2])
        (.clockOutcomes [r0.2, r1.2, r2.2, r3.2]) r3.1)) ∧
    exec (.clockQuery tag 0) s = .next (replied tag 139 .ok
      (.clocks [clockPicture s 0, clockPicture s 1, clockPicture s 2, clockPicture s 3]) (framed s)) ∧
    exec (.boardQuery tag 0) s = .next (replied tag 160 .ok
      (.boards [boardPicture s 0, boardPicture s 1, boardPicture s 2, boardPicture s 3]) (framed s)) ∧
    (∀ a, a.lane = 0 → laneSetFault a = none →
      exec (.laneSet tag a) s = .next (replied tag 137 .ok .empty
        { framed s with lanes := mapCells (setLaneValues a) s.lanes })) ∧
    (∀ period, 20 ≤ period → period ≤ 200 →
      exec (.boardSet tag 0 period) s = .next (replied tag 159 .ok .empty
        { framed s with boards := mapCells (setPeriod s.timebase period) s.boards }))

/-- R62, R153 and R140. The time an expiry falls at, and timers kept as end times, are the model's own (log entry 2). The
lot mark above last written 4,294,967,295 is the model's (log entry 43). -/
def Obligations.LotTaken : Prop :=
  ∀ (c : ClockId) (l : Lot) (s : State), s.hall.main = .present → candidate s c = some l →
    (s.clock c).state = .idle → l.state = .ready → (s.clock c).closing = false → s.hlp.link = .linked →
    ∃ t, exec (.takeLot c) s = .next t ∧
      t.clocks = (s.setClock c { s.clock c with
        state := .loaded .new, lot := some l.number, run := ((s.clock c).run + 1) % 16, k := 0,
        startPrice := some l.startPrice,
        previewEnds := some (s.timebase + (s.clock c).params.preview * 1000) }).clocks ∧
      t.lots = (s.modLot l.number fun l => { l with state := .onClock }).lots ∧
      t.ledger.journal.lotMark.get c = some (s.ledger.journal.lastWritten + 1) ∧
      t.ledger.lastSale.get c = none ∧ t.ledger.journal.lines = s.ledger.journal.lines ∧
      t.ledger.buyers = s.ledger.buyers ∧ t.lanes = s.lanes ∧ t.bus = s.bus ∧ t.hall = s.hall ∧ t.hlp = s.hlp ∧
      ∀ d, d ≠ c → t.board d = s.board d

/-- R63 to R65. The time an expiry falls at, and timers kept as end times, are the model's own (log entry 2). -/
def Obligations.PreviewEnds : Prop :=
  ∀ (c : ClockId) (e : Nat) (s : State), s.hall.main = .present → (s.clock c).state = .loaded .new →
    (s.clock c).previewEnds = some e →
    ((s.hall.key ≠ .sale ∨ (s.board c).online = false ∨ s.hall.timeSet = false ∨ s.hlp.link ≠ .linked) →
      exec (.previewExpiry c) s = .next ((s.reach e).setClock c { s.clock c with previewEnds := none })) ∧
    (s.hall.key = .sale → (s.board c).online = true → s.hall.timeSet = true → s.hlp.link = .linked →
      dayCloseRuns s = false →
    (grantable s = true → ∃ t, exec (.previewExpiry c) s = .next t ∧ t.timebase = max s.timebase e ∧
      t.clocks = (s.setClock c { s.clock c with
        state := .running, previewEnds := none, reservation := true, asked := false, k := 0,
        stepTimer := .running (max s.timebase e + periodOf (s.clock c).params 0) }).clocks ∧
      (pendingOf c s.bus.ticks < 4 → t.bus.ticks = s.bus.ticks ++
        [{ clock := c, run := (s.clock c).run, tag := 0 }]) ∧
      (t.board c).snapshotChanged = true ∧ t.lots = s.lots ∧ t.lanes = s.lanes ∧ t.hall = s.hall ∧ t.hlp = s.hlp ∧
      t.ledger.journal.lines = s.ledger.journal.lines ∧ t.ledger.buyers = s.ledger.buyers) ∧
    (grantable s = false → exec (.previewExpiry c) s =
      .next ((s.reach e).setClock c { s.clock c with previewEnds := none, asked := true })))

/-- R67, its advance and its withdrawal at reserve, with R46, R91 and R92 for the tick handed over. The time an expiry falls
at, and timers kept as end times, are the model's own (log entry 2); that a poll already on its way goes first is DEDUCED
(log entry 5). -/
def Obligations.StepAdvancesOrWithdraws : Prop :=
  (∀ (c : ClockId) (e : Nat) (l : Lot) (p : Nat) (s : State), s.hall.main = .present →
      (s.clock c).state = .running → (s.clock c).stepTimer = .running e → s.currentLot c = some l →
      (s.clock c).startPrice = some p →
      l.reservePrice + ((s.clock c).k + 1) * stepSizeOf l (s.clock c).params ≤ p →
      ∃ t, exec (.stepTimerExpiry c) s = .next t ∧ t.timebase = max s.timebase e ∧
        t.clocks = (s.setClock c { s.clock c with
          k := (s.clock c).k + 1,
          stepTimer := .running (max s.timebase e + periodOf (s.clock c).params ((s.clock c).k + 1)) }).clocks ∧
        (pendingOf c s.bus.ticks < 4 → t.bus.ticks = s.bus.ticks ++
          [{ clock := c, run := (s.clock c).run, tag := ((s.clock c).k + 1) % 256 }]) ∧
        t.bus.activity = (if s.bus.activity = .idle ∧ s.bus.poll = none ∧ s.bus.lineHeld = false then .sending
          else s.bus.activity) ∧ t.bus.poll = s.bus.poll ∧ t.bus.rows = s.bus.rows ∧
        (t.board c).snapshotChanged = true ∧ t.lots = s.lots ∧ t.lanes = s.lanes ∧ t.ledger = s.ledger ∧
        t.hall = s.hall ∧ t.hlp = s.hlp) ∧
  (∀ (c : ClockId) (e : Nat) (l : Lot) (p : Nat) (s : State), s.hall.main = .present →
      (s.clock c).state = .running → (s.clock c).stepTimer = .running e → (s.clock c).reservation = true →
      (s.clock c).lot = some l.number → s.lot l.number = some l → (s.clock c).startPrice = some p →
      p < l.reservePrice + ((s.clock c).k + 1) * stepSizeOf l (s.clock c).params →
      ∃ t, exec (.stepTimerExpiry c) s = .next t ∧ t.timebase = max s.timebase e ∧
        t.ledger.journal.lines = s.ledger.journal.lines ++
          [{ sequence := s.ledger.journal.lastWritten + 1, kind := .noSale, stamp := s.hall.calendar,
               stampValid := s.hall.timeSet, clock := c, lot := l.number, run := (s.clock c).run, buyer := none,
               desk := none, invoice := none, voidedSequence := none, voided := false, cause := some .reserve,
               packs := l.packsRemaining, unitsPerPack := l.unitsPerPack,
               price := p - (s.clock c).k * stepSizeOf l (s.clock c).params, amount := 0, levy := 0, debit := 0 }] ∧
        (s.ledger.journal.lastReleased ≤ s.ledger.journal.lastWritten → freeSpace t = freeSpace s) ∧
        (t.lot l.number).map Lot.state = some (endStateOf l) ∧
        (t.clock c).state = (if (s.clock c).closing then .closed else .idle) ∧ (t.clock c).lot = none ∧
        (t.clock c).reservation = false ∧ (∀ d, d ≠ c → t.clock d = s.clock d) ∧
        t.ledger.buyers = s.ledger.buyers ∧ t.ledger.invoices = s.ledger.invoices ∧ t.bus = s.bus ∧ t.hall = s.hall)

/-- R112, R114 and R135. The time an expiry falls at, and timers kept as end times, are the model's own (log entry
2). -/
def Obligations.WindowEndsInDeciding : Prop :=
  ∀ (c : ClockId) (e n : Nat) (p : Press) (rest : List Press) (s : State), s.hall.main = .present →
    (s.clock c).state = .stopping → (s.clock c).windowEnds = some e → (s.clock c).collection = p :: rest →
    (s.clock c).lot = some n →
    (∀ op, s.ledger.arbiter.inProgress = some op →
      exec (.windowExpiry c) s =
        .next (((s.reach e).setClock c { s.clock c with state := .deciding, windowEnds := none }).setArbiter
          { s.ledger.arbiter with
            commits := s.ledger.arbiter.commits.set c
              (some { lot := n, desk := p.desk, packs := p.packs, step := p.step }) })) ∧
    (s.ledger.arbiter.inProgress = none → NothingWaits s → s.hlp.resetting = none →
      ∃ t, exec (.windowExpiry c) s = .next t ∧
        t.clocks = (s.setClock c { s.clock c with state := .deciding, windowEnds := none }).clocks ∧
        t.ledger.arbiter.inProgress = some (.commit c { lot := n, desk := p.desk, packs := p.packs, step := p.step }
          (judgeCommit s c { lot := n, desk := p.desk, packs := p.packs, step := p.step })) ∧
        t.ledger.arbiter.lastServed = c ∧ (∀ d, t.ledger.arbiter.commits.get d = none) ∧
        t.ledger.arbiter.requests = [] ∧ t.ledger.buyers = s.ledger.buyers ∧ t.ledger.journal = s.ledger.journal ∧
        t.lots = s.lots ∧ t.lanes = s.lanes ∧ t.bus = s.bus ∧ t.boards = s.boards ∧ t.hall = s.hall ∧ t.hlp = s.hlp)

/-- R70 and R66, with R72 for the restart that finds a hold pending; its halted time is DEDUCED (log entry 23). The time
an expiry falls at, and timers kept as end times, are the model's own (log entry 2). -/
def Obligations.PauseEndsInRestart : Prop :=
  ∀ (c : ClockId) (e : Nat) (l : Lot) (p : Nat) (s : State), s.hall.main = .present →
    (s.clock c).state = .sold → (s.clock c).pauseEnds = some e → s.currentLot c = some l →
    (s.clock c).lastSalePrice = some p → dayCloseRuns s = false →
    (grantable s = false → ∃ t, exec (.pauseExpiry c) s = .next t ∧ t.timebase = max s.timebase e ∧
      t.clocks = (s.setClock c { s.clock c with
        state := .loaded .restart, run := ((s.clock c).run + 1) % 16, k := 0, pauseEnds := none,
        startPrice := some (min l.startPrice (p + (s.clock c).params.lift)), asked := true }).clocks ∧
      t.lots = s.lots ∧ t.lanes = s.lanes ∧ t.ledger = s.ledger ∧ t.bus = s.bus ∧ t.hall = s.hall ∧ t.hlp = s.hlp) ∧
    (grantable s = true → (s.clock c).holdPending = none → s.hall.key = .sale → (s.board c).online = true →
      s.hall.timeSet = true → ∃ t, exec (.pauseExpiry c) s = .next t ∧ t.timebase = max s.timebase e ∧
      t.clocks = (s.setClock c { s.clock c with
        state := .running, run := ((s.clock c).run + 1) % 16, k := 0, pauseEnds := none,
        startPrice := some (min l.startPrice (p + (s.clock c).params.lift)), reservation := true, asked := false,
        stepTimer := .running (max s.timebase e + periodOf (s.clock c).params 0) }).clocks ∧
      (pendingOf c s.bus.ticks < 4 → t.bus.ticks = s.bus.ticks ++
        [{ clock := c, run := ((s.clock c).run + 1) % 16, tag := 0 }]) ∧
      t.lots = s.lots ∧ t.lanes = s.lanes ∧ t.hall = s.hall ∧ t.hlp = s.hlp ∧
      t.ledger.journal.lines = s.ledger.journal.lines ∧ t.ledger.buyers = s.ledger.buyers) ∧
    (∀ cause, grantable s = true → (s.clock c).holdPending = some cause →
      ∃ t, exec (.pauseExpiry c) s = .next t ∧ t.timebase = max s.timebase e ∧
      t.clocks = (s.setClock c { s.clock c with
        state := .held, run := ((s.clock c).run + 1) % 16, k := 0, pauseEnds := none,
        startPrice := some (min l.startPrice (p + (s.clock c).params.lift)), reservation := true, asked := false,
        stepTimer := .halted (periodOf (s.clock c).params 0), holdPending := none }).clocks ∧
      t.bus = s.bus ∧ t.lots = s.lots ∧ t.lanes = s.lanes ∧ t.hall = s.hall ∧
      t.ledger.journal.lines = s.ledger.journal.lines ∧ t.ledger.buyers = s.ledger.buyers)

/-- R47: the tag carries the step modulo 256, and the age limit makes the step unique. R110 with the key of R48. That a new
press stands behind every entry of its step and offset, its arrival being the latest, is DEDUCED (log entry 26). -/
def Obligations.PressAgeAndOrder : Prop :=
  (∀ k j limit : Nat, limit ≤ 3 → j ≤ k → k - j ≤ limit → pressStep k (j % 256) limit = some j) ∧
  (∀ (p : Press) (l : List Press),
      l.Pairwise (fun a b => a.step < b.step ∨ (a.step = b.step ∧ a.offset ≤ b.offset)) →
      (insertPress p l).Pairwise (fun a b => a.step < b.step ∨ (a.step = b.step ∧ a.offset ≤ b.offset)) ∧
      (insertPress p l).length = l.length + 1 ∧
      ∃ before after_, insertPress p l = before ++ p :: after_ ∧ l = before ++ after_ ∧
        ∀ q ∈ after_, p.step < q.step ∨ (p.step = q.step ∧ p.offset < q.offset))

/-- R53, as the counting down from q finds it, and R138: its checks 1 to 5, each refusal in their order, and what passes
them. That a desk bound to a number without an account is refused as an unbound one, in states that R137 excludes, is the
model's choice (log entry 24). -/
def Obligations.CommitFitsCredit : Prop :=
  (∀ (debit : Nat → Nat) (available m q : Nat),
      (∀ n, affordable debit available m q = some n →
        m ≤ n ∧ n ≤ q ∧ debit n ≤ available ∧ ∀ r, n < r → r ≤ q → available < debit r) ∧
      (affordable debit available m q = none → ∀ r, m ≤ r → r ≤ q → available < debit r)) ∧
  (∀ (s : State) (c : ClockId) (r : CommitRequest) (f : SaleFigures), judgeCommit s c r = .accepted f →
      ∃ b l p, (s.desk r.desk).binding.bind s.buyer = some b ∧ s.lot r.lot = some l ∧
        (s.clock c).startPrice = some p ∧ b.flags.blocked = false ∧ b.flags.permit.get c = true ∧
        (b.openInvoice ≠ none ∨ s.ledger.invoices.length < 4096) ∧ f.buyer = b.number ∧
        f.price = p - r.step * stepSizeOf l (s.clock c).params ∧ f.units = l.unitsPerPack ∧
        f.quantity = clampPacks r.packs l.packsRemaining l.minTake ∧ l.minTake ≤ f.packs ∧ f.packs ≤ f.quantity ∧
        f.amount = f.price * f.packs * f.units ∧
        f.levy = (f.amount * rateOf s b.feeClass + 5000) / 10000 ∧ f.debit = f.amount + f.levy ∧
        f.debit ≤ b.limit - b.committed ∧
        ∀ q, f.packs < q → q ≤ f.quantity → b.limit - b.committed <
          f.price * q * f.units + (f.price * q * f.units * rateOf s b.feeClass + 5000) / 10000) ∧
  (∀ (s : State) (c : ClockId) (r : CommitRequest),
      ((s.desk r.desk).binding.bind s.buyer = none → judgeCommit s c r = .refused .notSigned) ∧
      ∀ b, (s.desk r.desk).binding.bind s.buyer = some b →
        (b.flags.blocked = true → judgeCommit s c r = .refused .blocked) ∧
        (b.flags.blocked = false → b.flags.permit.get c = false → judgeCommit s c r = .refused .notPermitted) ∧
        (b.flags.blocked = false → b.flags.permit.get c = true → b.openInvoice = none →
          4096 ≤ s.ledger.invoices.length → judgeCommit s c r = .refused .invoiceFull) ∧
        (b.flags.blocked = false → b.flags.permit.get c = true →
          (b.openInvoice ≠ none ∨ s.ledger.invoices.length < 4096) →
          ∀ (l : Lot) (p price q : Nat) (debit : Nat → Nat), s.lot r.lot = some l → (s.clock c).startPrice = some p →
            price = p - r.step * stepSizeOf l (s.clock c).params →
            q = clampPacks r.packs l.packsRemaining l.minTake →
            (∀ n, debit n = price * n * l.unitsPerPack +
              (price * n * l.unitsPerPack * rateOf s b.feeClass + 5000) / 10000) →
            (∀ n, l.minTake ≤ n → n ≤ q → debit n ≤ b.limit - b.committed →
              ∃ f, judgeCommit s c r = .accepted f) ∧
            ((∀ n, l.minTake ≤ n → n ≤ q → b.limit - b.committed < debit n) →
              judgeCommit s c r = .refused (.credit
                { buyer := b.number, price := price, quantity := q, minTakeDebit := debit l.minTake,
                  available := b.limit - b.committed }))))

/-- R100. -/
def Obligations.DeskReleased : Prop :=
  ∀ (tag : Byte) (n : Nat) (s : State), Ready s →
    (∀ d b, deskNumbered n = some d → (s.desk d).binding = some b →
      exec (.deskRelease tag n) s = .next (replied tag 145 .ok (.released (some b))
        (((framed s).setDesk d { s.desk d with binding := none }).modBuyer b
          fun a => { a with boundDesks := a.boundDesks - 1 }))) ∧
    (∀ d, deskNumbered n = some d → (s.desk d).binding = none →
      exec (.deskRelease tag n) s = .next (replied tag 145 .ok (.released none) (framed s))) ∧
    (n = 0 ∨ 480 < n → exec (.deskRelease tag n) s = .next (replied tag 145 .badField (.field 1) (framed s)))

/-- R92, R87, R102 and R89, with 5.10.1. The time an expiry falls at, and timers kept as end times, are the model's own
(log entry 2), as are the step that begins a poll and the state left by a TICK_SENT or POLL_SENT that cannot happen (log
entry 9). The activity during a poll is DEDUCED (log entry 5), as are the lamp whose pulse begins meanwhile (log entry 39)
and the line held while part of a late reply is on it (log entry 35). -/
def Obligations.BusTransmissions : Prop :=
  ∀ (s : State) (built : Poll), s.hall.main = .present →
    built = { row := s.bus.nextRow, ack := (s.row s.bus.nextRow).lastBatch,
              lamps := (s.row s.bus.nextRow).desks.toList.map fun (d : Desk) => (lampOn d.win, lampOn d.refused) } →
    (∀ x rest, s.bus.activity = .sending → s.bus.lineHeld = false → s.bus.ticks = x :: rest →
      exec .tickSent s = .next { s with bus := { s.bus with
        ticks := rest, ticksSent := countUp 65535 s.bus.ticksSent,
        activity := if rest.isEmpty then .idle else .sending, poll := none } }) ∧
    (s.bus.activity ≠ .sending → exec .tickSent s = .next s) ∧
    (s.bus.activity = .idle → s.bus.lineHeld = false → s.bus.ticks = [] → s.bus.poll = none → s.pending = [] →
      dueCommands s = [] → step s = .next { s with bus := { s.bus with poll := some built } }) ∧
    (∀ p, s.bus.activity = .idle →
      (s.bus.poll = some p ∨ (s.bus.poll = none ∧ s.bus.lineHeld = false ∧ s.bus.ticks = [] ∧ p = built)) →
      exec .pollSent s = .next (({ s with bus := { s.bus with
        activity := .awaiting p (s.timebase + 2000), poll := none,
        nextRow := rowAfter s.bus.nextRow } }).setRow p.row (visitRow p (s.row p.row)))) ∧
    (s.bus.activity ≠ .idle ∨ (s.bus.poll = none ∧ (s.bus.lineHeld = true ∨ s.bus.ticks ≠ [])) →
      exec .pollSent s = .next s) ∧
    (s.bus.lineHeld = true →
      exec .deskBusLineIdle s = .next { s with bus := { s.bus with
        lineHeld := false, activity := if s.bus.ticks.isEmpty then .idle else .sending, poll := none } }) ∧
    (s.bus.lineHeld = false → exec .deskBusLineIdle s = .next s)

/-- R88, R89, R90, R92 and, for a new batch, R93. The time an expiry falls at, and timers kept as end times, are the
model's own (log entry 2), as is a late reply that meets the next poll (log entry 42). That the activity reads IDLE until
the next poll has been sent is DEDUCED (log entry 5), as are the line held while part of a late reply is on it (log entry
35) and a new press behind its equals (log entry 26). -/
def Obligations.RepliesCounted : Prop :=
  ∀ (p : Poll) (e : Nat) (s : State), s.hall.main = .present → s.bus.activity = .awaiting p e →
    (∀ y, goodReply p y = true → (y.batch = 0 ∨ y.batch = (s.row p.row).lastBatch) →
      ∃ t, exec (.rowReplyGood y) s = .next t ∧
        t.row p.row = { s.row p.row with
          framesGood := countUp 65535 (s.row p.row).framesGood, misses := 0, online := true } ∧
        (∀ r, r ≠ p.row → t.row r = s.row r) ∧ t.bus.ticks = s.bus.ticks ∧ t.bus.lineHeld = false ∧
        t.bus.activity = (if s.bus.ticks.isEmpty then .idle else .sending) ∧ t.bus.poll = none ∧
        t.clocks = s.clocks ∧ t.lots = s.lots ∧ t.ledger = s.ledger ∧ t.hall = s.hall) ∧
    (∀ y, goodReply p y = true → y.batch ≠ 0 → y.batch ≠ (s.row p.row).lastBatch →
      ∃ t u v, exec (.rowReplyGood y) s = .next t ∧
        u = (if (s.row p.row).online then id else raise (.row p.row true (s.row p.row).missCount))
          (s.setRow p.row { s.row p.row with
            framesGood := countUp 65535 (s.row p.row).framesGood, misses := 0, online := true,
            lastBatch := y.batch }) ∧
        v = y.events.foldl (fun u e => takeEvent e u) u ∧
        t = { v with bus := { v.bus with
          lineHeld := false, poll := none, activity := if v.bus.ticks.isEmpty then .idle else .sending } } ∧
        (t.row p.row).framesGood = countUp 65535 (s.row p.row).framesGood ∧ (t.row p.row).misses = 0 ∧
        (t.row p.row).online = true ∧ (t.row p.row).lastBatch = y.batch ∧
        (s.bus.nextArrival < 4294967296 → t.bus.nextArrival = (s.bus.nextArrival +
          (y.events.filter fun e => match e with
            | .press _ _ _ _ _ _ => true
            | .signOn _ _ => false
            | .signOff _ => false).length) % 4294967296) ∧
        t.bus.ticks = s.bus.ticks ∧ t.lots = s.lots ∧ t.lanes = s.lanes ∧ t.hall = s.hall ∧
        (∀ d n a, y.events = [.signOff (numberOf d), .signOn (numberOf d) n] → s.buyer n = some a →
          a.flags.blocked = false → (t.desk d).binding = some n) ∧
        (∀ (d : DeskId) (c : ClockId) (ends tag offset packs step : Nat) (second : List DeskEvent) (x : Press),
          (s.clock c).state = .running → (s.clock c).stepTimer = .running ends → (s.clock c).params.window ≠ 0 →
          pressStep (s.clock c).k tag (s.clock c).params.ageLimit = some step →
          y.events = .press (numberOf d) (numberOf c) (s.clock c).run tag offset packs :: second →
          x = { desk := d, packs := packs, offset := offset, step := step, arrival := s.bus.nextArrival } →
          (second = [.signOff (numberOf d)] →
            (t.clock c).collection = [x] ∧ (t.desk d).binding = none) ∧
          (∀ d' tag' offset' packs' step', d' ≠ d →
            second = [.press (numberOf d') (numberOf c) (s.clock c).run tag' offset' packs'] →
            pressStep (s.clock c).k tag' (s.clock c).params.ageLimit = some step' →
            (t.clock c).state = .stopping ∧ (t.clock c).collection = insertPress
              { desk := d', packs := packs', offset := offset', step := step',
                arrival := (s.bus.nextArrival + 1) % 4294967296 } [x]))) ∧
    (∀ y, goodReply p y = false → exec (.rowReplyGood y) s = exec .rowReplyBad s) ∧
    (∃ t, exec .rowReplyBad s = .next t ∧
      t.row p.row = { s.row p.row with
        framesBad := countUp 65535 (s.row p.row).framesBad, missCount := countUp 65535 (s.row p.row).missCount,
        misses := countUp 8 (s.row p.row).misses,
        online := (s.row p.row).online && decide (countUp 8 (s.row p.row).misses ≠ 8) } ∧
      (∀ r, r ≠ p.row → t.row r = s.row r) ∧ t.bus.ticks = s.bus.ticks ∧ t.bus.lineHeld = false ∧
      t.bus.activity = (if s.bus.ticks.isEmpty then .idle else .sending) ∧
      t.bus.poll = none ∧
      t.clocks = s.clocks ∧ t.lots = s.lots ∧ t.ledger = s.ledger ∧ t.hall = s.hall) ∧
    (∀ part, ∃ t, exec (.rowReplyTimeout part) s = .next t ∧ t.timebase = max s.timebase e ∧
      t.row p.row = { s.row p.row with
        missCount := countUp 65535 (s.row p.row).missCount, misses := countUp 8 (s.row p.row).misses,
        online := (s.row p.row).online && decide (countUp 8 (s.row p.row).misses ≠ 8) } ∧
      (∀ r, r ≠ p.row → t.row r = s.row r) ∧ t.bus.ticks = s.bus.ticks ∧ t.bus.lineHeld = part ∧
      t.bus.activity = (if part || s.bus.ticks.isEmpty then .idle else .sending) ∧
      t.bus.poll = none ∧
      t.clocks = s.clocks ∧ t.lots = s.lots ∧ t.ledger = s.ledger ∧ t.hall = s.hall)

/-- R94, R68 and R112. The time an expiry falls at, and timers kept as end times, are the model's own (log entry 2).
-/
def Obligations.FirstPressStops : Prop :=
  ∀ (p : Poll) (e ends b tag offset packs step : Nat) (d : DeskId) (c : ClockId) (s : State),
    s.hall.main = .present → s.bus.activity = .awaiting p e → (s.clock c).state = .running →
    (s.clock c).stepTimer = .running ends → (s.clock c).params.window ≠ 0 →
    pressStep (s.clock c).k tag (s.clock c).params.ageLimit = some step →
    goodReply p { row := numberOf p.row, batch := b,
                  events := [.press (numberOf d) (numberOf c) (s.clock c).run tag offset packs] } = true →
    b ≠ (s.row p.row).lastBatch →
    ∃ t, exec (.rowReplyGood { row := numberOf p.row, batch := b,
                               events := [.press (numberOf d) (numberOf c) (s.clock c).run tag offset packs] }) s =
        .next t ∧
      t.clocks = (s.setClock c { s.clock c with
        state := .stopping, stepTimer := .halted (ends - s.timebase),
        collection := [{ desk := d, packs := packs, offset := offset, step := step, arrival := s.bus.nextArrival }],
        windowEnds := some (s.timebase + (s.clock c).params.window * 250) }).clocks ∧
      (t.row p.row).lastBatch = b ∧ t.bus.nextArrival = (s.bus.nextArrival + 1) % 4294967296 ∧
      t.lots = s.lots ∧ t.lanes = s.lanes ∧ t.ledger = s.ledger ∧ t.hall = s.hall

/-- R94, R96, R109 to R112 and R114: what a press finds that is not the first of a stop with a window to run. The time an
expiry falls at, and timers kept as end times, are the model's own (log entry 2), as is IDLE_CLOCK for a press of before a
warm start that meets a LOADED clock (log entry 52); that a new press stands behind every entry of its step and offset is
DEDUCED (log entry 26). -/
def Obligations.PressesJudged : Prop :=
  ∀ (p : Poll) (e b run tag offset packs : Nat) (d : DeskId) (c : ClockId) (y : RowReply) (s : State),
    s.hall.main = .present → s.bus.activity = .awaiting p e → b ≠ (s.row p.row).lastBatch →
    y = { row := numberOf p.row, batch := b,
          events := [.press (numberOf d) (numberOf c) run tag offset packs] } →
    goodReply p y = true →
    (∀ ends step n x, (s.clock c).state = .running → (s.clock c).stepTimer = .running ends →
      (s.clock c).params.window = 0 → run = (s.clock c).run →
      pressStep (s.clock c).k tag (s.clock c).params.ageLimit = some step → (s.clock c).lot = some n →
      x = { lot := n, desk := d, packs := packs, step := step } →
      ∃ t, exec (.rowReplyGood y) s = .next t ∧
        t.clocks = (s.setClock c { s.clock c with
          state := .deciding, stepTimer := .halted (ends - s.timebase), windowEnds := none,
          collection :=
            [{ desk := d, packs := packs, offset := offset, step := step, arrival := s.bus.nextArrival }] }).clocks ∧
        (∀ op, s.ledger.arbiter.inProgress = some op →
          t.ledger.arbiter =
            { s.ledger.arbiter with commits := s.ledger.arbiter.commits.set c (some x) }) ∧
        (s.ledger.arbiter.inProgress = none → NothingWaits s → s.hlp.resetting = none →
          t.ledger.arbiter.inProgress = some (.commit c x (judgeCommit s c x)) ∧ NothingWaits t ∧
            t.ledger.arbiter.lastServed = c) ∧
        t.bus.nextArrival = (s.bus.nextArrival + 1) % 4294967296 ∧ t.lots = s.lots ∧ t.lanes = s.lanes ∧
        t.ledger.buyers = s.ledger.buyers ∧ t.ledger.journal = s.ledger.journal ∧ t.hall = s.hall) ∧
    (∃ t, exec (.rowReplyGood y) s = .next t ∧ (t.row p.row).lastBatch = b ∧
      t.bus.nextArrival = (s.bus.nextArrival + 1) % 4294967296 ∧
      ((s.clock c).state ≠ .running → (s.clock c).state ≠ .stopping →
        t.clocks = s.clocks ∧ PressRefused s t d c .idleClock) ∧
      (((s.clock c).state = .running ∨ (s.clock c).state = .stopping) →
        (run ≠ (s.clock c).run ∨ pressStep (s.clock c).k tag (s.clock c).params.ageLimit = none) →
        t.clocks = s.clocks ∧ PressRefused s t d c .late) ∧
      (∀ step x, (s.clock c).state = .stopping → run = (s.clock c).run →
        pressStep (s.clock c).k tag (s.clock c).params.ageLimit = some step →
        x = { desk := d, packs := packs, offset := offset, step := step, arrival := s.bus.nextArrival } →
        ((∃ q ∈ (s.clock c).collection, q.desk = d) → t.clocks = s.clocks ∧ PressRefused s t d c .duplicate) ∧
        ((∀ q ∈ (s.clock c).collection, q.desk ≠ d) → (s.clock c).collection.length < 16 →
          t.clocks = (s.setClock c { s.clock c with
            collection := insertPress x (s.clock c).collection }).clocks ∧
          ∀ d', t.desk d' = s.desk d') ∧
        (∀ front last, (∀ q ∈ (s.clock c).collection, q.desk ≠ d) → (s.clock c).collection = front ++ [last] →
          16 ≤ (s.clock c).collection.length →
          ((step < last.step ∨ (step = last.step ∧ offset < last.offset)) →
            t.clocks = (s.setClock c { s.clock c with collection := insertPress x front }).clocks ∧
            PressRefused s t last.desk c .outbid) ∧
          (¬ (step < last.step ∨ (step = last.step ∧ offset < last.offset)) →
            t.clocks = s.clocks ∧ PressRefused s t d c .outbid))) ∧
      t.lots = s.lots ∧ t.lanes = s.lanes ∧ t.ledger.buyers = s.ledger.buyers ∧
      t.ledger.journal = s.ledger.journal ∧ t.ledger.invoices = s.ledger.invoices ∧ t.hall = s.hall)

/-- R97, R98, R99 and R86, on a good reply whose batch is one event (R88). -/
def Obligations.SignOnBinds : Prop :=
  ∀ (p : Poll) (e batch n : Nat) (d : DeskId) (s : State), s.hall.main = .present → s.bus.activity = .awaiting p e →
    batch ≠ (s.row p.row).lastBatch →
    (∀ y, y = { row := numberOf p.row, batch := batch, events := [DeskEvent.signOn (numberOf d) n] } →
      goodReply p y = true → ∃ t, exec (.rowReplyGood y) s = .next t ∧ (t.row p.row).lastBatch = batch ∧
        t.clocks = s.clocks ∧ t.lots = s.lots ∧ t.lanes = s.lanes ∧ t.ledger.journal = s.ledger.journal ∧
        t.ledger.invoices = s.ledger.invoices ∧ t.hall = s.hall ∧ (∀ d', d' ≠ d → t.desk d' = s.desk d') ∧
        (∀ a, s.buyer n = some a → a.flags.blocked = false →
          t.desk d = { s.desk d with binding := some n } ∧
          ((s.desk d).binding = some n → t.ledger = s.ledger) ∧
          ((s.desk d).binding ≠ some n → t.buyer n = some { a with boundDesks := a.boundDesks + 1 }) ∧
          (∀ m x, m ≠ n → (s.desk d).binding = some m → s.buyer m = some x →
            t.buyer m = some { x with boundDesks := x.boundDesks - 1 }) ∧
          (∀ m, m ≠ n → (s.desk d).binding ≠ some m → t.buyer m = s.buyer m)) ∧
        ((s.buyer n = none ∨ ∃ a, s.buyer n = some a ∧ a.flags.blocked = true) →
          t.desk d = { s.desk d with
            binding := none, refused := pulseLamp (s.desk d).refused,
            lastRefusal := some { reason := .notSigned, clock := none, lot := none } } ∧
          ((s.desk d).binding = none → t.ledger = s.ledger) ∧
          (∀ m x, (s.desk d).binding = some m → s.buyer m = some x →
            t.buyer m = some { x with boundDesks := x.boundDesks - 1 }) ∧
          (∀ m, (s.desk d).binding ≠ some m → t.buyer m = s.buyer m))) ∧
    (∀ y, y = { row := numberOf p.row, batch := batch, events := [DeskEvent.signOff (numberOf d)] } →
      goodReply p y = true → ∃ t, exec (.rowReplyGood y) s = .next t ∧ (t.row p.row).lastBatch = batch ∧
        t.clocks = s.clocks ∧ t.lots = s.lots ∧ t.lanes = s.lanes ∧ t.ledger.journal = s.ledger.journal ∧
        t.ledger.invoices = s.ledger.invoices ∧ t.hall = s.hall ∧ (∀ d', d' ≠ d → t.desk d' = s.desk d') ∧
        t.desk d = { s.desk d with binding := none } ∧
        ((s.desk d).binding = none → t.ledger = s.ledger) ∧
        (∀ m x, (s.desk d).binding = some m → s.buyer m = some x →
          t.buyer m = some { x with boundDesks := x.boundDesks - 1 }) ∧
        (∀ m, (s.desk d).binding ≠ some m → t.buyer m = s.buyer m))

/-- R134 to R136. The places counted in `Ready` are DEDUCED (log entry 16), as are the counting of fields in a BAD_FIELD
reply (log entry 7) and an unknown action code as a field at fault (log entry 25). -/
def Obligations.LedgerRequestArrives : Prop :=
  ∀ (tag : Byte) (r : LedgerRequest) (s : State), Ready s →
    (ledgerKeyRefused s.hall.key r = true →
      exec (ledgerCommand tag r) s = .next (replied tag (128 + r.kind) .key .empty (framed s))) ∧
    (∀ pos, ledgerKeyRefused s.hall.key r = false → ledgerFault r = some pos →
      exec (ledgerCommand tag r) s = .next (replied tag (128 + r.kind) .badField (.field pos) (framed s))) ∧
    (ledgerKeyRefused s.hall.key r = false → ledgerFault r = none →
      (s.ledger.arbiter.inProgress = none → NothingWaits s →
        exec (ledgerCommand tag r) s = .next ((framed s).setArbiter { s.ledger.arbiter with
          inProgress := some (.host tag r (lineClock s r) (judgeRequest s r)) })) ∧
      (∀ op, s.ledger.arbiter.inProgress = some op → s.ledger.arbiter.requests.length < 8 →
        exec (ledgerCommand tag r) s = .next ((framed s).setArbiter { s.ledger.arbiter with
          requests := s.ledger.arbiter.requests ++ [(tag, r)] })) ∧
      (8 ≤ s.ledger.arbiter.requests.length →
        exec (ledgerCommand tag r) s = .next (replied tag (128 + r.kind) .busy .empty
          ((framed s).count fun n => { n with busy := countUp 65535 n.busy }))))

/-- The checks a host ledger request meets when it is served: R128 to R131, R133, R141, R156 with the room of R147 and
R152, R162 and R163. -/
def Obligations.RequestsJudged : Prop :=
  ∀ s : State,
    (∀ a, ((s.buyer a.number).isSome → judgeRequest s (.buyerEnter a) = .refuse .exists_ .empty) ∧
      (s.buyer a.number = none → 2048 ≤ s.ledger.buyers.length →
        judgeRequest s (.buyerEnter a) = .refuse .full .empty) ∧
      (s.buyer a.number = none → s.ledger.buyers.length < 2048 → judgeRequest s (.buyerEnter a) = .go)) ∧
    (∀ n a limit, s.buyer n = none → a.number = n →
      judgeRequest s (.buyerFlags a) = .refuse .notFound .empty ∧
      judgeRequest s (.buyerLimit n limit) = .refuse .notFound .empty ∧
      judgeRequest s (.buyerRemove n) = .refuse .notFound .empty ∧
      judgeRequest s (.invoiceClose (.buyer n)) = .refuse .notFound .empty) ∧
    (∀ n a limit b, s.buyer n = some b → a.number = n →
      judgeRequest s (.buyerFlags a) = .go ∧
      (limit < b.committed → judgeRequest s (.buyerLimit n limit) =
        .refuse .belowCommitted (.committed b.committed)) ∧
      (b.committed ≤ limit → judgeRequest s (.buyerLimit n limit) = .go) ∧
      ((0 < b.committed ∨ b.openInvoice ≠ none ∨ 0 < b.boundDesks ∨
          ∃ i ∈ s.ledger.invoices, i.buyer = n ∧ i.state = .closed) →
        judgeRequest s (.buyerRemove n) = .refuse .state .empty) ∧
      (b.committed = 0 → b.openInvoice = none → b.boundDesks = 0 →
        (∀ i ∈ s.ledger.invoices, i.buyer = n → i.state ≠ .closed) → judgeRequest s (.buyerRemove n) = .go) ∧
      (b.openInvoice = none → judgeRequest s (.invoiceClose (.buyer n)) = .refuse .state .empty) ∧
      (∀ i, b.openInvoice = some i → judgeRequest s (.invoiceClose (.buyer n)) = .go)) ∧
    (∀ fc rate, judgeRequest s (.tariffSet fc rate) = .go) ∧
    (∀ n, s.invoice n = none → judgeRequest s (.paymentPost n) = .refuse .notFound .empty ∧
      judgeRequest s (.invoiceClose (.invoice n)) = .refuse .notFound .empty) ∧
    (∀ n i, s.invoice n = some i →
      (i.state = .opened → judgeRequest s (.paymentPost n) = .refuse .state .empty ∧
        judgeRequest s (.invoiceClose (.invoice n)) = .go) ∧
      (i.state = .closed → judgeRequest s (.paymentPost n) = .go ∧
        judgeRequest s (.invoiceClose (.invoice n)) = .refuse .state .empty)) ∧
    ((∀ c, (s.clock c).state = .idle ∨ (s.clock c).state = .closed) → judgeRequest s .dayClose = .go) ∧
    (∀ c, (s.clock c).state ≠ .idle → (s.clock c).state ≠ .closed →
      (∀ d, d < c → (s.clock d).state = .idle ∨ (s.clock d).state = .closed) →
      judgeRequest s .dayClose = .refuse .state (.clockAtFault c)) ∧
    (∀ n, s.line n = none → judgeRequest s (.saleVoid n) = .refuse .notFound .empty) ∧
    (∀ n l, s.line n = some l →
      ((l.kind ≠ .sale ∨ l.voided = true) → judgeRequest s (.saleVoid n) = .refuse .state .empty) ∧
      (((s.clock l.clock).state ≠ .held ∨ (s.clock l.clock).lot ≠ some l.lot ∨
          ¬ ∃ m, s.ledger.journal.lotMark.get l.clock = some m ∧ m ≤ l.sequence) →
        judgeRequest s (.saleVoid n) = .refuse .state .empty) ∧
      ((¬ ∃ k i, l.invoice = some k ∧ s.invoice k = some i ∧ i.state = .opened ∧ i.firstLine ≤ l.sequence) →
        judgeRequest s (.saleVoid n) = .refuse .state .empty) ∧
      (∀ m k i, l.kind = .sale → l.voided = false → (s.clock l.clock).state = .held →
        (s.clock l.clock).lot = some l.lot → s.ledger.journal.lotMark.get l.clock = some m → m ≤ l.sequence →
        l.invoice = some k → s.invoice k = some i → i.state = .opened → i.firstLine ≤ l.sequence →
        judgeRequest s (.saleVoid n) =
          if s.ledger.journal.lastWritten - s.ledger.journal.lastReleased + reservationsHeld s < 8192 ∧
            s.ledger.journal.lastWritten + reservationsHeld s < 4294967295 then .go
          else .refuse .journalFull .empty))

/-- R128 to R131, R133 and R134, with the second test of the bound desks that R131 makes; a request of any kind judged
refused (R156, R163). -/
def Obligations.AccountOperationsComplete : Prop :=
  ∀ (tag : Byte) (line : Option ClockId) (s : State), s.hall.main = .present → NothingWaits s →
    s.hlp.resetting = none →
    (∀ a, s.ledger.arbiter.inProgress = some (.host tag (.buyerEnter a) line .go) →
      exec .ledgerOperationComplete s = .next (replied tag 146 .ok (.accounts (s.ledger.buyers.length + 1))
        { free s with
          ledger := { (free s).ledger with
            buyers := insertKey Buyer.number
              { number := a.number, name := storedText a.name, feeClass := a.feeClass, limit := a.limit,
                committed := 0, flags := { blocked := false, permit := Vector.replicate 4 true },
                openInvoice := none, boundDesks := 0 } s.ledger.buyers } })) ∧
    (∀ n act fl b, s.ledger.arbiter.inProgress =
        some (.host tag (.buyerFlags { number := n, action := some act, flags := fl }) line .go) →
      s.buyer n = some b →
      exec .ledgerOperationComplete s = .next (replied tag 147 .ok (.flags (applyFlags act fl b.flags))
        ((free s).modBuyer n fun b => { b with flags := applyFlags act fl b.flags }))) ∧
    (∀ n limit b, s.ledger.arbiter.inProgress = some (.host tag (.buyerLimit n limit) line .go) →
      s.buyer n = some b →
      exec .ledgerOperationComplete s = .next (replied tag 148 .ok (.limit limit b.committed (limit - b.committed))
        ((free s).modBuyer n fun b => { b with limit := limit }))) ∧
    (∀ n b, s.ledger.arbiter.inProgress = some (.host tag (.buyerRemove n) line .go) → s.buyer n = some b →
      b.boundDesks = 0 →
      exec .ledgerOperationComplete s = .next (replied tag 149 .ok
        (.accounts (dropKey Buyer.number n s.ledger.buyers).length)
        { free s with ledger := { (free s).ledger with buyers := dropKey Buyer.number n s.ledger.buyers } })) ∧
    (∀ fc rate, (h : fc < 8) → s.ledger.arbiter.inProgress = some (.host tag (.tariffSet fc rate) line .go) →
      exec .ledgerOperationComplete s = .next (replied tag 151 .ok .empty
        { free s with ledger := { (free s).ledger with tariff := s.ledger.tariff.set fc rate } })) ∧
    (∀ n b, s.ledger.arbiter.inProgress = some (.host tag (.buyerRemove n) line .go) → s.buyer n = some b →
      b.boundDesks ≠ 0 →
      exec .ledgerOperationComplete s = .next (replied tag 149 .state .empty (free s))) ∧
    (∀ r st body, (∀ n, r ≠ .saleVoid n) → (r = .dayClose → s.ledger.journal.deferred = []) →
      s.ledger.arbiter.inProgress = some (.host tag r line (.refuse st body)) →
      exec .ledgerOperationComplete s = .next (replied tag (128 + r.kind) st body (free s))) ∧
    (∀ n st body, s.ledger.arbiter.inProgress = some (.host tag (.saleVoid n) line (.refuse st body)) →
      exec .saleVoidComplete s = .next (replied tag 152 st body (free s)))

/-- R56, R55, R162 and R163; the requests a DAY-CLOSE has deferred are the matter of DayCloseDefers. -/
def Obligations.InvoiceOperationsComplete : Prop :=
  ∀ (tag : Byte) (line : Option ClockId) (s : State), s.hall.main = .present → NothingWaits s →
    s.hlp.resetting = none →
    (∀ n i b total, s.ledger.arbiter.inProgress = some (.host tag (.paymentPost n) line .go) →
      s.invoice n = some i → i.total = some total → s.buyer i.buyer = some b →
      exec .ledgerOperationComplete s = .next (replied tag 153 .ok
        (.paid i.buyer total (b.committed - 10 * total) (b.limit - (b.committed - 10 * total)))
        { ((free s).modBuyer i.buyer fun b => { b with committed := b.committed - 10 * total }) with
          ledger := { ((free s).modBuyer i.buyer fun b => { b with committed := b.committed - 10 * total }).ledger with
            invoices := dropKey Invoice.number n s.ledger.invoices } })) ∧
    (∀ which n i b, s.ledger.arbiter.inProgress = some (.host tag (.invoiceClose which) line .go) →
      (which = .invoice n ∨ ∃ m a, which = .buyer m ∧ s.buyer m = some a ∧ a.openInvoice = some n) →
      s.invoice n = some i → i.state = .opened → s.buyer i.buyer = some b →
      exec .ledgerOperationComplete s = .next (replied tag 154 .ok
        (.invoiceClosed
          { invoice := n, buyer := i.buyer, lineCount := i.lineCount, goods := i.goods, levies := i.levies,
            debits := i.debits, total := i.debits / 10, residue := i.debits - 10 * (i.debits / 10),
            committed := b.committed - (i.debits - 10 * (i.debits / 10)) })
        (((free s).modInvoice n fun i => { i with
            state := .closed, total := some (i.debits / 10),
            residue := some (i.debits - 10 * (i.debits / 10)) }).modBuyer i.buyer
          fun b => { b with
            openInvoice := none, committed := b.committed - (i.debits - 10 * (i.debits / 10)) }))) ∧
    (s.ledger.arbiter.inProgress = some (.host tag .dayClose line .go) → s.ledger.journal.deferred = [] →
      ∃ t, exec .ledgerOperationComplete s = .next t ∧ (∀ i ∈ t.ledger.invoices, i.state = .closed) ∧
        (s.ledger.invoices.Pairwise (fun i j => i.number ≠ j.number) →
          t.ledger.invoices = s.ledger.invoices.map (fun i => if i.state = .opened then
            { i with state := .closed, total := some (i.debits / 10),
                     residue := some (i.debits - 10 * (i.debits / 10)) } else i) ∧
          t.ledger.buyers = s.ledger.buyers.map fun b => { b with
            openInvoice := if s.ledger.invoices.any (fun i => i.state = .opened && i.buyer = b.number) then none
              else b.openInvoice
            committed := b.committed - ((s.ledger.invoices.filter fun i =>
              i.state = .opened && i.buyer = b.number).map fun i => i.debits - 10 * (i.debits / 10)).sum }) ∧
        t.ledger.nextInvoice = s.ledger.nextInvoice ∧ t.ledger.tariff = s.ledger.tariff ∧
        t.ledger.journal = s.ledger.journal ∧ t.clocks = s.clocks ∧ t.lots = s.lots ∧
        t.hlp.replies = s.hlp.replies ++ [plainReply tag 155 .ok
          (.dayClosed (openInvoices s).length ((openInvoices s).map fun i => i.debits / 10).sum
            ((openInvoices s).map fun i => i.debits - 10 * (i.debits / 10)).sum)])

/-- R152 with R64 to R66 and R70: while a DAY-CLOSE is in progress a reservation request waits as a deferred one, and at
the completion the deferred requests reach the journal in the order made. The time an expiry falls at, and timers kept as
end times, are the model's own (log entry 2). -/
def Obligations.DayCloseDefers : Prop :=
  (∀ (c : ClockId) (e : Nat) (tag : Byte) (line : Option ClockId) (v : Service) (s : State),
    s.hall.main = .present → s.ledger.arbiter.inProgress = some (.host tag .dayClose line v) →
    ((s.clock c).state = .loaded .new → (s.clock c).previewEnds = some e → s.hall.key = .sale →
      (s.board c).online = true → s.hall.timeSet = true → s.hlp.link = .linked →
      exec (.previewExpiry c) s =
        .next (((s.reach e).setClock c { s.clock c with previewEnds := none }).setJournal { s.ledger.journal with
          deferred := if c ∈ s.ledger.journal.deferred then s.ledger.journal.deferred
            else s.ledger.journal.deferred ++ [c] })) ∧
    (∀ l p, (s.clock c).state = .sold → (s.clock c).pauseEnds = some e → s.currentLot c = some l →
      (s.clock c).lastSalePrice = some p →
      ∃ t, exec (.pauseExpiry c) s = .next t ∧ t.timebase = max s.timebase e ∧
        t.clocks = (s.setClock c { s.clock c with
          state := .loaded .restart, run := ((s.clock c).run + 1) % 16, k := 0, pauseEnds := none,
          startPrice := some (min l.startPrice (p + (s.clock c).params.lift)) }).clocks ∧
        t.ledger.journal = { s.ledger.journal with
          deferred := if c ∈ s.ledger.journal.deferred then s.ledger.journal.deferred
            else s.ledger.journal.deferred ++ [c] } ∧
        t.lots = s.lots ∧ t.lanes = s.lanes ∧ t.bus = s.bus ∧ t.hall = s.hall ∧ t.hlp = s.hlp)) ∧
  (∀ (c d : ClockId) (tag : Byte) (line : Option ClockId) (v : Service) (s : State),
    s.hall.main = .present → NothingWaits s → s.hlp.resetting = none →
    s.ledger.arbiter.inProgress = some (.host tag .dayClose line v) → c ≠ d →
    s.ledger.journal.deferred = [c, d] → s.hall.key = .sale → s.hall.timeSet = true → s.hlp.link = .linked →
    (∀ x, (x = c ∨ x = d) → (s.board x).online = true ∧ (s.clock x).reservation = false ∧
      (((s.clock x).state = .loaded .new ∧ (s.clock x).previewEnds = none) ∨
        ((s.clock x).state = .loaded .restart ∧ (s.clock x).holdPending = none))) →
    s.ledger.journal.lastWritten + reservationsHeld s + 1 < 4294967295 →
    (s.ledger.journal.lastWritten - s.ledger.journal.lastReleased + reservationsHeld s = 8191 →
      ∃ t, exec .ledgerOperationComplete s = .next t ∧ t.ledger.journal.deferred = [] ∧
        t.clocks = ((s.setClock c { s.clock c with
            state := .running, k := 0, reservation := true, asked := false,
            stepTimer := .running (s.timebase + periodOf (s.clock c).params 0) }).setClock d
          { s.clock d with asked := true }).clocks) ∧
    (s.ledger.journal.lastWritten - s.ledger.journal.lastReleased + reservationsHeld s < 8191 →
      ∃ t, exec .ledgerOperationComplete s = .next t ∧ t.ledger.journal.deferred = [] ∧
        ∀ x, (x = c ∨ x = d) → t.clock x = { s.clock x with
          state := .running, k := 0, reservation := true, asked := false,
          stepTimer := .running (s.timebase + periodOf (s.clock x).params 0) }))

/-- R139 with R140 and R142, the invoice by R160, and the clock's part by R118, R119, R69 and R71. The time an expiry falls
at, and timers kept as end times, are the model's own (log entry 2). -/
def Obligations.SaleCommitAccepted : Prop :=
  ∀ (c : ClockId) (r : CommitRequest) (f : SaleFigures) (l : Lot) (b : Buyer) (n : Nat) (i : Invoice)
    (others : List Press) (s : State),
    s.hall.main = .present → NothingWaits s → s.hlp.resetting = none →
    s.ledger.arbiter.inProgress = some (.commit c r (.accepted f)) → s.lot r.lot = some l →
    s.buyer f.buyer = some b → SaleInvoice s b n i → others = (s.clock c).collection.tail →
    ∃ t, exec .saleCommitComplete s = .next t ∧
      t.ledger.journal.lines = s.ledger.journal.lines ++ [saleLineOf s c r f n] ∧
      t.ledger.journal.lastWritten = s.ledger.journal.lastWritten + 1 ∧
      t.buyer f.buyer = some { b with committed := b.committed + f.debit, openInvoice := some n } ∧
      (∀ m, m ≠ f.buyer → t.buyer m = s.buyer m) ∧
      t.invoice n = some { i with
        lineCount := i.lineCount + 1, lastLine := s.ledger.journal.lastWritten + 1, goods := i.goods + f.amount,
        levies := i.levies + f.levy, debits := i.debits + f.debit } ∧
      (∀ m, m ≠ n → t.invoice m = s.invoice m) ∧
      t.ledger.nextInvoice = (if b.openInvoice = none then (if n < 999999 then n + 1 else 1)
        else s.ledger.nextInvoice) ∧
      t.ledger.lastSale.get c = some
        { lot := r.lot, buyer := f.buyer, desk := r.desk, packs := f.packs, price := f.price,
          sequence := s.ledger.journal.lastWritten + 1 } ∧
      (∀ d, d ≠ c → t.ledger.lastSale.get d = s.ledger.lastSale.get d ∧ t.clock d = s.clock d) ∧
      t.ledger.counters = { s.ledger.counters with
        accepted := countUp 65535 s.ledger.counters.accepted
        cut := if f.packs < f.quantity then countUp 65535 s.ledger.counters.cut else s.ledger.counters.cut } ∧
      t.ledger.tariff = s.ledger.tariff ∧ t.ledger.arbiter.inProgress = none ∧
      (∀ d, t.desk d = { s.desk d with
        win := if d = r.desk then pulseLamp (s.desk d).win else (s.desk d).win
        lastRefusal := if others.any (fun q => q.desk = d) then
            some { reason := .outbid, clock := some c, lot := (s.clock c).lot }
          else (s.desk d).lastRefusal }) ∧
      (∀ x, (s.row x).pressesRefused ≤ 65535 → (t.row x).pressesRefused =
        min 65535 ((s.row x).pressesRefused + (others.filter fun q => rowOfDesk q.desk = x).length)) ∧
      (s.hlp.enables.sales = true → s.hlp.reports.length < 64 →
        t.hlp.reports[s.hlp.reports.length]?.map Report.body = some (.sale
          { clock := c, lot := r.lot, run := (s.clock c).run, sequence := s.ledger.journal.lastWritten + 1,
            buyer := f.buyer, desk := r.desk, step := r.step, price := f.price, requested := r.packs,
            packs := f.packs, amount := f.amount, levy := f.levy, debit := f.debit,
            remaining := l.packsRemaining - f.packs,
            next := if l.minTake ≤ l.packsRemaining - f.packs then .restart else .lotEnd })) ∧
      t.hall = s.hall ∧
      (l.minTake ≤ l.packsRemaining - f.packs →
        t.lot r.lot =
          some { l with packsSold := l.packsSold + f.packs, packsRemaining := l.packsRemaining - f.packs } ∧
        t.clock c = { s.clock c with
          state := .sold, reservation := false, collection := [], lastSalePrice := some f.price,
          pauseEnds := some (s.timebase + (s.clock c).params.pause * 1000) } ∧
        t.ledger.journal.lotMark = s.ledger.journal.lotMark ∧ t.lanes = s.lanes) ∧
      (l.packsRemaining - f.packs < l.minTake → (s.clock c).lot = some r.lot →
        (t.lot r.lot).map (fun x => (x.state, x.packsSold, x.packsRemaining)) = some
          (if l.packsRemaining - f.packs = 0 then .soldOut else if l.packsSold + f.packs = 0 then .unsold else .done,
            l.packsSold + f.packs, l.packsRemaining - f.packs) ∧
        (t.clock c).state = (if (s.clock c).closing then .closed else .idle) ∧ (t.clock c).lot = none ∧
        (t.clock c).run = (s.clock c).run ∧ (t.clock c).reservation = false ∧ (t.clock c).collection = [] ∧
        t.ledger.journal.lotMark.get c = none ∧ ∀ d, d ≠ c → t.lane d = s.lane d)

/-- R116 and R120, with R72 for a hold that is pending at the last refusal; the halted time is DEDUCED (log entry 23). The
time an expiry falls at, and timers kept as end times, are the model's own (log entry 2). -/
def Obligations.SaleCommitRefused : Prop :=
  ∀ (c : ClockId) (r : CommitRequest) (x : CommitRefusal) (p : Press) (s : State),
    s.hall.main = .present → NothingWaits s → s.hlp.resetting = none →
    s.ledger.arbiter.inProgress = some (.commit c r (.refused x)) →
    (∀ t, exec .saleCommitComplete s = .next t → (s.clock c).collection ≠ [] →
      t.desk r.desk = { s.desk r.desk with
        refused := pulseLamp (s.desk r.desk).refused,
        lastRefusal := some { reason := refusalReason x, clock := some c, lot := (s.clock c).lot } } ∧
      (∀ d, d ≠ r.desk → t.desk d = s.desk d)) ∧
    ((s.clock c).collection = [p] → (s.clock c).holdPending = none →
      ∃ t, exec .saleCommitComplete s = .next t ∧
        t.clocks = (s.setClock c { s.clock c with
          state := .running, collection := [],
          stepTimer := .running (s.timebase + periodOf (s.clock c).params (s.clock c).k) }).clocks ∧
        (t.desk r.desk).lastRefusal =
          some { reason := refusalReason x, clock := some c, lot := (s.clock c).lot } ∧
        t.ledger.buyers = s.ledger.buyers ∧ t.ledger.invoices = s.ledger.invoices ∧
        t.ledger.journal = s.ledger.journal ∧ t.lots = s.lots ∧ t.bus.ticks = s.bus.ticks ∧ t.hall = s.hall) ∧
    (∀ cause, (s.clock c).collection = [p] → (s.clock c).holdPending = some cause →
      ∃ t, exec .saleCommitComplete s = .next t ∧
        t.clocks = (s.setClock c { s.clock c with
          state := .held, collection := [], holdPending := none,
          stepTimer := .halted (periodOf (s.clock c).params (s.clock c).k) }).clocks ∧
        (t.desk r.desk).lastRefusal =
          some { reason := refusalReason x, clock := some c, lot := (s.clock c).lot } ∧
        t.ledger.buyers = s.ledger.buyers ∧ t.ledger.invoices = s.ledger.invoices ∧
        t.ledger.journal = s.ledger.journal ∧ t.lots = s.lots ∧ t.bus.ticks = s.bus.ticks ∧ t.hall = s.hall) ∧
    (∀ q rest n, (s.clock c).collection = p :: q :: rest → (s.clock c).lot = some n →
      ∃ t a, exec .saleCommitComplete s = .next t ∧
        t.ledger.arbiter.inProgress =
          some (.commit c { lot := n, desk := q.desk, packs := q.packs, step := q.step } a) ∧
        (t.desk r.desk).lastRefusal =
          some { reason := refusalReason x, clock := some c, lot := (s.clock c).lot } ∧
        t.clocks = (s.setClock c { s.clock c with collection := q :: rest }).clocks ∧
        t.ledger.buyers = s.ledger.buyers ∧ t.ledger.invoices = s.ledger.invoices ∧
        t.ledger.journal = s.ledger.journal ∧ t.lots = s.lots ∧ t.hall = s.hall)

/-- R156 and R157. -/
def Obligations.SaleVoidGivesBack : Prop :=
  ∀ (tag : Byte) (n : Nat) (line : Option ClockId) (s : State),
    s.hall.main = .present → NothingWaits s → s.hlp.resetting = none →
    s.ledger.arbiter.inProgress = some (.host tag (.saleVoid n) line .go) →
    (∀ l x b i bn inv, s.line n = some l → grantable s = true → l.buyer = some bn → l.invoice = some inv →
      s.lot l.lot = some x → s.buyer bn = some b → s.invoice inv = some i →
      ∃ t, exec .saleVoidComplete s = .next t ∧
        t.line n = some { l with voided := true } ∧
        t.ledger.journal.lastWritten = s.ledger.journal.lastWritten + 1 ∧
        t.lot l.lot = some { x with packsSold := x.packsSold - l.packs, packsRemaining := x.packsRemaining + l.packs } ∧
        t.buyer bn = some { b with committed := b.committed - l.debit } ∧
        t.invoice inv = some { i with
          goods := i.goods - l.amount, levies := i.levies - l.levy, debits := i.debits - l.debit,
          lineCount := i.lineCount + 1, lastLine := s.ledger.journal.lastWritten + 1 } ∧
        (n ≤ s.ledger.journal.lastWritten → t.ledger.journal.lines.getLast? = some { l with
          sequence := s.ledger.journal.lastWritten + 1, kind := .void, stamp := s.hall.calendar,
          stampValid := s.hall.timeSet, voidedSequence := some n, voided := false }) ∧
        (t.board l.clock).snapshotChanged = true ∧ t.clocks = s.clocks ∧ t.lanes = s.lanes ∧ t.bus = s.bus ∧
        t.hall = s.hall) ∧
    (s.line n = none → exec .saleVoidComplete s = .next (replied tag 152 .notFound .empty (free s))) ∧
    (∀ l, s.line n = some l → grantable s = false →
      exec .saleVoidComplete s = .next (replied tag 152 .journalFull .empty (free s)))

/-- R135 at a completion, as 7.9.1 shows it: the commit of the first clock waiting in the order after the clock last
served, else the request at the head of the list. What is served reads each record once, at its service (R134, R136, R137);
that it reads it as the rest of the completion's event leaves it, the reservations a DAY-CLOSE has deferred (R152) and the
clock's part in its commit included, is DEDUCED (log entry 27). -/
def Obligations.ArbiterChooses : Prop :=
  ∀ (op : Operation) (s : State), s.hall.main = .present → s.hlp.resetting = none →
    s.ledger.arbiter.inProgress = some op →
    (∀ c r a, op = .commit c r a → s.ledger.arbiter.commits.get c = none) →
    ∃ t, exec (completionOf op) s = .next t ∧
      (∀ (k d : ClockId) (r : CommitRequest), d = s.ledger.arbiter.lastServed + 1 + k →
        s.ledger.arbiter.commits.get d = some r →
        (∀ j, j < k → s.ledger.arbiter.commits.get (s.ledger.arbiter.lastServed + 1 + j) = none) →
        t.ledger.arbiter.inProgress = some (.commit d r (judgeCommit t d r)) ∧
        t.ledger.arbiter.commits.get d = none ∧ t.ledger.arbiter.lastServed = d ∧
        (∀ e, e ≠ d → (∀ r' a, op ≠ .commit e r' a) →
          t.ledger.arbiter.commits.get e = s.ledger.arbiter.commits.get e) ∧
        t.ledger.arbiter.requests = s.ledger.arbiter.requests) ∧
      (∀ tag r rest, (∀ d, s.ledger.arbiter.commits.get d = none) →
        s.ledger.arbiter.requests = (tag, r) :: rest →
        t.ledger.arbiter.inProgress = some (.host tag r (lineClock t r) (judgeRequest t r)) ∧
        t.ledger.arbiter.requests = rest ∧ t.ledger.arbiter.lastServed = s.ledger.arbiter.lastServed) ∧
      (∀ c r p q rest n, op = .commit c r (.refused p) → (s.clock c).collection = q :: rest → rest ≠ [] →
        (s.clock c).lot = some n →
        ((∃ d, s.ledger.arbiter.commits.get d ≠ none) ∨ s.ledger.arbiter.requests ≠ []) →
        t.ledger.arbiter.commits.get c =
          (rest.head?).map fun x => { lot := n, desk := x.desk, packs := x.packs, step := x.step })

/-- R145 with R192, and R202: the operation in progress at a main-supply fail, or at a reset, completes before the start.
That it does so by its own completion while FAILED, or else at the start, is DEDUCED (log entry 18). -/
def Obligations.OperationCompletesBeforeStart : Prop :=
  (∀ (op : Operation) (s : State), s.hall.main = .failed → s.ledger.arbiter.inProgress = some op →
    ∃ t u, exec (completionOf op) s = .next t ∧
      exec (completionOf op) { s with hall := { s.hall with main := .present } } = .next u ∧
      t.ledger.arbiter.inProgress = none ∧ t.ledger.buyers = u.ledger.buyers ∧
      t.ledger.invoices = u.ledger.invoices ∧ t.ledger.nextInvoice = u.ledger.nextInvoice ∧
      t.ledger.tariff = u.ledger.tariff ∧ t.ledger.journal.lines = u.ledger.journal.lines ∧
      t.ledger.journal.lastWritten = u.ledger.journal.lastWritten ∧
      (∀ n, (t.lot n).map (fun l => (l.packsSold, l.packsRemaining)) =
        (u.lot n).map fun l => (l.packsSold, l.packsRemaining)) ∧
      t.hlp = s.hlp ∧ t.bus = s.bus ∧ t.lanes = s.lanes ∧ t.hall = s.hall ∧ t.timebase = s.timebase ∧
      (∀ c, t.clock c = { s.clock c with reservation := (t.clock c).reservation }) ∧
      ∀ backup, exec (.powerOn backup) s = exec (.powerOn backup) t ∧
        ∀ e, s.hall.mainReturns = some e →
          exec (.mainSupplyReturn backup) s = exec (.mainSupplyReturn backup) t) ∧
  (∀ (tag : Byte) (op : Operation) (s : State), Ready s → s.ledger.arbiter.inProgress = some op →
    exec (.controllerReset tag) s = .next { dropWaiting (framed s) with hlp := { (framed s).hlp with
      resetting := some (.waiting tag) } }) ∧
  (∀ (tag : Byte) (op : Operation) (s : State), s.hall.main = .present →
    s.hlp.resetting = some (.waiting tag) → s.ledger.arbiter.inProgress = some op →
    ∃ t own, exec (completionOf op) s = .next t ∧ t.ledger.arbiter.inProgress = none ∧
      t.hlp.resetting = some .replying ∧
      t.hlp.replies = s.hlp.replies ++ own ++
        [{ tag := tag, kind := 169, status := .ok, body := .empty, after := .warmStart }] ∧
      (∀ c r a, op = .commit c r a → own = []) ∧
      (∀ mark r line v, op = .host mark r line v →
        ∃ st body, own = [plainReply mark (128 + r.kind) st body]))

/-- R154 and R155, with R147 and R64 to R66 for a LOADED clock that waits for the rise. The counting of fields in a
BAD_FIELD reply is DEDUCED (log entry 7), as is the free space answered before a grant that follows (log entry 38). What
the reply that frees 0 lines carries (log entry 50), the time an expiry falls at, and timers kept as end times (log entry
2), are the model's own. -/
def Obligations.JournalReadAndReleased : Prop :=
  ∀ (tag : Byte) (n count : Nat) (s : State), Ready s →
    (journalReadFault n count = none → s.ledger.journal.lastReleased < n →
      exec (.journalRead tag n count) s = .next (replied tag 157 .ok
        (.journal ((s.ledger.journal.lines.filter fun l => n ≤ l.sequence).take count) (journalFigures s))
        (framed s))) ∧
    (journalReadFault n count = none → n ≤ s.ledger.journal.lastReleased →
      exec (.journalRead tag n count) s =
        .next (replied tag 157 .notFound (.journal [] (journalFigures s)) (framed s))) ∧
    (∀ pos, journalReadFault n count = some pos →
      exec (.journalRead tag n count) s =
        .next (replied tag 157 .badField (.journalField pos (journalFigures s)) (framed s))) ∧
    (n = 0 ∨ s.ledger.journal.lastWritten < n →
      exec (.journalRelease tag n) s = .next (replied tag 158 .badField (.field 1) (framed s))) ∧
    (n ≠ 0 → n ≤ s.ledger.journal.lastWritten → n ≤ s.ledger.journal.lastReleased →
      exec (.journalRelease tag n) s = .next (replied tag 158 .ok
        (.linesFreed 0 s.ledger.journal.lastReleased (freeSpace s)) (framed s))) ∧
    (n ≤ s.ledger.journal.lastWritten → s.ledger.journal.lastReleased < n →
      (∀ c, (s.clock c).state ≠ .loaded .new ∧ (s.clock c).state ≠ .loaded .restart) →
      exec (.journalRelease tag n) s = .next (replied tag 158 .ok
        (.linesFreed (n - s.ledger.journal.lastReleased) n
          (8192 - (s.ledger.journal.lastWritten - n) - reservationsHeld s))
        ((framed s).setJournal { s.ledger.journal with
          lines := s.ledger.journal.lines.filter fun l => n < l.sequence, lastReleased := n }))) ∧
    (∀ (c : ClockId) (ran : Clock), n ≤ s.ledger.journal.lastWritten → s.ledger.journal.lastReleased < n →
      (s.clock c).asked = true → (s.clock c).reservation = false →
      (∀ d, d ≠ c → (s.clock d).state ≠ .loaded .new ∧ (s.clock d).state ≠ .loaded .restart) →
      dayCloseRuns s = false → s.ledger.journal.lastWritten - n + reservationsHeld s < 8192 →
      s.ledger.journal.lastWritten + reservationsHeld s < 4294967295 →
      ran = { s.clock c with
        state := .running, k := 0, reservation := true, asked := false,
        stepTimer := .running (s.timebase + periodOf (s.clock c).params 0) } →
      ∃ t, exec (.journalRelease tag n) s = .next t ∧ t.ledger.journal.lastReleased = n ∧
        t.ledger.journal.lines = s.ledger.journal.lines.filter (fun l => n < l.sequence) ∧
        t.hlp.replies[s.hlp.replies.length]? = some (plainReply tag 158 .ok
          (.linesFreed (n - s.ledger.journal.lastReleased) n
            (8192 - (s.ledger.journal.lastWritten - n) - reservationsHeld s))) ∧
        (∀ d, d ≠ c → t.clock d = s.clock d) ∧ t.lots = s.lots ∧ t.lanes = s.lanes ∧
        t.ledger.buyers = s.ledger.buyers ∧ t.hall = s.hall ∧
        ((s.clock c).state = .loaded .new → (s.clock c).previewEnds = none → s.hall.key = .sale →
          (s.board c).online = true → s.hall.timeSet = true → t.clock c = ran) ∧
        ((s.clock c).state = .loaded .new →
          ((s.clock c).previewEnds ≠ none ∨ s.hall.key ≠ .sale ∨ (s.board c).online = false ∨
            s.hall.timeSet = false) → t.clock c = s.clock c) ∧
        ((s.clock c).state = .loaded .restart → (s.clock c).holdPending = none →
          (s.hall.key = .sale → (s.board c).online = true → s.hall.timeSet = true → t.clock c = ran) ∧
          ((s.hall.key ≠ .sale ∨ (s.board c).online = false ∨ s.hall.timeSet = false) →
            t.clock c = { s.clock c with reservation := true, asked := false })))

/-- R172, R169, R176 and R177; R174 and R175. The time an expiry falls at, and timers kept as end times, are the model's
own (log entry 2), as is an answer of before a start that carries the number awaited (log entry 51); keep-alive time is
counted in whole ms (log entry 21). The counting of fields in a BAD_FIELD reply is DEDUCED (log entry 7). -/
def Obligations.BoardWindowsAndAnswers : Prop :=
  (∀ (c : ClockId) (now : Nat) (s : State), s.hall.main = .present → now = max s.timebase (s.board c).windowAt →
    ((s.board c).online = true → (s.board c).activity = .idle →
      ((s.board c).snapshotChanged = true ∨ (s.board c).builtAt + 1000000 ≤ now) →
      exec (.refreshWindow c) s = .next ((s.reach (s.board c).windowAt).setBoard c { s.board c with
        windowAt := (s.board c).windowAt + (s.board c).period * 1000,
        frameNumber := ((s.board c).frameNumber + 1) % 256, snapshotChanged := false, builtAt := now,
        framesSent := countUp 65535 (s.board c).framesSent,
        activity := .sending (.display (((s.board c).frameNumber + 1) % 256) (pictureOf s c)) })) ∧
    ((s.board c).online = true → (s.board c).snapshotChanged = false → now < (s.board c).builtAt + 1000000 →
      exec (.refreshWindow c) s = .next ((s.reach (s.board c).windowAt).setBoard c { s.board c with
        windowAt := (s.board c).windowAt + (s.board c).period * 1000 })) ∧
    ((s.board c).online = false → (s.board c).activity = .idle →
      exec (.refreshWindow c) s = .next ((s.reach (s.board c).windowAt).setBoard c { s.board c with
        windowAt := (s.board c).windowAt + (s.board c).period * 1000,
        frameNumber := ((s.board c).frameNumber + 1) % 256,
        activity := .sending (.probe (((s.board c).frameNumber + 1) % 256)) })) ∧
    ((s.board c).online = true → (s.board c).activity ≠ .idle →
      ((s.board c).snapshotChanged = true ∨ (s.board c).builtAt + 1000000 ≤ now) →
      exec (.refreshWindow c) s = .next ((s.reach (s.board c).windowAt).setBoard c { s.board c with
        windowAt := (s.board c).windowAt + (s.board c).period * 1000, updatePending := true })) ∧
    (∀ tag n period, Ready s → clockNumbered n = some c → period < 20 ∨ 200 < period →
      exec (.boardSet tag n period) s = .next (replied tag 159 .badField (.field 2) (framed s))) ∧
    (∀ tag n period, Ready s → clockNumbered n = some c → 20 ≤ period → period ≤ 200 →
      exec (.boardSet tag n period) s = .next (replied tag 159 .ok .empty ((framed s).setBoard c
        { s.board c with period := period, windowAt := s.timebase + period * 1000 })))) ∧
  (∀ (c : ClockId) (f : BoardFrame) (s : State), s.hall.main = .present →
    ((s.board c).activity = .sending f →
      exec (.boardTransmitEnd c) s = .next (s.setBoard c { s.board c with
        activity := .awaiting f (s.timebase + 10000) })) ∧
    exec (.boardAnswerBad c) s = .next (s.setBoard c { s.board c with
      badAnswers := countUp 65535 (s.board c).badAnswers }) ∧
    (∀ e, (s.board c).activity = .awaiting f e → (s.board c).online = true → (s.board c).updatePending = false →
      exec (.boardAnswerGood c f.number) s = .next (s.setBoard c { s.board c with misses := 0, activity := .idle }) ∧
      (∀ m, m ≠ f.number → exec (.boardAnswerGood c m) s = .next (s.setBoard c { s.board c with
        badAnswers := countUp 65535 (s.board c).badAnswers })) ∧
      ((s.board c).misses < 2 → exec (.boardAnswerTimeout c) s =
        .next ((s.reach e).setBoard c { s.board c with
          missCount := countUp 65535 (s.board c).missCount, misses := (s.board c).misses + 1,
          activity := .idle }))) ∧
    (∀ e, (s.board c).activity = .awaiting f e → (s.board c).online = true → (s.board c).updatePending = true →
      exec (.boardAnswerGood c f.number) s = .next (s.setBoard c { s.board c with
        misses := 0, updatePending := false, frameNumber := ((s.board c).frameNumber + 1) % 256,
        snapshotChanged := false, builtAt := s.timebase, framesSent := countUp 65535 (s.board c).framesSent,
        activity := .sending (.display (((s.board c).frameNumber + 1) % 256) (pictureOf s c)) }) ∧
      ((s.board c).misses < 2 → exec (.boardAnswerTimeout c) s =
        .next ((s.reach e).setBoard c { s.board c with
          missCount := countUp 65535 (s.board c).missCount, misses := (s.board c).misses + 1, updatePending := false,
          frameNumber := ((s.board c).frameNumber + 1) % 256, snapshotChanged := false,
          builtAt := max s.timebase e, framesSent := countUp 65535 (s.board c).framesSent,
          activity := .sending (.display (((s.board c).frameNumber + 1) % 256) (pictureOf s c)) }))))

/-- R175, R176 and R72, with R63 to R66 for a LOADED clock told of its board's return. The halted time is DEDUCED (log entry
23). Timers kept as end times (log entry 2), and an answer of before a start that carries the number awaited (log entry 51),
are the model's own. -/
def Obligations.BoardLostAndFound : Prop :=
  ∀ (c : ClockId) (e : Nat) (f : BoardFrame) (s : State), s.hall.main = .present →
    (s.board c).activity = .awaiting f e →
    ((s.board c).online = true → (s.board c).misses = 2 → (s.clock c).state = .running →
      ∃ t, exec (.boardAnswerTimeout c) s = .next t ∧ (t.board c).online = false ∧
        (t.board c).updatePending = false ∧ (t.board c).snapshotChanged = true ∧ (t.board c).activity = .idle ∧
        t.clocks = (s.setClock c { s.clock c with
          state := .held, stepTimer := .halted (periodOf (s.clock c).params (s.clock c).k),
          holdPending := none }).clocks ∧
        (∀ d, d ≠ c → t.board d = s.board d) ∧ t.lots = s.lots ∧ t.lanes = s.lanes ∧ t.ledger = s.ledger ∧
        t.bus = s.bus ∧ t.hall = s.hall) ∧
    ((s.board c).online = false → (s.clock c).state = .held →
      ∃ t, exec (.boardAnswerGood c f.number) s = .next t ∧ (t.board c).online = true ∧ (t.board c).misses = 0 ∧
        (t.board c).activity =
          .sending (.display (((s.board c).frameNumber + 1) % 256) (pictureOf s c)) ∧
        t.clocks = s.clocks ∧ (∀ d, d ≠ c → t.board d = s.board d) ∧ t.lots = s.lots ∧ t.lanes = s.lanes ∧
        t.ledger = s.ledger ∧ t.bus = s.bus ∧ t.hall = s.hall) ∧
    (∀ ran : Clock, (s.board c).online = false →
      ran = { s.clock c with
        state := .running, k := 0, reservation := true, asked := false,
        stepTimer := .running (s.timebase + periodOf (s.clock c).params 0) } →
      ∃ t, exec (.boardAnswerGood c f.number) s = .next t ∧ (t.board c).online = true ∧
        (t.board c).activity = .sending (.display (((s.board c).frameNumber + 1) % 256) (pictureOf s c)) ∧
        ((s.clock c).state = .loaded .new → (s.clock c).previewEnds = none → s.hall.key = .sale →
          s.hall.timeSet = true → s.hlp.link = .linked → dayCloseRuns s = false → grantable s = true →
          t.clocks = (s.setClock c ran).clocks ∧ (t.board c).snapshotChanged = true) ∧
        ((s.clock c).state = .loaded .restart → (s.clock c).reservation = true → (s.clock c).holdPending = none →
          s.hall.key = .sale → s.hall.timeSet = true →
          t.clocks = (s.setClock c ran).clocks ∧ (t.board c).snapshotChanged = true) ∧
        ((s.clock c).state = .loaded .new →
          ((s.clock c).previewEnds ≠ none ∨ s.hall.key ≠ .sale ∨ s.hall.timeSet = false ∨ s.hlp.link ≠ .linked) →
          t.clocks = s.clocks) ∧
        ((s.clock c).state = .loaded .restart →
          ((s.clock c).reservation = false ∨
            ((s.clock c).holdPending = none ∧ (s.hall.key ≠ .sale ∨ s.hall.timeSet = false))) →
          t.clocks = s.clocks))

/-- R185, R184 and R188. The time an expiry falls at, and timers kept as end times, are the model's own (log entry
2). The counting of fields is DEDUCED (log entry 7). -/
def Obligations.HallTimeSet : Prop :=
  ∀ (tag : Byte) (x : Stamp) (a : Alarm) (s : State), Ready s →
    (s.hall.key ≠ .setup → exec (.hallTimeSet tag x) s = .next (replied tag 161 .key .empty (framed s)) ∧
      exec (.closeAlarmSet tag a) s = .next (replied tag 163 .key .empty (framed s))) ∧
    (s.hall.key = .setup → timeFault x = none → (∀ c, (s.clock c).state = .idle) →
      exec (.hallTimeSet tag x) s = .next (replied tag 161 .ok (.timeChanged s.hall.calendar s.hall.timeSet x)
        { framed s with hall := { s.hall with
            calendar := x, timeSet := true, nextAdvance := s.timebase + 10000 } })) ∧
    (∀ pos, s.hall.key = .setup → timeFault x = some pos → (∀ c, (s.clock c).state = .idle) →
      exec (.hallTimeSet tag x) s = .next (replied tag 161 .badField (.field pos)
        { framed s with hall := { s.hall with timeSet := false } })) ∧
    (s.hall.key = .setup → 23 < a.hour →
      exec (.closeAlarmSet tag a) s = .next (replied tag 163 .badField (.field 1) (framed s))) ∧
    (s.hall.key = .setup → a.hour ≤ 23 → 59 < a.minute →
      exec (.closeAlarmSet tag a) s = .next (replied tag 163 .badField (.field 3) (framed s))) ∧
    (s.hall.key = .setup → a.hour ≤ 23 → a.minute ≤ 59 →
      exec (.closeAlarmSet tag a) s = .next (replied tag 163 .ok (.alarm a)
        { framed s with hall := { s.hall with alarm := a } }))

/-- R183, R184 and R187. The time an expiry falls at, and timers kept as end times, are the model's own (log entry 2).
That time-set is cleared before the alarm is tested at the end of 2099 is the model's (log entry 45); a held clock's
halted time is DEDUCED (log entry 23). -/
def Obligations.CalendarAdvances : Prop :=
  (∀ (s : State) (t x : Stamp), s.hall.calendar = t →
    ((t.hundredth < 99 ∧ x = { t with hundredth := t.hundredth + 1 }) ∨
      (t.hundredth = 99 ∧ t.second < 59 ∧ x = { t with hundredth := 0, second := t.second + 1 }) ∨
      (CarriesTo t x ∧
        (s.hall.main = .failed ∨ s.hall.timeSet = false ∨ ¬ AlarmMeets s.hall.alarm x))) →
    exec .calendarAdvance s = .next { s.reach s.hall.nextAdvance with
      hall := { s.hall with calendar := x, nextAdvance := s.hall.nextAdvance + 10000 } }) ∧
  (∀ s : State, s.hall.calendar =
      { year := 2099, month := 12, day := 31, hour := 23, minute := 59, second := 59, hundredth := 99 } →
    ∃ t, exec .calendarAdvance s = .next t ∧ t.timebase = max s.timebase s.hall.nextAdvance ∧
      t.hall = { s.hall with
        calendar := { year := 2000, month := 1, day := 1, hour := 0, minute := 0, second := 0, hundredth := 0 },
        timeSet := false, nextAdvance := s.hall.nextAdvance + 10000 } ∧
      (s.hall.main = .failed ∨ s.hall.timeSet = false → t.clocks = s.clocks ∧ t.hlp = s.hlp) ∧
      (s.hall.main = .present → s.hall.timeSet = true → ∀ c,
        ((s.clock c).state = .running → t.clock c = { s.clock c with
          state := .held, stepTimer := .halted (periodOf (s.clock c).params (s.clock c).k), holdPending := none }) ∧
        ((s.clock c).state = .stopping ∨ (s.clock c).state = .deciding ∨ (s.clock c).state = .sold →
          t.clock c = { s.clock c with holdPending := some ((s.clock c).holdPending.getD .timeNotSet) }) ∧
        ((s.clock c).state = .idle ∨ (s.clock c).state = .loaded .new ∨ (s.clock c).state = .loaded .restart ∨
          (s.clock c).state = .held ∨ (s.clock c).state = .closed → t.clock c = s.clock c)) ∧
      t.lots = s.lots ∧ t.lanes = s.lanes ∧ t.ledger = s.ledger ∧ t.bus = s.bus) ∧
  (∀ s : State, ∃ t, exec .calendarAdvance s = .next t ∧
    t.hall.nextAdvance = s.hall.nextAdvance + 10000 ∧ t.timebase = max s.timebase s.hall.nextAdvance)

/-- R189 and R72, with R63 to R66 for a change into SALE. A qualified change as a command of its own is the model's (log
entry 10), as are timers kept as end times (log entry 2) and the order of the reports of one event (log entry 49). The
halted time is DEDUCED (log entry 23). -/
def Obligations.KeyQualified : Prop :=
  ∀ s : State, s.hall.main = .present →
    (∀ a b, sampledKey a b = s.hall.key →
      exec (.keySample a b) s = .next { s with hall := { s.hall with keyRaw := s.hall.key, keyCounter := 0 } }) ∧
    (∀ a b, sampledKey a b ≠ s.hall.key → sampledKey a b ≠ s.hall.keyRaw →
      exec (.keySample a b) s =
        .next { s with hall := { s.hall with keyRaw := sampledKey a b, keyCounter := 1 } }) ∧
    (∀ a b, sampledKey a b ≠ s.hall.key → sampledKey a b = s.hall.keyRaw → s.hall.keyCounter < 19 →
      exec (.keySample a b) s =
        .next { s with hall := { s.hall with keyCounter := s.hall.keyCounter + 1 } }) ∧
    (∀ a b, sampledKey a b ≠ s.hall.key → sampledKey a b = s.hall.keyRaw → s.hall.keyCounter = 19 →
      exec (.keySample a b) s = exec (.keyQualifiedChange (sampledKey a b)) s) ∧
    (∀ p, s.hall.key = .sale → p ≠ .sale → ∃ t, exec (.keyQualifiedChange p) s = .next t ∧
      t.hall = { s.hall with key := p, keyRaw := p, keyCounter := 0 } ∧
      (∀ c, (s.clock c).state = .running → t.clock c = { s.clock c with
        state := .held, stepTimer := .halted (periodOf (s.clock c).params (s.clock c).k), holdPending := none }) ∧
      (∀ c, ((s.clock c).state = .stopping ∨ (s.clock c).state = .deciding ∨ (s.clock c).state = .sold) →
        t.clock c = { s.clock c with holdPending := some ((s.clock c).holdPending.getD .key) }) ∧
      (∀ c, ((s.clock c).state = .idle ∨ (s.clock c).state = .loaded .new ∨ (s.clock c).state = .loaded .restart ∨
          (s.clock c).state = .held ∨ (s.clock c).state = .closed) →
        t.clock c = s.clock c) ∧
      t.lots = s.lots ∧ t.lanes = s.lanes ∧ t.ledger = s.ledger ∧ t.bus = s.bus) ∧
    (∀ p, s.hall.key ≠ .sale → p ≠ .sale → p ≠ s.hall.key →
      exec (.keyQualifiedChange p) s = .next (raise (.key s.hall.key p s.hall.calendar)
        { s with hall := { s.hall with key := p, keyRaw := p, keyCounter := 0 } })) ∧
    (s.hall.key ≠ .sale → ∃ t, exec (.keyQualifiedChange .sale) s = .next t ∧
      t.hall = { s.hall with key := .sale, keyRaw := .sale, keyCounter := 0 } ∧
      (s.hlp.enables.equipment = true → s.hlp.reports.length < 64 →
        t.hlp.reports[s.hlp.reports.length]?.map Report.body = some (.key s.hall.key .sale s.hall.calendar)) ∧
      (∀ c, (s.clock c).state ≠ .loaded .new → (s.clock c).state ≠ .loaded .restart → t.clock c = s.clock c) ∧
      (∀ c, ((s.clock c).state = .loaded .new ∨
            ((s.clock c).state = .loaded .restart ∧ (s.clock c).holdPending = none)) →
          (s.board c).online = false ∨ s.hall.timeSet = false → t.clock c = s.clock c) ∧
      (∀ c, (s.clock c).state = .loaded .new → (s.clock c).previewEnds ≠ none ∨ s.hlp.link ≠ .linked →
        t.clock c = s.clock c) ∧
      (∀ c, (s.clock c).state = .loaded .restart → (s.clock c).reservation = false → t.clock c = s.clock c) ∧
      (∀ c, (s.clock c).state = .loaded .restart → (s.clock c).reservation = true → (s.clock c).holdPending = none →
        (s.board c).online = true → s.hall.timeSet = true →
        t.clock c = { s.clock c with
          state := .running, k := 0, asked := false,
          stepTimer := .running (s.timebase + periodOf (s.clock c).params 0) }) ∧
      (∀ c, (s.clock c).state = .loaded .new → (s.clock c).previewEnds = none → (s.board c).online = true →
        s.hall.timeSet = true → s.hlp.link = .linked → dayCloseRuns s = false → grantable s = true →
        (∀ d, d ≠ c → (s.clock d).state ≠ .loaded .new) →
        t.clock c = { s.clock c with
          state := .running, k := 0, reservation := true, asked := false,
          stepTimer := .running (s.timebase + periodOf (s.clock c).params 0) }) ∧
      t.lots = s.lots ∧ t.lanes = s.lanes ∧ t.boards.map Board.online = s.boards.map Board.online)

/-- R190, R191, R145, R85 and R203. The time an expiry falls at, and timers kept as end times, are the model's own
(log entry 2), as is the state left by a change of the backup to what it is (log entry 9). What a fail leaves of the timers
is DEDUCED (log entry 36), and that a change of the backup while FAILED leaves the BACKUP_LOW flag (log entry 22). -/
def Obligations.SupplyEvents : Prop :=
  ∀ s : State,
    (s.hall.main = .present → ∃ t, exec .mainSupplyFail s = .next t ∧
      exec .mainSupplyBelowThreshold s = .next t ∧
      t.hall = { s.hall with
        main := .failed, mainReturns := none,
        failStamp := some { stamp := s.hall.calendar, timeSet := s.hall.timeSet } } ∧
      t.lots = s.lots ∧ t.ledger.buyers = s.ledger.buyers ∧ t.ledger.invoices = s.ledger.invoices ∧
      t.ledger.journal = s.ledger.journal ∧ t.ledger.arbiter.inProgress = s.ledger.arbiter.inProgress ∧
      NothingWaits t ∧ t.hlp.replies = [] ∧ t.hlp.held = none ∧ t.hlp.attention = false ∧
      t.hlp.supervisionEnds = none ∧ t.hlp.receiver = .hunting ∧
      ∀ c, t.clock c = { s.clock c with
        stepTimer := .stopped, previewEnds := none, pauseEnds := none, windowEnds := none }) ∧
    (s.hall.main = .failed → s.hall.mainReturns = none →
      exec .mainSupplyAboveThreshold s =
        .next { s with hall := { s.hall with mainReturns := some (s.timebase + 200000) } }) ∧
    (s.hall.main = .failed →
      exec .mainSupplyBelowThreshold s = .next { s with hall := { s.hall with mainReturns := none } }) ∧
    (s.hall.main = .failed → s.hall.backup = .ok →
      exec (.backupChange .low) s =
        .next { s with hall := { s.hall with backup := .low, retainedValid := false } }) ∧
    (s.hall.main = .present → s.hall.backup = .ok →
      exec (.backupChange .low) s = .next (raise (.backupLow .low)
        { s with hall := { s.hall with backup := .low, backupFlag := true } })) ∧
    (s.hall.main = .failed → s.hall.backup = .low →
      exec (.backupChange .ok) s = .next { s with hall := { s.hall with backup := .ok } }) ∧
    (s.hall.main = .present → s.hall.backup = .low →
      exec (.backupChange .ok) s = .next (raise (.backupLow .ok)
        { s with hall := { s.hall with backup := .ok, backupFlag := false } })) ∧
    exec (.backupChange s.hall.backup) s = .next s

/-- R192, R193, R202, R17, R39, R84, R106, R144, R166, R180 and R203. The time an expiry falls at, and timers kept as end
times, are the model's own (log entry 2). The backup reading is an operand (log entry 14). That a power-on which finds the
main supply FAILED is also a main return (log entry 11), and that the probe of a start is on the link at once (log entry
13), is the model's reading. -/
def Obligations.WarmStarts : Prop :=
  ∀ (backup : BackupSupply) (s : State),
    (∀ e, s.hall.main = .failed → s.hall.mainReturns = some e → s.hall.retainedValid = true →
      s.ledger.arbiter.inProgress = none →
      ∃ t, exec (.mainSupplyReturn backup) s = .next t ∧ t.timebase = max s.timebase e ∧
        t.hall.lastStart = .warmSupply ∧ t.hall.backup = backup ∧ WarmFrom s t ∧
        (t.hlp.reports.head?.map Report.body) =
          some (.mainFail s.hall.failStamp s.hall.calendar s.hall.timeSet)) ∧
    (s.hall.retainedValid = true → s.ledger.arbiter.inProgress = none →
      ∃ t, exec (.powerOn backup) s = .next t ∧ t.timebase = s.timebase ∧ t.hall.lastStart = .warmSupply ∧
        t.hall.backup = backup ∧ WarmFrom s t ∧
        (s.hall.main = .failed → (t.hlp.reports.head?.map Report.body) =
          some (.mainFail s.hall.failStamp s.hall.calendar s.hall.timeSet)) ∧
        (s.hall.main = .present →
          ∀ x ∈ t.hlp.reports, ∀ failed returned timeSet, x.body ≠ .mainFail failed returned timeSet)) ∧
    (∀ e, s.hall.main = .failed → s.hall.mainReturns = some e → s.hall.retainedValid = false →
      ∃ t, exec (.mainSupplyReturn backup) s = .next t ∧ exec (.powerOn backup) (s.reach e) = .next t ∧
        t.timebase = max s.timebase e ∧ t.hall.main = .present ∧ t.hall.lastStart = .cold ∧
        t.hall.retainedValid = true ∧ t.hall.failStamp = none ∧ t.hall.timeSet = false ∧ t.hall.backup = backup ∧
        ∀ x ∈ t.hlp.reports, x.body = .backupLow .low) ∧
    (s.hall.retainedValid = false → ∃ t, exec (.powerOn backup) s = .next t ∧ t.hall.lastStart = .cold ∧
      t.timebase = s.timebase ∧ BoardsStarted t) ∧
    (∀ r rest, s.hall.main = .present → s.hlp.replies = r :: rest → r.after = .warmStart →
      s.ledger.arbiter.inProgress = none →
      ∃ t, exec (.replySent backup) s = .next t ∧ t.timebase = s.timebase ∧ t.hall.lastStart = .warmReset ∧
        t.hall.backup = backup ∧ WarmFrom s t ∧
        ∀ x ∈ t.hlp.reports, ∀ failed returned timeSet, x.body ≠ .mainFail failed returned timeSet)

/-- R199; R200, R196, R201 and R202. The time an expiry falls at, and timers kept as end times, are the model's own
(log entry 2). The revision code is a free value (log entry 1); the rate on the line is held apart from the stored
rate (log entry 30). The counting of fields in a BAD_FIELD reply is DEDUCED (log entry 7). -/
def Obligations.LinkRequests : Prop :=
  (∀ (tag : Byte) (n : Nat) (en : ClassEnables) (s : State), Ready s →
    (1 ≤ n → n ≤ 8 →
      exec (.reportTake tag n) s = .next (replied tag 164 .ok
        (.reports s.hlp.lostCount (s.hlp.reports.drop n).length (s.hlp.reports.take n))
        { framed s with hlp := { (framed s).hlp with
            reports := s.hlp.reports.drop n, lostCount := 0,
            attention := attentionOf s.hlp.enables (s.hlp.reports.drop n) } })) ∧
    (n = 0 ∨ 8 < n → exec (.reportTake tag n) s = .next (replied tag 164 .badField (.field 1) (framed s))) ∧
    exec (.reportEnable tag en) s = .next (replied tag 165 .ok (.enables s.hlp.enables)
      { framed s with hlp := { (framed s).hlp with enables := en, attention := attentionOf en s.hlp.reports } })) ∧
  (∀ (tag : Byte) (s : State), Ready s →
    exec (.identify tag) s = .next (replied tag 129 .ok (.identity
      { name := "Stavik 440", revision := Config.revisionCode,
        capacities := { lots := 1024, lanes := 4, trainsPerLane := 8, trolleysPerTrain := 24, lotsPerTrolley := 4,
                        clocks := 4, rows := 30, desks := 480, buyers := 2048, feeClasses := 8, invoices := 4096,
                        journalLines := 8192, reports := 64 },
        linkRate := s.hlp.linkRate, supervision := s.hlp.supervision, lastStart := s.hall.lastStart }) (framed s)) ∧
    (∃ y t, exec (.statsRead tag) s = .next (replied tag 166 .ok (.stats y) (framed s)) ∧
      exec (.statsClear tag) s = .next (replied tag 167 .ok (.stats y) t) ∧
      (∀ c, y.strays.get c = (s.lane c).strays ∧ t.lane c = { s.lane c with strays := 0 }) ∧
      (∀ r, y.rows.get r =
          { framesGood := (s.row r).framesGood, framesBad := (s.row r).framesBad,
            pressesLate := (s.row r).pressesLate, pressesRefused := (s.row r).pressesRefused,
            missCount := (s.row r).missCount } ∧
        t.row r = { s.row r with
          framesGood := 0, framesBad := 0, pressesLate := 0, pressesRefused := 0, missCount := 0 }) ∧
      y.ticksSent = s.bus.ticksSent ∧ t.bus.ticksSent = 0 ∧
      y.ticksDropped = s.bus.ticksDropped ∧ t.bus.ticksDropped = 0 ∧
      (∀ c, y.boards.get c =
          { missCount := (s.board c).missCount, framesSent := (s.board c).framesSent,
            badAnswers := (s.board c).badAnswers } ∧
        t.board c = { s.board c with missCount := 0, framesSent := 0, badAnswers := 0 }) ∧
      y.ledger = s.ledger.counters ∧
      t.ledger = { s.ledger with
        counters := { accepted := 0, cut := 0, notSigned := 0, blocked := 0, notPermitted := 0, invoiceFull := 0,
                      credit := 0, busy := 0 } } ∧
      y.framesGood = countUp 65535 s.hlp.framesGood ∧ y.framesBad = s.hlp.framesBad ∧
      y.overruns = s.hlp.overruns ∧
      t.hlp = { (framed s).hlp with framesGood := 0, framesBad := 0, overruns := 0 } ∧
      t.clocks = s.clocks ∧ t.lots = s.lots ∧ t.hall = s.hall ∧ t.bus.ticks = s.bus.ticks ∧
      t.bus.activity = s.bus.activity) ∧
    exec (.unknownRequest tag) s = .next (replied tag 255 .unknownRequest .empty (framed s)) ∧
    (∀ rate x, s.hall.key = .setup → (rate = 115200 ∨ rate = 230400 ∨ rate = 460800 ∨ rate = 921600) →
      exec (.linkSet tag rate (some x)) s = .next { framed s with hlp := { (framed s).hlp with
        linkRate := rate, supervision := x, supervisionEnds := (supervisionTime x).map (s.timebase + ·),
        replies := s.hlp.replies ++
          [{ tag := tag, kind := 168, status := .ok, body := .empty, after := .newRate rate }] } }) ∧
    (∀ rate x, s.hall.key ≠ .setup →
      exec (.linkSet tag rate x) s = .next (replied tag 168 .key .empty (framed s))) ∧
    (∀ rate x, s.hall.key = .setup → goodRate rate = false →
      exec (.linkSet tag rate x) s = .next (replied tag 168 .badField (.field 1) (framed s))) ∧
    (∀ rate, s.hall.key = .setup → goodRate rate = true →
      exec (.linkSet tag rate none) s = .next (replied tag 168 .badField (.field 2) (framed s))) ∧
    (s.ledger.arbiter.inProgress = none →
      exec (.controllerReset tag) s = .next { dropWaiting (framed s) with hlp := { (framed s).hlp with
        resetting := some .replying,
        replies := s.hlp.replies ++
          [{ tag := tag, kind := 169, status := .ok, body := .empty, after := .warmStart }] } }))

/-- R195, R196 and R197. The time an expiry falls at, and timers kept as end times, are the model's own (log entry 2). A
request command is its whole frame, and START_BYTE_RECEIVED carries the bytes of the line (log entry 12); the fields of a
body are read by a free function (log entry 48). The places counted are DEDUCED (log entry 16). -/
def Obligations.FramesReceived : Prop :=
  ∀ s : State, s.hall.main = .present →
    (∀ why, (why = .stopBitError ∨ (∃ n, 512 < n ∧ why = .oversizeLength n) ∨
        ∃ frame, readHostFrame frame = none ∧ why = .checkFailed frame) →
      exec (.frameBad why) s = .next { s with hlp := { s.hlp with
        framesBad := countUp 65535 s.hlp.framesBad, receiver := .hunting } }) ∧
    (s.hlp.receiver = .hunting →
      (∀ b : LineByte, b.value ≠ 0xA5 → exec (.startByteReceived [b]) s = .next s) ∧
      (∀ spoiled, exec (.startByteReceived [{ value := 0xA5, stopError := spoiled }]) s =
        .next { s with hlp := { s.hlp with receiver := .receiving [0xA5] spoiled (s.timebase + 1000) } }) ∧
      (∀ more : List Byte, more.length < 2 →
        exec (.startByteReceived (clean (0xA5 :: more))) s = .next { s with hlp := { s.hlp with
          receiver := .receiving (0xA5 :: more) false (s.timebase + 1000) } }) ∧
      (∀ (hi lo : Byte) (more : List Byte), hi.toNat * 256 + lo.toNat ≤ 512 →
        more.length < hi.toNat * 256 + lo.toNat + 4 →
        exec (.startByteReceived (clean (0xA5 :: hi :: lo :: more))) s = .next { s with hlp := { s.hlp with
          receiver := .receiving (0xA5 :: hi :: lo :: more) false (s.timebase + 1000) } }) ∧
      (∀ hi lo : Byte, 512 < hi.toNat * 256 + lo.toNat →
        exec (.startByteReceived (clean [0xA5, hi, lo])) s = .next { s with hlp := { s.hlp with
          framesBad := countUp 65535 s.hlp.framesBad, receiver := .hunting } }) ∧
      (∀ f : HostFrame, f.kind < 256 → f.body.length ≤ 512 →
        exec (.startByteReceived (clean (writeHostFrame f))) s =
          exec (requestCommand f.tag (requestOf f.kind f.body)) s) ∧
      (∀ (f : HostFrame) (l : List LineByte), f.kind < 256 → f.body.length ≤ 512 →
        l.map LineByte.value = writeHostFrame f → (∃ b ∈ l, b.stopError = true) →
        exec (.startByteReceived l) s = .next { s with hlp := { s.hlp with
          framesBad := countUp 65535 s.hlp.framesBad, receiver := .hunting } })) ∧
    (∀ bytes spoiled e, s.hlp.receiver = .receiving bytes spoiled e →
      exec .receiverIdleTimeout s = .next { s.reach e with hlp := { s.hlp with
        framesBad := countUp 65535 s.hlp.framesBad, receiver := .hunting } } ∧
      (e ≤ s.timebase → .receiverIdleTimeout ∈ dueCommands s) ∧
      (∀ (b : LineByte) (hi lo : Byte) (more : List Byte), bytes = 0xA5 :: hi :: lo :: more →
        hi.toNat * 256 + lo.toNat ≤ 512 → more.length + 1 < hi.toNat * 256 + lo.toNat + 4 →
        exec (.startByteReceived [b]) s = .next { s with hlp := { s.hlp with
          receiver := .receiving (bytes ++ [b.value]) (spoiled || b.stopError) (s.timebase + 1000) } }) ∧
      (∀ (b : LineByte) (f : HostFrame), f.kind < 256 → f.body.length ≤ 512 →
        bytes ++ [b.value] = writeHostFrame f →
        ((spoiled || b.stopError) = false →
          exec (.startByteReceived [b]) s = exec (requestCommand f.tag (requestOf f.kind f.body)) s) ∧
        ((spoiled || b.stopError) = true →
          exec (.startByteReceived [b]) s = .next { s with hlp := { s.hlp with
            framesBad := countUp 65535 s.hlp.framesBad, receiver := .hunting } }))) ∧
    (∀ h, s.hlp.held = some h → s.hlp.link = .linked →
      exec .frameOverrun s = .next { framed s with hlp := { (framed s).hlp with
        overruns := countUp 65535 s.hlp.overruns } } ∧
      ∀ tag r, exec (requestCommand tag r) s = .next { framed s with hlp := { (framed s).hlp with
        overruns := countUp 65535 s.hlp.overruns } }) ∧
    (∀ tag r, s.hlp.link = .linked → s.hlp.held = none → s.hlp.resetting = none → 16 ≤ placesUsed s →
      exec (requestCommand tag r) s = .next { framed s with hlp := { (framed s).hlp with
        held := some (tag, r) } })

/-- R196, R201 and R197 with R79. The time an expiry falls at, and timers kept as end times, are the model's own (log entry
2), as are what a LINK-SET held before the loss does in HOST-LOST (log entry 47) and the order of the reports of one event
(log entry 49). The places counted are DEDUCED (log entry 16), as is the rate on the line held apart from the stored one
(log entry 30). -/
def Obligations.ReplySentAndHostLost : Prop :=
  (∀ (tag : Byte) (r : Request) (s : State), Ready s →
    exec (requestCommand tag r) s = .next (dispatchRequest tag r (framed s))) ∧
  ∀ (backup : BackupSupply) (s : State), s.hall.main = .present →
    (∀ r rest, s.hlp.held = none → s.hlp.replies = r :: rest → r.after = .nothing →
      exec (.replySent backup) s = .next { s with hlp := { s.hlp with replies := rest } }) ∧
    (∀ r rest rate, s.hlp.held = none → s.hlp.replies = r :: rest → r.after = .newRate rate →
      exec (.replySent backup) s = .next { s with hlp := { s.hlp with replies := rest, activeRate := rate } }) ∧
    (∀ r rest tag q, s.hlp.held = some (tag, q) → s.hlp.replies = r :: rest → r.after = .nothing →
      (placesUsed s ≤ 16 → exec (.replySent backup) s =
        .next (dispatchRequest tag q { s with hlp := { s.hlp with replies := rest, held := none } })) ∧
      (16 < placesUsed s → exec (.replySent backup) s = .next { s with hlp := { s.hlp with replies := rest } })) ∧
    (∀ e, s.hlp.supervisionEnds = some e →
      ((∀ c, (s.clock c).state = .idle) →
        exec .supervisionExpiry s = .next (raise (.hostLost .hostLost) { s.reach e with hlp := { s.hlp with
          link := .hostLost, supervisionEnds := none } })) ∧
      ∃ t, exec .supervisionExpiry s = .next t ∧ t.timebase = max s.timebase e ∧ t.hlp.link = .hostLost ∧
        t.hlp.supervisionEnds = none ∧ t.hlp.replies = s.hlp.replies ∧ t.hlp.held = s.hlp.held ∧
        (s.hlp.enables.hall = true → s.hlp.reports.length < 64 →
          t.hlp.reports[s.hlp.reports.length]?.map Report.body = some (.hostLost .hostLost)) ∧
        (∀ c, (s.clock c).state ≠ .loaded .restart ∨ (s.clock c).reservation = false → t.clock c = s.clock c) ∧
        t.lots = s.lots ∧ t.lanes = s.lanes ∧ t.ledger.buyers = s.ledger.buyers ∧ t.hall = s.hall)

/-- R197 with R79 and R195: a valid frame in HOST-LOST brings the link back before its dispatch. Timers kept as end times
(log entry 2), that an IDLE clock takes its lot after the dispatch (log entry 46), and the order of the reports of one event
(log entry 49), are the model's own. The places counted are DEDUCED (log entry 16). -/
def Obligations.HostRestored : Prop :=
  ∀ s : State, s.hall.main = .present → s.hlp.link = .hostLost →
    ((∀ c, (s.clock c).state ≠ .loaded .new ∧ (s.clock c).state ≠ .loaded .restart) → ∀ tag r,
      exec (requestCommand tag r) s =
        exec (requestCommand tag r) (raise (.hostLost .linked) { s with hlp := { s.hlp with link := .linked } })) ∧
    (∀ h, s.hlp.held = some h → ∃ t, exec .frameOverrun s = .next t ∧ t.hlp.link = .linked ∧
      t.hlp.overruns = countUp 65535 s.hlp.overruns ∧ t.hlp.held = some h ∧ t.hlp.replies = s.hlp.replies ∧
      t.hlp.supervisionEnds = (supervisionTime s.hlp.supervision).map (s.timebase + ·) ∧
      (s.hlp.enables.hall = true → s.hlp.reports.length < 64 →
        t.hlp.reports[s.hlp.reports.length]?.map Report.body = some (.hostLost .linked))) ∧
    (∀ c, s.hlp.held = none → s.hlp.resetting = none → placesUsed s < 16 → (s.clock c).state = .loaded .new →
      (s.clock c).previewEnds = none → s.hall.key = .sale → (s.board c).online = true → s.hall.timeSet = true →
      dayCloseRuns s = false → grantable s = true →
      (∀ d, d ≠ c → (s.clock d).state ≠ .loaded .new ∧ (s.clock d).state ≠ .loaded .restart) →
      ∃ u, (∀ tag r, exec (requestCommand tag r) s = .next (dispatchRequest tag r u)) ∧ u.hlp.link = .linked ∧
        u.clocks = (s.setClock c { s.clock c with
          state := .running, k := 0, reservation := true, asked := false,
          stepTimer := .running (s.timebase + periodOf (s.clock c).params 0) }).clocks ∧
        u.hlp.replies = s.hlp.replies ∧ u.lots = s.lots ∧ u.lanes = s.lanes ∧ u.hall = s.hall)

/-- 11.8.3: no bit of a row's reply frame is dropped, for any value its fields admit; 11.8.1 and the check value R195
gives for a host frame; 11.8.2: no field of a line is lost in its record. -/
def Obligations.FramesReadBack : Prop :=
  (∀ r : RowReply, r.fits = true → readRowReply (writeBusFrame (replyFrame r)) = some r) ∧
  (∀ f : HostFrame, f.kind < 256 → f.body.length ≤ 512 → readHostFrame (writeHostFrame f) = some f) ∧
  crc [0x31, 0x32, 0x33, 0x34, 0x35, 0x36, 0x37, 0x38, 0x39] = 0x29B1 ∧
  (∀ (l : JournalLine) (rest : List Byte), LineFits l →
      (writeLineRecord l).length = 56 ∧ readLineRecord (writeLineRecord l ++ rest) = some (l, rest))
end

