-- ==== Sys2Proof/Laws/State.lean ====
section
/-! SUPPORT. What each update of the state changes and what it leaves: one lemma per field per update, so that no later
proof unfolds one. -/

namespace Sys2Proof.Machine

variable (s : State)

/-! ### setClock -/

@[simp] theorem State.setClock_pending (c : ClockId) (x : Clock) : (s.setClock c x).pending = s.pending := rfl
@[simp] theorem State.setClock_timebase (c : ClockId) (x : Clock) : (s.setClock c x).timebase = s.timebase := rfl
@[simp] theorem State.setClock_hlp (c : ClockId) (x : Clock) : (s.setClock c x).hlp = s.hlp := rfl
@[simp] theorem State.setClock_lots (c : ClockId) (x : Clock) : (s.setClock c x).lots = s.lots := rfl
@[simp] theorem State.setClock_lanes (c : ClockId) (x : Clock) : (s.setClock c x).lanes = s.lanes := rfl
@[simp] theorem State.setClock_bus (c : ClockId) (x : Clock) : (s.setClock c x).bus = s.bus := rfl
@[simp] theorem State.setClock_ledger (c : ClockId) (x : Clock) : (s.setClock c x).ledger = s.ledger := rfl
@[simp] theorem State.setClock_boards (c : ClockId) (x : Clock) : (s.setClock c x).boards = s.boards := rfl
@[simp] theorem State.setClock_hall (c : ClockId) (x : Clock) : (s.setClock c x).hall = s.hall := rfl
@[simp] theorem State.setClock_clocks (c : ClockId) (x : Clock) : (s.setClock c x).clocks = s.clocks.set c x := rfl

/-! ### setLane -/

@[simp] theorem State.setLane_pending (c : ClockId) (x : Lane) : (s.setLane c x).pending = s.pending := rfl
@[simp] theorem State.setLane_timebase (c : ClockId) (x : Lane) : (s.setLane c x).timebase = s.timebase := rfl
@[simp] theorem State.setLane_hlp (c : ClockId) (x : Lane) : (s.setLane c x).hlp = s.hlp := rfl
@[simp] theorem State.setLane_lots (c : ClockId) (x : Lane) : (s.setLane c x).lots = s.lots := rfl
@[simp] theorem State.setLane_clocks (c : ClockId) (x : Lane) : (s.setLane c x).clocks = s.clocks := rfl
@[simp] theorem State.setLane_bus (c : ClockId) (x : Lane) : (s.setLane c x).bus = s.bus := rfl
@[simp] theorem State.setLane_ledger (c : ClockId) (x : Lane) : (s.setLane c x).ledger = s.ledger := rfl
@[simp] theorem State.setLane_boards (c : ClockId) (x : Lane) : (s.setLane c x).boards = s.boards := rfl
@[simp] theorem State.setLane_hall (c : ClockId) (x : Lane) : (s.setLane c x).hall = s.hall := rfl
@[simp] theorem State.setLane_lanes (c : ClockId) (x : Lane) : (s.setLane c x).lanes = s.lanes.set c x := rfl

/-! ### setBoard -/

@[simp] theorem State.setBoard_pending (c : ClockId) (x : Board) : (s.setBoard c x).pending = s.pending := rfl
@[simp] theorem State.setBoard_timebase (c : ClockId) (x : Board) : (s.setBoard c x).timebase = s.timebase := rfl
@[simp] theorem State.setBoard_hlp (c : ClockId) (x : Board) : (s.setBoard c x).hlp = s.hlp := rfl
@[simp] theorem State.setBoard_lots (c : ClockId) (x : Board) : (s.setBoard c x).lots = s.lots := rfl
@[simp] theorem State.setBoard_lanes (c : ClockId) (x : Board) : (s.setBoard c x).lanes = s.lanes := rfl
@[simp] theorem State.setBoard_clocks (c : ClockId) (x : Board) : (s.setBoard c x).clocks = s.clocks := rfl
@[simp] theorem State.setBoard_bus (c : ClockId) (x : Board) : (s.setBoard c x).bus = s.bus := rfl
@[simp] theorem State.setBoard_ledger (c : ClockId) (x : Board) : (s.setBoard c x).ledger = s.ledger := rfl
@[simp] theorem State.setBoard_hall (c : ClockId) (x : Board) : (s.setBoard c x).hall = s.hall := rfl
@[simp] theorem State.setBoard_boards (c : ClockId) (x : Board) : (s.setBoard c x).boards = s.boards.set c x := rfl

/-! ### modLot -/

@[simp] theorem State.modLot_pending (n : Nat) (f : Lot → Lot) : (s.modLot n f).pending = s.pending := rfl
@[simp] theorem State.modLot_timebase (n : Nat) (f : Lot → Lot) : (s.modLot n f).timebase = s.timebase := rfl
@[simp] theorem State.modLot_hlp (n : Nat) (f : Lot → Lot) : (s.modLot n f).hlp = s.hlp := rfl
@[simp] theorem State.modLot_lanes (n : Nat) (f : Lot → Lot) : (s.modLot n f).lanes = s.lanes := rfl
@[simp] theorem State.modLot_clocks (n : Nat) (f : Lot → Lot) : (s.modLot n f).clocks = s.clocks := rfl
@[simp] theorem State.modLot_bus (n : Nat) (f : Lot → Lot) : (s.modLot n f).bus = s.bus := rfl
@[simp] theorem State.modLot_ledger (n : Nat) (f : Lot → Lot) : (s.modLot n f).ledger = s.ledger := rfl
@[simp] theorem State.modLot_boards (n : Nat) (f : Lot → Lot) : (s.modLot n f).boards = s.boards := rfl
@[simp] theorem State.modLot_hall (n : Nat) (f : Lot → Lot) : (s.modLot n f).hall = s.hall := rfl
@[simp] theorem State.modLot_lots (n : Nat) (f : Lot → Lot) : (s.modLot n f).lots = modKey Lot.number n f s.lots := rfl

/-! ### reach -/

@[simp] theorem State.reach_pending (t : Nat) : (s.reach t).pending = s.pending := rfl
@[simp] theorem State.reach_hlp (t : Nat) : (s.reach t).hlp = s.hlp := rfl
@[simp] theorem State.reach_lots (t : Nat) : (s.reach t).lots = s.lots := rfl
@[simp] theorem State.reach_lanes (t : Nat) : (s.reach t).lanes = s.lanes := rfl
@[simp] theorem State.reach_clocks (t : Nat) : (s.reach t).clocks = s.clocks := rfl
@[simp] theorem State.reach_bus (t : Nat) : (s.reach t).bus = s.bus := rfl
@[simp] theorem State.reach_ledger (t : Nat) : (s.reach t).ledger = s.ledger := rfl
@[simp] theorem State.reach_boards (t : Nat) : (s.reach t).boards = s.boards := rfl
@[simp] theorem State.reach_hall (t : Nat) : (s.reach t).hall = s.hall := rfl
@[simp] theorem State.reach_timebase (t : Nat) : (s.reach t).timebase = max s.timebase t := rfl

/-! ### setRow -/

@[simp] theorem State.setRow_pending (r : RowId) (x : Row) : (s.setRow r x).pending = s.pending := rfl
@[simp] theorem State.setRow_timebase (r : RowId) (x : Row) : (s.setRow r x).timebase = s.timebase := rfl
@[simp] theorem State.setRow_hlp (r : RowId) (x : Row) : (s.setRow r x).hlp = s.hlp := rfl
@[simp] theorem State.setRow_lots (r : RowId) (x : Row) : (s.setRow r x).lots = s.lots := rfl
@[simp] theorem State.setRow_lanes (r : RowId) (x : Row) : (s.setRow r x).lanes = s.lanes := rfl
@[simp] theorem State.setRow_clocks (r : RowId) (x : Row) : (s.setRow r x).clocks = s.clocks := rfl
@[simp] theorem State.setRow_ledger (r : RowId) (x : Row) : (s.setRow r x).ledger = s.ledger := rfl
@[simp] theorem State.setRow_boards (r : RowId) (x : Row) : (s.setRow r x).boards = s.boards := rfl
@[simp] theorem State.setRow_hall (r : RowId) (x : Row) : (s.setRow r x).hall = s.hall := rfl
@[simp] theorem State.setRow_bus_ticks (r : RowId) (x : Row) : (s.setRow r x).bus.ticks = s.bus.ticks := rfl
@[simp] theorem State.setRow_bus_nextRow (r : RowId) (x : Row) : (s.setRow r x).bus.nextRow = s.bus.nextRow := rfl
@[simp] theorem State.setRow_bus_activity (r : RowId) (x : Row) : (s.setRow r x).bus.activity = s.bus.activity := rfl
@[simp] theorem State.setRow_bus_poll (r : RowId) (x : Row) : (s.setRow r x).bus.poll = s.bus.poll := rfl
@[simp] theorem State.setRow_bus_lineHeld (r : RowId) (x : Row) : (s.setRow r x).bus.lineHeld = s.bus.lineHeld := rfl
@[simp] theorem State.setRow_bus_ticksSent (r : RowId) (x : Row) : (s.setRow r x).bus.ticksSent = s.bus.ticksSent := rfl
@[simp] theorem State.setRow_bus_ticksDropped (r : RowId) (x : Row) : (s.setRow r x).bus.ticksDropped = s.bus.ticksDropped := rfl
@[simp] theorem State.setRow_bus_nextArrival (r : RowId) (x : Row) : (s.setRow r x).bus.nextArrival = s.bus.nextArrival := rfl
@[simp] theorem State.setRow_bus_rows (r : RowId) (x : Row) : (s.setRow r x).bus.rows = s.bus.rows.set r x := rfl

/-! ### modBuyer -/

@[simp] theorem State.modBuyer_pending (n : Nat) (f : Buyer → Buyer) : (s.modBuyer n f).pending = s.pending := rfl
@[simp] theorem State.modBuyer_timebase (n : Nat) (f : Buyer → Buyer) : (s.modBuyer n f).timebase = s.timebase := rfl
@[simp] theorem State.modBuyer_hlp (n : Nat) (f : Buyer → Buyer) : (s.modBuyer n f).hlp = s.hlp := rfl
@[simp] theorem State.modBuyer_lots (n : Nat) (f : Buyer → Buyer) : (s.modBuyer n f).lots = s.lots := rfl
@[simp] theorem State.modBuyer_lanes (n : Nat) (f : Buyer → Buyer) : (s.modBuyer n f).lanes = s.lanes := rfl
@[simp] theorem State.modBuyer_clocks (n : Nat) (f : Buyer → Buyer) : (s.modBuyer n f).clocks = s.clocks := rfl
@[simp] theorem State.modBuyer_bus (n : Nat) (f : Buyer → Buyer) : (s.modBuyer n f).bus = s.bus := rfl
@[simp] theorem State.modBuyer_boards (n : Nat) (f : Buyer → Buyer) : (s.modBuyer n f).boards = s.boards := rfl
@[simp] theorem State.modBuyer_hall (n : Nat) (f : Buyer → Buyer) : (s.modBuyer n f).hall = s.hall := rfl
@[simp] theorem State.modBuyer_ledger_tariff (n : Nat) (f : Buyer → Buyer) : (s.modBuyer n f).ledger.tariff = s.ledger.tariff := rfl
@[simp] theorem State.modBuyer_ledger_invoices (n : Nat) (f : Buyer → Buyer) : (s.modBuyer n f).ledger.invoices = s.ledger.invoices := rfl
@[simp] theorem State.modBuyer_ledger_nextInvoice (n : Nat) (f : Buyer → Buyer) : (s.modBuyer n f).ledger.nextInvoice = s.ledger.nextInvoice := rfl
@[simp] theorem State.modBuyer_ledger_journal (n : Nat) (f : Buyer → Buyer) : (s.modBuyer n f).ledger.journal = s.ledger.journal := rfl
@[simp] theorem State.modBuyer_ledger_arbiter (n : Nat) (f : Buyer → Buyer) : (s.modBuyer n f).ledger.arbiter = s.ledger.arbiter := rfl
@[simp] theorem State.modBuyer_ledger_lastSale (n : Nat) (f : Buyer → Buyer) : (s.modBuyer n f).ledger.lastSale = s.ledger.lastSale := rfl
@[simp] theorem State.modBuyer_ledger_counters (n : Nat) (f : Buyer → Buyer) : (s.modBuyer n f).ledger.counters = s.ledger.counters := rfl
@[simp] theorem State.modBuyer_ledger_buyers (n : Nat) (f : Buyer → Buyer) : (s.modBuyer n f).ledger.buyers = modKey Buyer.number n f s.ledger.buyers := rfl

/-! ### modInvoice -/

@[simp] theorem State.modInvoice_pending (n : Nat) (f : Invoice → Invoice) : (s.modInvoice n f).pending = s.pending := rfl
@[simp] theorem State.modInvoice_timebase (n : Nat) (f : Invoice → Invoice) : (s.modInvoice n f).timebase = s.timebase := rfl
@[simp] theorem State.modInvoice_hlp (n : Nat) (f : Invoice → Invoice) : (s.modInvoice n f).hlp = s.hlp := rfl
@[simp] theorem State.modInvoice_lots (n : Nat) (f : Invoice → Invoice) : (s.modInvoice n f).lots = s.lots := rfl
@[simp] theorem State.modInvoice_lanes (n : Nat) (f : Invoice → Invoice) : (s.modInvoice n f).lanes = s.lanes := rfl
@[simp] theorem State.modInvoice_clocks (n : Nat) (f : Invoice → Invoice) : (s.modInvoice n f).clocks = s.clocks := rfl
@[simp] theorem State.modInvoice_bus (n : Nat) (f : Invoice → Invoice) : (s.modInvoice n f).bus = s.bus := rfl
@[simp] theorem State.modInvoice_boards (n : Nat) (f : Invoice → Invoice) : (s.modInvoice n f).boards = s.boards := rfl
@[simp] theorem State.modInvoice_hall (n : Nat) (f : Invoice → Invoice) : (s.modInvoice n f).hall = s.hall := rfl
@[simp] theorem State.modInvoice_ledger_buyers (n : Nat) (f : Invoice → Invoice) : (s.modInvoice n f).ledger.buyers = s.ledger.buyers := rfl
@[simp] theorem State.modInvoice_ledger_tariff (n : Nat) (f : Invoice → Invoice) : (s.modInvoice n f).ledger.tariff = s.ledger.tariff := rfl
@[simp] theorem State.modInvoice_ledger_nextInvoice (n : Nat) (f : Invoice → Invoice) : (s.modInvoice n f).ledger.nextInvoice = s.ledger.nextInvoice := rfl
@[simp] theorem State.modInvoice_ledger_journal (n : Nat) (f : Invoice → Invoice) : (s.modInvoice n f).ledger.journal = s.ledger.journal := rfl
@[simp] theorem State.modInvoice_ledger_arbiter (n : Nat) (f : Invoice → Invoice) : (s.modInvoice n f).ledger.arbiter = s.ledger.arbiter := rfl
@[simp] theorem State.modInvoice_ledger_lastSale (n : Nat) (f : Invoice → Invoice) : (s.modInvoice n f).ledger.lastSale = s.ledger.lastSale := rfl
@[simp] theorem State.modInvoice_ledger_counters (n : Nat) (f : Invoice → Invoice) : (s.modInvoice n f).ledger.counters = s.ledger.counters := rfl
@[simp] theorem State.modInvoice_ledger_invoices (n : Nat) (f : Invoice → Invoice) : (s.modInvoice n f).ledger.invoices = modKey Invoice.number n f s.ledger.invoices := rfl

/-! ### setArbiter -/

@[simp] theorem State.setArbiter_pending (a : Arbiter) : (s.setArbiter a).pending = s.pending := rfl
@[simp] theorem State.setArbiter_timebase (a : Arbiter) : (s.setArbiter a).timebase = s.timebase := rfl
@[simp] theorem State.setArbiter_hlp (a : Arbiter) : (s.setArbiter a).hlp = s.hlp := rfl
@[simp] theorem State.setArbiter_lots (a : Arbiter) : (s.setArbiter a).lots = s.lots := rfl
@[simp] theorem State.setArbiter_lanes (a : Arbiter) : (s.setArbiter a).lanes = s.lanes := rfl
@[simp] theorem State.setArbiter_clocks (a : Arbiter) : (s.setArbiter a).clocks = s.clocks := rfl
@[simp] theorem State.setArbiter_bus (a : Arbiter) : (s.setArbiter a).bus = s.bus := rfl
@[simp] theorem State.setArbiter_boards (a : Arbiter) : (s.setArbiter a).boards = s.boards := rfl
@[simp] theorem State.setArbiter_hall (a : Arbiter) : (s.setArbiter a).hall = s.hall := rfl
@[simp] theorem State.setArbiter_ledger_buyers (a : Arbiter) : (s.setArbiter a).ledger.buyers = s.ledger.buyers := rfl
@[simp] theorem State.setArbiter_ledger_tariff (a : Arbiter) : (s.setArbiter a).ledger.tariff = s.ledger.tariff := rfl
@[simp] theorem State.setArbiter_ledger_invoices (a : Arbiter) : (s.setArbiter a).ledger.invoices = s.ledger.invoices := rfl
@[simp] theorem State.setArbiter_ledger_nextInvoice (a : Arbiter) : (s.setArbiter a).ledger.nextInvoice = s.ledger.nextInvoice := rfl
@[simp] theorem State.setArbiter_ledger_journal (a : Arbiter) : (s.setArbiter a).ledger.journal = s.ledger.journal := rfl
@[simp] theorem State.setArbiter_ledger_lastSale (a : Arbiter) : (s.setArbiter a).ledger.lastSale = s.ledger.lastSale := rfl
@[simp] theorem State.setArbiter_ledger_counters (a : Arbiter) : (s.setArbiter a).ledger.counters = s.ledger.counters := rfl
@[simp] theorem State.setArbiter_ledger_arbiter (a : Arbiter) : (s.setArbiter a).ledger.arbiter = a := rfl

/-! ### setJournal -/

@[simp] theorem State.setJournal_pending (j : Journal) : (s.setJournal j).pending = s.pending := rfl
@[simp] theorem State.setJournal_timebase (j : Journal) : (s.setJournal j).timebase = s.timebase := rfl
@[simp] theorem State.setJournal_hlp (j : Journal) : (s.setJournal j).hlp = s.hlp := rfl
@[simp] theorem State.setJournal_lots (j : Journal) : (s.setJournal j).lots = s.lots := rfl
@[simp] theorem State.setJournal_lanes (j : Journal) : (s.setJournal j).lanes = s.lanes := rfl
@[simp] theorem State.setJournal_clocks (j : Journal) : (s.setJournal j).clocks = s.clocks := rfl
@[simp] theorem State.setJournal_bus (j : Journal) : (s.setJournal j).bus = s.bus := rfl
@[simp] theorem State.setJournal_boards (j : Journal) : (s.setJournal j).boards = s.boards := rfl
@[simp] theorem State.setJournal_hall (j : Journal) : (s.setJournal j).hall = s.hall := rfl
@[simp] theorem State.setJournal_ledger_buyers (j : Journal) : (s.setJournal j).ledger.buyers = s.ledger.buyers := rfl
@[simp] theorem State.setJournal_ledger_tariff (j : Journal) : (s.setJournal j).ledger.tariff = s.ledger.tariff := rfl
@[simp] theorem State.setJournal_ledger_invoices (j : Journal) : (s.setJournal j).ledger.invoices = s.ledger.invoices := rfl
@[simp] theorem State.setJournal_ledger_nextInvoice (j : Journal) : (s.setJournal j).ledger.nextInvoice = s.ledger.nextInvoice := rfl
@[simp] theorem State.setJournal_ledger_arbiter (j : Journal) : (s.setJournal j).ledger.arbiter = s.ledger.arbiter := rfl
@[simp] theorem State.setJournal_ledger_lastSale (j : Journal) : (s.setJournal j).ledger.lastSale = s.ledger.lastSale := rfl
@[simp] theorem State.setJournal_ledger_counters (j : Journal) : (s.setJournal j).ledger.counters = s.ledger.counters := rfl
@[simp] theorem State.setJournal_ledger_journal (j : Journal) : (s.setJournal j).ledger.journal = j := rfl

/-! ### count -/

@[simp] theorem State.count_pending (f : LedgerCounters → LedgerCounters) : (s.count f).pending = s.pending := rfl
@[simp] theorem State.count_timebase (f : LedgerCounters → LedgerCounters) : (s.count f).timebase = s.timebase := rfl
@[simp] theorem State.count_hlp (f : LedgerCounters → LedgerCounters) : (s.count f).hlp = s.hlp := rfl
@[simp] theorem State.count_lots (f : LedgerCounters → LedgerCounters) : (s.count f).lots = s.lots := rfl
@[simp] theorem State.count_lanes (f : LedgerCounters → LedgerCounters) : (s.count f).lanes = s.lanes := rfl
@[simp] theorem State.count_clocks (f : LedgerCounters → LedgerCounters) : (s.count f).clocks = s.clocks := rfl
@[simp] theorem State.count_bus (f : LedgerCounters → LedgerCounters) : (s.count f).bus = s.bus := rfl
@[simp] theorem State.count_boards (f : LedgerCounters → LedgerCounters) : (s.count f).boards = s.boards := rfl
@[simp] theorem State.count_hall (f : LedgerCounters → LedgerCounters) : (s.count f).hall = s.hall := rfl
@[simp] theorem State.count_ledger_buyers (f : LedgerCounters → LedgerCounters) : (s.count f).ledger.buyers = s.ledger.buyers := rfl
@[simp] theorem State.count_ledger_tariff (f : LedgerCounters → LedgerCounters) : (s.count f).ledger.tariff = s.ledger.tariff := rfl
@[simp] theorem State.count_ledger_invoices (f : LedgerCounters → LedgerCounters) : (s.count f).ledger.invoices = s.ledger.invoices := rfl
@[simp] theorem State.count_ledger_nextInvoice (f : LedgerCounters → LedgerCounters) : (s.count f).ledger.nextInvoice = s.ledger.nextInvoice := rfl
@[simp] theorem State.count_ledger_journal (f : LedgerCounters → LedgerCounters) : (s.count f).ledger.journal = s.ledger.journal := rfl
@[simp] theorem State.count_ledger_arbiter (f : LedgerCounters → LedgerCounters) : (s.count f).ledger.arbiter = s.ledger.arbiter := rfl
@[simp] theorem State.count_ledger_lastSale (f : LedgerCounters → LedgerCounters) : (s.count f).ledger.lastSale = s.ledger.lastSale := rfl
@[simp] theorem State.count_ledger_counters (f : LedgerCounters → LedgerCounters) : (s.count f).ledger.counters = f s.ledger.counters := rfl

/-! ### setLastSale -/

@[simp] theorem State.setLastSale_pending (c : ClockId) (x : Option LastSale) : (s.setLastSale c x).pending = s.pending := rfl
@[simp] theorem State.setLastSale_timebase (c : ClockId) (x : Option LastSale) : (s.setLastSale c x).timebase = s.timebase := rfl
@[simp] theorem State.setLastSale_hlp (c : ClockId) (x : Option LastSale) : (s.setLastSale c x).hlp = s.hlp := rfl
@[simp] theorem State.setLastSale_lots (c : ClockId) (x : Option LastSale) : (s.setLastSale c x).lots = s.lots := rfl
@[simp] theorem State.setLastSale_lanes (c : ClockId) (x : Option LastSale) : (s.setLastSale c x).lanes = s.lanes := rfl
@[simp] theorem State.setLastSale_clocks (c : ClockId) (x : Option LastSale) : (s.setLastSale c x).clocks = s.clocks := rfl
@[simp] theorem State.setLastSale_bus (c : ClockId) (x : Option LastSale) : (s.setLastSale c x).bus = s.bus := rfl
@[simp] theorem State.setLastSale_boards (c : ClockId) (x : Option LastSale) : (s.setLastSale c x).boards = s.boards := rfl
@[simp] theorem State.setLastSale_hall (c : ClockId) (x : Option LastSale) : (s.setLastSale c x).hall = s.hall := rfl
@[simp] theorem State.setLastSale_ledger_buyers (c : ClockId) (x : Option LastSale) : (s.setLastSale c x).ledger.buyers = s.ledger.buyers := rfl
@[simp] theorem State.setLastSale_ledger_tariff (c : ClockId) (x : Option LastSale) : (s.setLastSale c x).ledger.tariff = s.ledger.tariff := rfl
@[simp] theorem State.setLastSale_ledger_invoices (c : ClockId) (x : Option LastSale) : (s.setLastSale c x).ledger.invoices = s.ledger.invoices := rfl
@[simp] theorem State.setLastSale_ledger_nextInvoice (c : ClockId) (x : Option LastSale) : (s.setLastSale c x).ledger.nextInvoice = s.ledger.nextInvoice := rfl
@[simp] theorem State.setLastSale_ledger_journal (c : ClockId) (x : Option LastSale) : (s.setLastSale c x).ledger.journal = s.ledger.journal := rfl
@[simp] theorem State.setLastSale_ledger_arbiter (c : ClockId) (x : Option LastSale) : (s.setLastSale c x).ledger.arbiter = s.ledger.arbiter := rfl
@[simp] theorem State.setLastSale_ledger_counters (c : ClockId) (x : Option LastSale) : (s.setLastSale c x).ledger.counters = s.ledger.counters := rfl
@[simp] theorem State.setLastSale_ledger_lastSale (c : ClockId) (x : Option LastSale) : (s.setLastSale c x).ledger.lastSale = s.ledger.lastSale.set c x := rfl

/-! ### Reading one record back -/

@[simp] theorem vector_get_set_self {α : Type} {n : Nat} (v : Vector α n) (i : Fin n) (x : α) :
    (v.set i x).get i = x := by
  simp [Vector.get_eq_getElem]

theorem vector_get_set_ne {α : Type} {n : Nat} (v : Vector α n) (i j : Fin n) (x : α) (h : j ≠ i) :
    (v.set i x).get j = v.get j := by
  have : i.val ≠ j.val := fun e => h (Fin.ext e.symm)
  simp [Vector.get_eq_getElem, this]

@[simp] theorem mapCells_get {α β : Type} {n : Nat} (f : α → β) (v : Vector α n) (i : Fin n) :
    (mapCells f v).get i = f (v.get i) := by
  simp [mapCells, Vector.get_eq_getElem]

@[simp] theorem State.setClock_clock_self (c : ClockId) (x : Clock) : (s.setClock c x).clock c = x := by
  simp [State.clock]

theorem State.setClock_clock_ne (c d : ClockId) (x : Clock) (h : d ≠ c) : (s.setClock c x).clock d = s.clock d := by
  simp [State.clock, vector_get_set_ne _ _ _ _ h]

@[simp] theorem State.setLane_lane_self (c : ClockId) (x : Lane) : (s.setLane c x).lane c = x := by
  simp [State.lane]

theorem State.setLane_lane_ne (c d : ClockId) (x : Lane) (h : d ≠ c) : (s.setLane c x).lane d = s.lane d := by
  simp [State.lane, vector_get_set_ne _ _ _ _ h]

@[simp] theorem State.setBoard_board_self (c : ClockId) (x : Board) : (s.setBoard c x).board c = x := by
  simp [State.board]

theorem State.setBoard_board_ne (c d : ClockId) (x : Board) (h : d ≠ c) : (s.setBoard c x).board d = s.board d := by
  simp [State.board, vector_get_set_ne _ _ _ _ h]

@[simp] theorem State.setRow_row_self (r : RowId) (x : Row) : (s.setRow r x).row r = x := by
  simp [State.row]

theorem State.setRow_row_ne (r q : RowId) (x : Row) (h : q ≠ r) : (s.setRow r x).row q = s.row q := by
  simp [State.row, vector_get_set_ne _ _ _ _ h]

/-- A desk written reads back as written. -/
@[simp] theorem State.setDesk_desk_self (d : DeskId) (x : Desk) : (s.setDesk d x).desk d = x := by
  simp [State.desk, State.setDesk]

/-! ### Records an update does not reach -/

@[simp] theorem State.setClock_lane (c : ClockId) (x : Clock) (d' : ClockId) : (s.setClock c x).lane d' = s.lane d' := rfl
@[simp] theorem State.setClock_board (c : ClockId) (x : Clock) (d' : ClockId) : (s.setClock c x).board d' = s.board d' := rfl
@[simp] theorem State.setClock_row (c : ClockId) (x : Clock) (r' : RowId) : (s.setClock c x).row r' = s.row r' := rfl
@[simp] theorem State.setClock_desk (c : ClockId) (x : Clock) (d' : DeskId) : (s.setClock c x).desk d' = s.desk d' := rfl
@[simp] theorem State.setClock_lot (c : ClockId) (x : Clock) (m : Nat) : (s.setClock c x).lot m = s.lot m := rfl
@[simp] theorem State.setClock_buyer (c : ClockId) (x : Clock) (m : Nat) : (s.setClock c x).buyer m = s.buyer m := rfl
@[simp] theorem State.setClock_invoice (c : ClockId) (x : Clock) (m : Nat) : (s.setClock c x).invoice m = s.invoice m := rfl
@[simp] theorem State.setLane_clock (c : ClockId) (x : Lane) (d' : ClockId) : (s.setLane c x).clock d' = s.clock d' := rfl
@[simp] theorem State.setLane_board (c : ClockId) (x : Lane) (d' : ClockId) : (s.setLane c x).board d' = s.board d' := rfl
@[simp] theorem State.setLane_row (c : ClockId) (x : Lane) (r' : RowId) : (s.setLane c x).row r' = s.row r' := rfl
@[simp] theorem State.setLane_desk (c : ClockId) (x : Lane) (d' : DeskId) : (s.setLane c x).desk d' = s.desk d' := rfl
@[simp] theorem State.setLane_lot (c : ClockId) (x : Lane) (m : Nat) : (s.setLane c x).lot m = s.lot m := rfl
@[simp] theorem State.setLane_buyer (c : ClockId) (x : Lane) (m : Nat) : (s.setLane c x).buyer m = s.buyer m := rfl
@[simp] theorem State.setLane_invoice (c : ClockId) (x : Lane) (m : Nat) : (s.setLane c x).invoice m = s.invoice m := rfl
@[simp] theorem State.setBoard_clock (c : ClockId) (x : Board) (d' : ClockId) : (s.setBoard c x).clock d' = s.clock d' := rfl
@[simp] theorem State.setBoard_lane (c : ClockId) (x : Board) (d' : ClockId) : (s.setBoard c x).lane d' = s.lane d' := rfl
@[simp] theorem State.setBoard_row (c : ClockId) (x : Board) (r' : RowId) : (s.setBoard c x).row r' = s.row r' := rfl
@[simp] theorem State.setBoard_desk (c : ClockId) (x : Board) (d' : DeskId) : (s.setBoard c x).desk d' = s.desk d' := rfl
@[simp] theorem State.setBoard_lot (c : ClockId) (x : Board) (m : Nat) : (s.setBoard c x).lot m = s.lot m := rfl
@[simp] theorem State.setBoard_buyer (c : ClockId) (x : Board) (m : Nat) : (s.setBoard c x).buyer m = s.buyer m := rfl
@[simp] theorem State.setBoard_invoice (c : ClockId) (x : Board) (m : Nat) : (s.setBoard c x).invoice m = s.invoice m := rfl
@[simp] theorem State.modLot_clock (n : Nat) (f : Lot → Lot) (d' : ClockId) : (s.modLot n f).clock d' = s.clock d' := rfl
@[simp] theorem State.modLot_lane (n : Nat) (f : Lot → Lot) (d' : ClockId) : (s.modLot n f).lane d' = s.lane d' := rfl
@[simp] theorem State.modLot_board (n : Nat) (f : Lot → Lot) (d' : ClockId) : (s.modLot n f).board d' = s.board d' := rfl
@[simp] theorem State.modLot_row (n : Nat) (f : Lot → Lot) (r' : RowId) : (s.modLot n f).row r' = s.row r' := rfl
@[simp] theorem State.modLot_desk (n : Nat) (f : Lot → Lot) (d' : DeskId) : (s.modLot n f).desk d' = s.desk d' := rfl
@[simp] theorem State.modLot_buyer (n : Nat) (f : Lot → Lot) (m : Nat) : (s.modLot n f).buyer m = s.buyer m := rfl
@[simp] theorem State.modLot_invoice (n : Nat) (f : Lot → Lot) (m : Nat) : (s.modLot n f).invoice m = s.invoice m := rfl
@[simp] theorem State.reach_clock (t : Nat) (d' : ClockId) : (s.reach t).clock d' = s.clock d' := rfl
@[simp] theorem State.reach_lane (t : Nat) (d' : ClockId) : (s.reach t).lane d' = s.lane d' := rfl
@[simp] theorem State.reach_board (t : Nat) (d' : ClockId) : (s.reach t).board d' = s.board d' := rfl
@[simp] theorem State.reach_row (t : Nat) (r' : RowId) : (s.reach t).row r' = s.row r' := rfl
@[simp] theorem State.reach_desk (t : Nat) (d' : DeskId) : (s.reach t).desk d' = s.desk d' := rfl
@[simp] theorem State.reach_lot (t : Nat) (m : Nat) : (s.reach t).lot m = s.lot m := rfl
@[simp] theorem State.reach_buyer (t : Nat) (m : Nat) : (s.reach t).buyer m = s.buyer m := rfl
@[simp] theorem State.reach_invoice (t : Nat) (m : Nat) : (s.reach t).invoice m = s.invoice m := rfl
@[simp] theorem State.setRow_clock (r : RowId) (x : Row) (d' : ClockId) : (s.setRow r x).clock d' = s.clock d' := rfl
@[simp] theorem State.setRow_lane (r : RowId) (x : Row) (d' : ClockId) : (s.setRow r x).lane d' = s.lane d' := rfl
@[simp] theorem State.setRow_board (r : RowId) (x : Row) (d' : ClockId) : (s.setRow r x).board d' = s.board d' := rfl
@[simp] theorem State.setRow_lot (r : RowId) (x : Row) (m : Nat) : (s.setRow r x).lot m = s.lot m := rfl
@[simp] theorem State.setRow_buyer (r : RowId) (x : Row) (m : Nat) : (s.setRow r x).buyer m = s.buyer m := rfl
@[simp] theorem State.setRow_invoice (r : RowId) (x : Row) (m : Nat) : (s.setRow r x).invoice m = s.invoice m := rfl
@[simp] theorem State.modBuyer_clock (n : Nat) (f : Buyer → Buyer) (d' : ClockId) : (s.modBuyer n f).clock d' = s.clock d' := rfl
@[simp] theorem State.modBuyer_lane (n : Nat) (f : Buyer → Buyer) (d' : ClockId) : (s.modBuyer n f).lane d' = s.lane d' := rfl
@[simp] theorem State.modBuyer_board (n : Nat) (f : Buyer → Buyer) (d' : ClockId) : (s.modBuyer n f).board d' = s.board d' := rfl
@[simp] theorem State.modBuyer_row (n : Nat) (f : Buyer → Buyer) (r' : RowId) : (s.modBuyer n f).row r' = s.row r' := rfl
@[simp] theorem State.modBuyer_desk (n : Nat) (f : Buyer → Buyer) (d' : DeskId) : (s.modBuyer n f).desk d' = s.desk d' := rfl
@[simp] theorem State.modBuyer_lot (n : Nat) (f : Buyer → Buyer) (m : Nat) : (s.modBuyer n f).lot m = s.lot m := rfl
@[simp] theorem State.modBuyer_invoice (n : Nat) (f : Buyer → Buyer) (m : Nat) : (s.modBuyer n f).invoice m = s.invoice m := rfl
@[simp] theorem State.modInvoice_clock (n : Nat) (f : Invoice → Invoice) (d' : ClockId) : (s.modInvoice n f).clock d' = s.clock d' := rfl
@[simp] theorem State.modInvoice_lane (n : Nat) (f : Invoice → Invoice) (d' : ClockId) : (s.modInvoice n f).lane d' = s.lane d' := rfl
@[simp] theorem State.modInvoice_board (n : Nat) (f : Invoice → Invoice) (d' : ClockId) : (s.modInvoice n f).board d' = s.board d' := rfl
@[simp] theorem State.modInvoice_row (n : Nat) (f : Invoice → Invoice) (r' : RowId) : (s.modInvoice n f).row r' = s.row r' := rfl
@[simp] theorem State.modInvoice_desk (n : Nat) (f : Invoice → Invoice) (d' : DeskId) : (s.modInvoice n f).desk d' = s.desk d' := rfl
@[simp] theorem State.modInvoice_lot (n : Nat) (f : Invoice → Invoice) (m : Nat) : (s.modInvoice n f).lot m = s.lot m := rfl
@[simp] theorem State.modInvoice_buyer (n : Nat) (f : Invoice → Invoice) (m : Nat) : (s.modInvoice n f).buyer m = s.buyer m := rfl
@[simp] theorem State.setArbiter_clock (a : Arbiter) (d' : ClockId) : (s.setArbiter a).clock d' = s.clock d' := rfl
@[simp] theorem State.setArbiter_lane (a : Arbiter) (d' : ClockId) : (s.setArbiter a).lane d' = s.lane d' := rfl
@[simp] theorem State.setArbiter_board (a : Arbiter) (d' : ClockId) : (s.setArbiter a).board d' = s.board d' := rfl
@[simp] theorem State.setArbiter_row (a : Arbiter) (r' : RowId) : (s.setArbiter a).row r' = s.row r' := rfl
@[simp] theorem State.setArbiter_desk (a : Arbiter) (d' : DeskId) : (s.setArbiter a).desk d' = s.desk d' := rfl
@[simp] theorem State.setArbiter_lot (a : Arbiter) (m : Nat) : (s.setArbiter a).lot m = s.lot m := rfl
@[simp] theorem State.setArbiter_buyer (a : Arbiter) (m : Nat) : (s.setArbiter a).buyer m = s.buyer m := rfl
@[simp] theorem State.setArbiter_invoice (a : Arbiter) (m : Nat) : (s.setArbiter a).invoice m = s.invoice m := rfl
@[simp] theorem State.setJournal_clock (j : Journal) (d' : ClockId) : (s.setJournal j).clock d' = s.clock d' := rfl
@[simp] theorem State.setJournal_lane (j : Journal) (d' : ClockId) : (s.setJournal j).lane d' = s.lane d' := rfl
@[simp] theorem State.setJournal_board (j : Journal) (d' : ClockId) : (s.setJournal j).board d' = s.board d' := rfl
@[simp] theorem State.setJournal_row (j : Journal) (r' : RowId) : (s.setJournal j).row r' = s.row r' := rfl
@[simp] theorem State.setJournal_desk (j : Journal) (d' : DeskId) : (s.setJournal j).desk d' = s.desk d' := rfl
@[simp] theorem State.setJournal_lot (j : Journal) (m : Nat) : (s.setJournal j).lot m = s.lot m := rfl
@[simp] theorem State.setJournal_buyer (j : Journal) (m : Nat) : (s.setJournal j).buyer m = s.buyer m := rfl
@[simp] theorem State.setJournal_invoice (j : Journal) (m : Nat) : (s.setJournal j).invoice m = s.invoice m := rfl
@[simp] theorem State.count_clock (f : LedgerCounters → LedgerCounters) (d' : ClockId) : (s.count f).clock d' = s.clock d' := rfl
@[simp] theorem State.count_lane (f : LedgerCounters → LedgerCounters) (d' : ClockId) : (s.count f).lane d' = s.lane d' := rfl
@[simp] theorem State.count_board (f : LedgerCounters → LedgerCounters) (d' : ClockId) : (s.count f).board d' = s.board d' := rfl
@[simp] theorem State.count_row (f : LedgerCounters → LedgerCounters) (r' : RowId) : (s.count f).row r' = s.row r' := rfl
@[simp] theorem State.count_desk (f : LedgerCounters → LedgerCounters) (d' : DeskId) : (s.count f).desk d' = s.desk d' := rfl
@[simp] theorem State.count_lot (f : LedgerCounters → LedgerCounters) (m : Nat) : (s.count f).lot m = s.lot m := rfl
@[simp] theorem State.count_buyer (f : LedgerCounters → LedgerCounters) (m : Nat) : (s.count f).buyer m = s.buyer m := rfl
@[simp] theorem State.count_invoice (f : LedgerCounters → LedgerCounters) (m : Nat) : (s.count f).invoice m = s.invoice m := rfl
@[simp] theorem State.setLastSale_clock (c : ClockId) (x : Option LastSale) (d' : ClockId) : (s.setLastSale c x).clock d' = s.clock d' := rfl
@[simp] theorem State.setLastSale_lane (c : ClockId) (x : Option LastSale) (d' : ClockId) : (s.setLastSale c x).lane d' = s.lane d' := rfl
@[simp] theorem State.setLastSale_board (c : ClockId) (x : Option LastSale) (d' : ClockId) : (s.setLastSale c x).board d' = s.board d' := rfl
@[simp] theorem State.setLastSale_row (c : ClockId) (x : Option LastSale) (r' : RowId) : (s.setLastSale c x).row r' = s.row r' := rfl
@[simp] theorem State.setLastSale_desk (c : ClockId) (x : Option LastSale) (d' : DeskId) : (s.setLastSale c x).desk d' = s.desk d' := rfl
@[simp] theorem State.setLastSale_lot (c : ClockId) (x : Option LastSale) (m : Nat) : (s.setLastSale c x).lot m = s.lot m := rfl
@[simp] theorem State.setLastSale_buyer (c : ClockId) (x : Option LastSale) (m : Nat) : (s.setLastSale c x).buyer m = s.buyer m := rfl
@[simp] theorem State.setLastSale_invoice (c : ClockId) (x : Option LastSale) (m : Nat) : (s.setLastSale c x).invoice m = s.invoice m := rfl

/-! ### Desks -/

@[simp] theorem State.setDesk_pending (d : DeskId) (x : Desk) : (s.setDesk d x).pending = s.pending := rfl
@[simp] theorem State.setDesk_timebase (d : DeskId) (x : Desk) : (s.setDesk d x).timebase = s.timebase := rfl
@[simp] theorem State.setDesk_hlp (d : DeskId) (x : Desk) : (s.setDesk d x).hlp = s.hlp := rfl
@[simp] theorem State.setDesk_lots (d : DeskId) (x : Desk) : (s.setDesk d x).lots = s.lots := rfl
@[simp] theorem State.setDesk_lanes (d : DeskId) (x : Desk) : (s.setDesk d x).lanes = s.lanes := rfl
@[simp] theorem State.setDesk_clocks (d : DeskId) (x : Desk) : (s.setDesk d x).clocks = s.clocks := rfl
@[simp] theorem State.setDesk_ledger (d : DeskId) (x : Desk) : (s.setDesk d x).ledger = s.ledger := rfl
@[simp] theorem State.setDesk_boards (d : DeskId) (x : Desk) : (s.setDesk d x).boards = s.boards := rfl
@[simp] theorem State.setDesk_hall (d : DeskId) (x : Desk) : (s.setDesk d x).hall = s.hall := rfl
@[simp] theorem State.setDesk_bus_ticks (d : DeskId) (x : Desk) : (s.setDesk d x).bus.ticks = s.bus.ticks := rfl
@[simp] theorem State.setDesk_bus_nextRow (d : DeskId) (x : Desk) : (s.setDesk d x).bus.nextRow = s.bus.nextRow := rfl
@[simp] theorem State.setDesk_bus_activity (d : DeskId) (x : Desk) : (s.setDesk d x).bus.activity = s.bus.activity := rfl
@[simp] theorem State.setDesk_bus_poll (d : DeskId) (x : Desk) : (s.setDesk d x).bus.poll = s.bus.poll := rfl
@[simp] theorem State.setDesk_bus_lineHeld (d : DeskId) (x : Desk) : (s.setDesk d x).bus.lineHeld = s.bus.lineHeld := rfl
@[simp] theorem State.setDesk_bus_ticksSent (d : DeskId) (x : Desk) : (s.setDesk d x).bus.ticksSent = s.bus.ticksSent := rfl
@[simp] theorem State.setDesk_bus_ticksDropped (d : DeskId) (x : Desk) : (s.setDesk d x).bus.ticksDropped = s.bus.ticksDropped := rfl
@[simp] theorem State.setDesk_bus_nextArrival (d : DeskId) (x : Desk) : (s.setDesk d x).bus.nextArrival = s.bus.nextArrival := rfl

/-! ### Raising a report and placing a reply -/

@[simp] theorem raise_pending (b : ReportBody) : (raise b s).pending = s.pending := by
  unfold raise; split
  · split <;> rfl
  · rfl
@[simp] theorem raise_timebase (b : ReportBody) : (raise b s).timebase = s.timebase := by
  unfold raise; split
  · split <;> rfl
  · rfl
@[simp] theorem raise_lots (b : ReportBody) : (raise b s).lots = s.lots := by
  unfold raise; split
  · split <;> rfl
  · rfl
@[simp] theorem raise_lanes (b : ReportBody) : (raise b s).lanes = s.lanes := by
  unfold raise; split
  · split <;> rfl
  · rfl
@[simp] theorem raise_clocks (b : ReportBody) : (raise b s).clocks = s.clocks := by
  unfold raise; split
  · split <;> rfl
  · rfl
@[simp] theorem raise_bus (b : ReportBody) : (raise b s).bus = s.bus := by
  unfold raise; split
  · split <;> rfl
  · rfl
@[simp] theorem raise_ledger (b : ReportBody) : (raise b s).ledger = s.ledger := by
  unfold raise; split
  · split <;> rfl
  · rfl
@[simp] theorem raise_boards (b : ReportBody) : (raise b s).boards = s.boards := by
  unfold raise; split
  · split <;> rfl
  · rfl
@[simp] theorem raise_hall (b : ReportBody) : (raise b s).hall = s.hall := by
  unfold raise; split
  · split <;> rfl
  · rfl
@[simp] theorem raise_hlp_linkRate (b : ReportBody) : (raise b s).hlp.linkRate = s.hlp.linkRate := by
  unfold raise; split
  · split <;> rfl
  · rfl
@[simp] theorem raise_hlp_activeRate (b : ReportBody) : (raise b s).hlp.activeRate = s.hlp.activeRate := by
  unfold raise; split
  · split <;> rfl
  · rfl
@[simp] theorem raise_hlp_supervision (b : ReportBody) : (raise b s).hlp.supervision = s.hlp.supervision := by
  unfold raise; split
  · split <;> rfl
  · rfl
@[simp] theorem raise_hlp_link (b : ReportBody) : (raise b s).hlp.link = s.hlp.link := by
  unfold raise; split
  · split <;> rfl
  · rfl
@[simp] theorem raise_hlp_supervisionEnds (b : ReportBody) : (raise b s).hlp.supervisionEnds = s.hlp.supervisionEnds := by
  unfold raise; split
  · split <;> rfl
  · rfl
@[simp] theorem raise_hlp_receiver (b : ReportBody) : (raise b s).hlp.receiver = s.hlp.receiver := by
  unfold raise; split
  · split <;> rfl
  · rfl
@[simp] theorem raise_hlp_held (b : ReportBody) : (raise b s).hlp.held = s.hlp.held := by
  unfold raise; split
  · split <;> rfl
  · rfl
@[simp] theorem raise_hlp_replies (b : ReportBody) : (raise b s).hlp.replies = s.hlp.replies := by
  unfold raise; split
  · split <;> rfl
  · rfl
@[simp] theorem raise_hlp_resetting (b : ReportBody) : (raise b s).hlp.resetting = s.hlp.resetting := by
  unfold raise; split
  · split <;> rfl
  · rfl
@[simp] theorem raise_hlp_enables (b : ReportBody) : (raise b s).hlp.enables = s.hlp.enables := by
  unfold raise; split
  · split <;> rfl
  · rfl
@[simp] theorem raise_hlp_framesGood (b : ReportBody) : (raise b s).hlp.framesGood = s.hlp.framesGood := by
  unfold raise; split
  · split <;> rfl
  · rfl
@[simp] theorem raise_hlp_framesBad (b : ReportBody) : (raise b s).hlp.framesBad = s.hlp.framesBad := by
  unfold raise; split
  · split <;> rfl
  · rfl
@[simp] theorem raise_hlp_overruns (b : ReportBody) : (raise b s).hlp.overruns = s.hlp.overruns := by
  unfold raise; split
  · split <;> rfl
  · rfl
@[simp] theorem placeReply_pending (r : Reply) : (placeReply r s).pending = s.pending := rfl
@[simp] theorem placeReply_timebase (r : Reply) : (placeReply r s).timebase = s.timebase := rfl
@[simp] theorem placeReply_lots (r : Reply) : (placeReply r s).lots = s.lots := rfl
@[simp] theorem placeReply_lanes (r : Reply) : (placeReply r s).lanes = s.lanes := rfl
@[simp] theorem placeReply_clocks (r : Reply) : (placeReply r s).clocks = s.clocks := rfl
@[simp] theorem placeReply_bus (r : Reply) : (placeReply r s).bus = s.bus := rfl
@[simp] theorem placeReply_ledger (r : Reply) : (placeReply r s).ledger = s.ledger := rfl
@[simp] theorem placeReply_boards (r : Reply) : (placeReply r s).boards = s.boards := rfl
@[simp] theorem placeReply_hall (r : Reply) : (placeReply r s).hall = s.hall := rfl
@[simp] theorem placeReply_hlp_linkRate (r : Reply) : (placeReply r s).hlp.linkRate = s.hlp.linkRate := rfl
@[simp] theorem placeReply_hlp_activeRate (r : Reply) : (placeReply r s).hlp.activeRate = s.hlp.activeRate := rfl
@[simp] theorem placeReply_hlp_supervision (r : Reply) : (placeReply r s).hlp.supervision = s.hlp.supervision := rfl
@[simp] theorem placeReply_hlp_link (r : Reply) : (placeReply r s).hlp.link = s.hlp.link := rfl
@[simp] theorem placeReply_hlp_supervisionEnds (r : Reply) : (placeReply r s).hlp.supervisionEnds = s.hlp.supervisionEnds := rfl
@[simp] theorem placeReply_hlp_receiver (r : Reply) : (placeReply r s).hlp.receiver = s.hlp.receiver := rfl
@[simp] theorem placeReply_hlp_held (r : Reply) : (placeReply r s).hlp.held = s.hlp.held := rfl
@[simp] theorem placeReply_hlp_resetting (r : Reply) : (placeReply r s).hlp.resetting = s.hlp.resetting := rfl
@[simp] theorem placeReply_hlp_reports (r : Reply) : (placeReply r s).hlp.reports = s.hlp.reports := rfl
@[simp] theorem placeReply_hlp_reportNumber (r : Reply) : (placeReply r s).hlp.reportNumber = s.hlp.reportNumber := rfl
@[simp] theorem placeReply_hlp_lostCount (r : Reply) : (placeReply r s).hlp.lostCount = s.hlp.lostCount := rfl
@[simp] theorem placeReply_hlp_enables (r : Reply) : (placeReply r s).hlp.enables = s.hlp.enables := rfl
@[simp] theorem placeReply_hlp_attention (r : Reply) : (placeReply r s).hlp.attention = s.hlp.attention := rfl
@[simp] theorem placeReply_hlp_framesGood (r : Reply) : (placeReply r s).hlp.framesGood = s.hlp.framesGood := rfl
@[simp] theorem placeReply_hlp_framesBad (r : Reply) : (placeReply r s).hlp.framesBad = s.hlp.framesBad := rfl
@[simp] theorem placeReply_hlp_overruns (r : Reply) : (placeReply r s).hlp.overruns = s.hlp.overruns := rfl
@[simp] theorem placeReply_hlp_replies (r : Reply) : (placeReply r s).hlp.replies = s.hlp.replies ++ [r] := rfl

end Sys2Proof.Machine
end

