-- ==== Sys2Proof/Laws/Frames.lean ====
section
/-! SUPPORT. What the shared operations of the blocks leave as it was: for each operation and each part of the state it
does not reach, that this part is unchanged. -/

namespace Sys2Proof.Machine

variable (s : State)

/-! ## Boards -/

@[simp] theorem sendDisplay_pending (c : ClockId) : (sendDisplay c s).pending = s.pending := by
  rfl

@[simp] theorem sendDisplay_timebase (c : ClockId) : (sendDisplay c s).timebase = s.timebase := by
  rfl

@[simp] theorem sendDisplay_hlp (c : ClockId) : (sendDisplay c s).hlp = s.hlp := by
  rfl

@[simp] theorem sendDisplay_lots (c : ClockId) : (sendDisplay c s).lots = s.lots := by
  rfl

@[simp] theorem sendDisplay_lanes (c : ClockId) : (sendDisplay c s).lanes = s.lanes := by
  rfl

@[simp] theorem sendDisplay_clocks (c : ClockId) : (sendDisplay c s).clocks = s.clocks := by
  rfl

@[simp] theorem sendDisplay_bus (c : ClockId) : (sendDisplay c s).bus = s.bus := by
  rfl

@[simp] theorem sendDisplay_ledger (c : ClockId) : (sendDisplay c s).ledger = s.ledger := by
  rfl

@[simp] theorem sendDisplay_hall (c : ClockId) : (sendDisplay c s).hall = s.hall := by
  rfl

@[simp] theorem sendProbe_pending (c : ClockId) : (sendProbe c s).pending = s.pending := by
  rfl

@[simp] theorem sendProbe_timebase (c : ClockId) : (sendProbe c s).timebase = s.timebase := by
  rfl

@[simp] theorem sendProbe_hlp (c : ClockId) : (sendProbe c s).hlp = s.hlp := by
  rfl

@[simp] theorem sendProbe_lots (c : ClockId) : (sendProbe c s).lots = s.lots := by
  rfl

@[simp] theorem sendProbe_lanes (c : ClockId) : (sendProbe c s).lanes = s.lanes := by
  rfl

@[simp] theorem sendProbe_clocks (c : ClockId) : (sendProbe c s).clocks = s.clocks := by
  rfl

@[simp] theorem sendProbe_bus (c : ClockId) : (sendProbe c s).bus = s.bus := by
  rfl

@[simp] theorem sendProbe_ledger (c : ClockId) : (sendProbe c s).ledger = s.ledger := by
  rfl

@[simp] theorem sendProbe_hall (c : ClockId) : (sendProbe c s).hall = s.hall := by
  rfl

@[simp] theorem markChanged_pending (c : ClockId) : (markChanged c s).pending = s.pending := by
  rfl

@[simp] theorem markChanged_timebase (c : ClockId) : (markChanged c s).timebase = s.timebase := by
  rfl

@[simp] theorem markChanged_hlp (c : ClockId) : (markChanged c s).hlp = s.hlp := by
  rfl

@[simp] theorem markChanged_lots (c : ClockId) : (markChanged c s).lots = s.lots := by
  rfl

@[simp] theorem markChanged_lanes (c : ClockId) : (markChanged c s).lanes = s.lanes := by
  rfl

@[simp] theorem markChanged_clocks (c : ClockId) : (markChanged c s).clocks = s.clocks := by
  rfl

@[simp] theorem markChanged_bus (c : ClockId) : (markChanged c s).bus = s.bus := by
  rfl

@[simp] theorem markChanged_ledger (c : ClockId) : (markChanged c s).ledger = s.ledger := by
  rfl

@[simp] theorem markChanged_hall (c : ClockId) : (markChanged c s).hall = s.hall := by
  rfl

@[simp] theorem askUpdate_pending (c : ClockId) : (askUpdate c s).pending = s.pending := by
  unfold askUpdate; repeat' (first | split | rfl)

@[simp] theorem askUpdate_timebase (c : ClockId) : (askUpdate c s).timebase = s.timebase := by
  unfold askUpdate; repeat' (first | split | rfl)

@[simp] theorem askUpdate_hlp (c : ClockId) : (askUpdate c s).hlp = s.hlp := by
  unfold askUpdate; repeat' (first | split | rfl)

@[simp] theorem askUpdate_lots (c : ClockId) : (askUpdate c s).lots = s.lots := by
  unfold askUpdate; repeat' (first | split | rfl)

@[simp] theorem askUpdate_lanes (c : ClockId) : (askUpdate c s).lanes = s.lanes := by
  unfold askUpdate; repeat' (first | split | rfl)

@[simp] theorem askUpdate_clocks (c : ClockId) : (askUpdate c s).clocks = s.clocks := by
  unfold askUpdate; repeat' (first | split | rfl)

@[simp] theorem askUpdate_bus (c : ClockId) : (askUpdate c s).bus = s.bus := by
  unfold askUpdate; repeat' (first | split | rfl)

@[simp] theorem askUpdate_ledger (c : ClockId) : (askUpdate c s).ledger = s.ledger := by
  unfold askUpdate; repeat' (first | split | rfl)

@[simp] theorem askUpdate_hall (c : ClockId) : (askUpdate c s).hall = s.hall := by
  unfold askUpdate; repeat' (first | split | rfl)

@[simp] theorem linkFree_pending (c : ClockId) : (linkFree c s).pending = s.pending := by
  unfold linkFree; repeat' (first | split | rfl | simp)

@[simp] theorem linkFree_timebase (c : ClockId) : (linkFree c s).timebase = s.timebase := by
  unfold linkFree; repeat' (first | split | rfl | simp)

@[simp] theorem linkFree_hlp (c : ClockId) : (linkFree c s).hlp = s.hlp := by
  unfold linkFree; repeat' (first | split | rfl | simp)

@[simp] theorem linkFree_lots (c : ClockId) : (linkFree c s).lots = s.lots := by
  unfold linkFree; repeat' (first | split | rfl | simp)

@[simp] theorem linkFree_lanes (c : ClockId) : (linkFree c s).lanes = s.lanes := by
  unfold linkFree; repeat' (first | split | rfl | simp)

@[simp] theorem linkFree_clocks (c : ClockId) : (linkFree c s).clocks = s.clocks := by
  unfold linkFree; repeat' (first | split | rfl | simp)

@[simp] theorem linkFree_bus (c : ClockId) : (linkFree c s).bus = s.bus := by
  unfold linkFree; repeat' (first | split | rfl | simp)

@[simp] theorem linkFree_ledger (c : ClockId) : (linkFree c s).ledger = s.ledger := by
  unfold linkFree; repeat' (first | split | rfl | simp)

@[simp] theorem linkFree_hall (c : ClockId) : (linkFree c s).hall = s.hall := by
  unfold linkFree; repeat' (first | split | rfl | simp)

@[simp] theorem refreshBoard_pending (c : ClockId) : (refreshBoard c s).pending = s.pending := by
  unfold refreshBoard; repeat' (first | split | rfl)

@[simp] theorem refreshBoard_timebase (c : ClockId) : (refreshBoard c s).timebase = s.timebase := by
  unfold refreshBoard; repeat' (first | split | rfl)

@[simp] theorem refreshBoard_hlp (c : ClockId) : (refreshBoard c s).hlp = s.hlp := by
  unfold refreshBoard; repeat' (first | split | rfl)

@[simp] theorem refreshBoard_lots (c : ClockId) : (refreshBoard c s).lots = s.lots := by
  unfold refreshBoard; repeat' (first | split | rfl)

@[simp] theorem refreshBoard_lanes (c : ClockId) : (refreshBoard c s).lanes = s.lanes := by
  unfold refreshBoard; repeat' (first | split | rfl)

@[simp] theorem refreshBoard_clocks (c : ClockId) : (refreshBoard c s).clocks = s.clocks := by
  unfold refreshBoard; repeat' (first | split | rfl)

@[simp] theorem refreshBoard_bus (c : ClockId) : (refreshBoard c s).bus = s.bus := by
  unfold refreshBoard; repeat' (first | split | rfl)

@[simp] theorem refreshBoard_ledger (c : ClockId) : (refreshBoard c s).ledger = s.ledger := by
  unfold refreshBoard; repeat' (first | split | rfl)

@[simp] theorem refreshBoard_hall (c : ClockId) : (refreshBoard c s).hall = s.hall := by
  unfold refreshBoard; repeat' (first | split | rfl)

@[simp] theorem discardAnswer_pending (c : ClockId) : (discardAnswer c s).pending = s.pending := by
  rfl

@[simp] theorem discardAnswer_timebase (c : ClockId) : (discardAnswer c s).timebase = s.timebase := by
  rfl

@[simp] theorem discardAnswer_hlp (c : ClockId) : (discardAnswer c s).hlp = s.hlp := by
  rfl

@[simp] theorem discardAnswer_lots (c : ClockId) : (discardAnswer c s).lots = s.lots := by
  rfl

@[simp] theorem discardAnswer_lanes (c : ClockId) : (discardAnswer c s).lanes = s.lanes := by
  rfl

@[simp] theorem discardAnswer_clocks (c : ClockId) : (discardAnswer c s).clocks = s.clocks := by
  rfl

@[simp] theorem discardAnswer_bus (c : ClockId) : (discardAnswer c s).bus = s.bus := by
  rfl

@[simp] theorem discardAnswer_ledger (c : ClockId) : (discardAnswer c s).ledger = s.ledger := by
  rfl

@[simp] theorem discardAnswer_hall (c : ClockId) : (discardAnswer c s).hall = s.hall := by
  rfl

/-! ## Desks -/

@[simp] theorem handTick_pending (c : ClockId) : (handTick c s).pending = s.pending := by
  unfold handTick; repeat' (first | split | rfl)

@[simp] theorem handTick_timebase (c : ClockId) : (handTick c s).timebase = s.timebase := by
  unfold handTick; repeat' (first | split | rfl)

@[simp] theorem handTick_hlp (c : ClockId) : (handTick c s).hlp = s.hlp := by
  unfold handTick; repeat' (first | split | rfl)

@[simp] theorem handTick_lots (c : ClockId) : (handTick c s).lots = s.lots := by
  unfold handTick; repeat' (first | split | rfl)

@[simp] theorem handTick_lanes (c : ClockId) : (handTick c s).lanes = s.lanes := by
  unfold handTick; repeat' (first | split | rfl)

@[simp] theorem handTick_clocks (c : ClockId) : (handTick c s).clocks = s.clocks := by
  unfold handTick; repeat' (first | split | rfl)

@[simp] theorem handTick_ledger (c : ClockId) : (handTick c s).ledger = s.ledger := by
  unfold handTick; repeat' (first | split | rfl)

@[simp] theorem handTick_boards (c : ClockId) : (handTick c s).boards = s.boards := by
  unfold handTick; repeat' (first | split | rfl)

@[simp] theorem handTick_hall (c : ClockId) : (handTick c s).hall = s.hall := by
  unfold handTick; repeat' (first | split | rfl)

@[simp] theorem busFree_pending : (busFree s).pending = s.pending := by
  unfold busFree; repeat' (first | split | rfl)

@[simp] theorem busFree_timebase : (busFree s).timebase = s.timebase := by
  unfold busFree; repeat' (first | split | rfl)

@[simp] theorem busFree_hlp : (busFree s).hlp = s.hlp := by
  unfold busFree; repeat' (first | split | rfl)

@[simp] theorem busFree_lots : (busFree s).lots = s.lots := by
  unfold busFree; repeat' (first | split | rfl)

@[simp] theorem busFree_lanes : (busFree s).lanes = s.lanes := by
  unfold busFree; repeat' (first | split | rfl)

@[simp] theorem busFree_clocks : (busFree s).clocks = s.clocks := by
  unfold busFree; repeat' (first | split | rfl)

@[simp] theorem busFree_ledger : (busFree s).ledger = s.ledger := by
  unfold busFree; repeat' (first | split | rfl)

@[simp] theorem busFree_boards : (busFree s).boards = s.boards := by
  unfold busFree; repeat' (first | split | rfl)

@[simp] theorem busFree_hall : (busFree s).hall = s.hall := by
  unfold busFree; repeat' (first | split | rfl)

@[simp] theorem pulseWin_pending (d : DeskId) : (pulseWin d s).pending = s.pending := by
  rfl

@[simp] theorem pulseWin_timebase (d : DeskId) : (pulseWin d s).timebase = s.timebase := by
  rfl

@[simp] theorem pulseWin_hlp (d : DeskId) : (pulseWin d s).hlp = s.hlp := by
  rfl

@[simp] theorem pulseWin_lots (d : DeskId) : (pulseWin d s).lots = s.lots := by
  rfl

@[simp] theorem pulseWin_lanes (d : DeskId) : (pulseWin d s).lanes = s.lanes := by
  rfl

@[simp] theorem pulseWin_clocks (d : DeskId) : (pulseWin d s).clocks = s.clocks := by
  rfl

@[simp] theorem pulseWin_ledger (d : DeskId) : (pulseWin d s).ledger = s.ledger := by
  rfl

@[simp] theorem pulseWin_boards (d : DeskId) : (pulseWin d s).boards = s.boards := by
  rfl

@[simp] theorem pulseWin_hall (d : DeskId) : (pulseWin d s).hall = s.hall := by
  rfl

@[simp] theorem pulseRefused_pending (d : DeskId) : (pulseRefused d s).pending = s.pending := by
  rfl

@[simp] theorem pulseRefused_timebase (d : DeskId) : (pulseRefused d s).timebase = s.timebase := by
  rfl

@[simp] theorem pulseRefused_hlp (d : DeskId) : (pulseRefused d s).hlp = s.hlp := by
  rfl

@[simp] theorem pulseRefused_lots (d : DeskId) : (pulseRefused d s).lots = s.lots := by
  rfl

@[simp] theorem pulseRefused_lanes (d : DeskId) : (pulseRefused d s).lanes = s.lanes := by
  rfl

@[simp] theorem pulseRefused_clocks (d : DeskId) : (pulseRefused d s).clocks = s.clocks := by
  rfl

@[simp] theorem pulseRefused_ledger (d : DeskId) : (pulseRefused d s).ledger = s.ledger := by
  rfl

@[simp] theorem pulseRefused_boards (d : DeskId) : (pulseRefused d s).boards = s.boards := by
  rfl

@[simp] theorem pulseRefused_hall (d : DeskId) : (pulseRefused d s).hall = s.hall := by
  rfl

@[simp] theorem countRefused_pending (d : DeskId) (r : DeskRefusal) : (countRefused d r s).pending = s.pending := by
  unfold countRefused; repeat' (first | split | rfl)

@[simp] theorem countRefused_timebase (d : DeskId) (r : DeskRefusal) : (countRefused d r s).timebase = s.timebase := by
  unfold countRefused; repeat' (first | split | rfl)

@[simp] theorem countRefused_hlp (d : DeskId) (r : DeskRefusal) : (countRefused d r s).hlp = s.hlp := by
  unfold countRefused; repeat' (first | split | rfl)

@[simp] theorem countRefused_lots (d : DeskId) (r : DeskRefusal) : (countRefused d r s).lots = s.lots := by
  unfold countRefused; repeat' (first | split | rfl)

@[simp] theorem countRefused_lanes (d : DeskId) (r : DeskRefusal) : (countRefused d r s).lanes = s.lanes := by
  unfold countRefused; repeat' (first | split | rfl)

@[simp] theorem countRefused_clocks (d : DeskId) (r : DeskRefusal) : (countRefused d r s).clocks = s.clocks := by
  unfold countRefused; repeat' (first | split | rfl)

@[simp] theorem countRefused_ledger (d : DeskId) (r : DeskRefusal) : (countRefused d r s).ledger = s.ledger := by
  unfold countRefused; repeat' (first | split | rfl)

@[simp] theorem countRefused_boards (d : DeskId) (r : DeskRefusal) : (countRefused d r s).boards = s.boards := by
  unfold countRefused; repeat' (first | split | rfl)

@[simp] theorem countRefused_hall (d : DeskId) (r : DeskRefusal) : (countRefused d r s).hall = s.hall := by
  unfold countRefused; repeat' (first | split | rfl)

@[simp] theorem refusePress_pending (d : DeskId) (r : DeskRefusal) (c : ClockId) : (refusePress d r c s).pending = s.pending := by
  unfold refusePress; repeat' (first | split | rfl | simp)

@[simp] theorem refusePress_timebase (d : DeskId) (r : DeskRefusal) (c : ClockId) : (refusePress d r c s).timebase = s.timebase := by
  unfold refusePress; repeat' (first | split | rfl | simp)

@[simp] theorem refusePress_hlp (d : DeskId) (r : DeskRefusal) (c : ClockId) : (refusePress d r c s).hlp = s.hlp := by
  unfold refusePress; repeat' (first | split | rfl | simp)

@[simp] theorem refusePress_lots (d : DeskId) (r : DeskRefusal) (c : ClockId) : (refusePress d r c s).lots = s.lots := by
  unfold refusePress; repeat' (first | split | rfl | simp)

@[simp] theorem refusePress_lanes (d : DeskId) (r : DeskRefusal) (c : ClockId) : (refusePress d r c s).lanes = s.lanes := by
  unfold refusePress; repeat' (first | split | rfl | simp)

@[simp] theorem refusePress_clocks (d : DeskId) (r : DeskRefusal) (c : ClockId) : (refusePress d r c s).clocks = s.clocks := by
  unfold refusePress; repeat' (first | split | rfl | simp)

@[simp] theorem refusePress_ledger (d : DeskId) (r : DeskRefusal) (c : ClockId) : (refusePress d r c s).ledger = s.ledger := by
  unfold refusePress; repeat' (first | split | rfl | simp)

@[simp] theorem refusePress_boards (d : DeskId) (r : DeskRefusal) (c : ClockId) : (refusePress d r c s).boards = s.boards := by
  unfold refusePress; repeat' (first | split | rfl | simp)

@[simp] theorem refusePress_hall (d : DeskId) (r : DeskRefusal) (c : ClockId) : (refusePress d r c s).hall = s.hall := by
  unfold refusePress; repeat' (first | split | rfl | simp)

@[simp] theorem unbindDesk_pending (d : DeskId) : (unbindDesk d s).pending = s.pending := by
  unfold unbindDesk; repeat' (first | split | rfl)

@[simp] theorem unbindDesk_timebase (d : DeskId) : (unbindDesk d s).timebase = s.timebase := by
  unfold unbindDesk; repeat' (first | split | rfl)

@[simp] theorem unbindDesk_hlp (d : DeskId) : (unbindDesk d s).hlp = s.hlp := by
  unfold unbindDesk; repeat' (first | split | rfl)

@[simp] theorem unbindDesk_lots (d : DeskId) : (unbindDesk d s).lots = s.lots := by
  unfold unbindDesk; repeat' (first | split | rfl)

@[simp] theorem unbindDesk_lanes (d : DeskId) : (unbindDesk d s).lanes = s.lanes := by
  unfold unbindDesk; repeat' (first | split | rfl)

@[simp] theorem unbindDesk_clocks (d : DeskId) : (unbindDesk d s).clocks = s.clocks := by
  unfold unbindDesk; repeat' (first | split | rfl)

@[simp] theorem unbindDesk_boards (d : DeskId) : (unbindDesk d s).boards = s.boards := by
  unfold unbindDesk; repeat' (first | split | rfl)

@[simp] theorem unbindDesk_hall (d : DeskId) : (unbindDesk d s).hall = s.hall := by
  unfold unbindDesk; repeat' (first | split | rfl)

@[simp] theorem bindDesk_pending (d : DeskId) (b : Nat) : (bindDesk d b s).pending = s.pending := by
  unfold bindDesk; repeat' (first | split | rfl | simp)

@[simp] theorem bindDesk_timebase (d : DeskId) (b : Nat) : (bindDesk d b s).timebase = s.timebase := by
  unfold bindDesk; repeat' (first | split | rfl | simp)

@[simp] theorem bindDesk_hlp (d : DeskId) (b : Nat) : (bindDesk d b s).hlp = s.hlp := by
  unfold bindDesk; repeat' (first | split | rfl | simp)

@[simp] theorem bindDesk_lots (d : DeskId) (b : Nat) : (bindDesk d b s).lots = s.lots := by
  unfold bindDesk; repeat' (first | split | rfl | simp)

@[simp] theorem bindDesk_lanes (d : DeskId) (b : Nat) : (bindDesk d b s).lanes = s.lanes := by
  unfold bindDesk; repeat' (first | split | rfl | simp)

@[simp] theorem bindDesk_clocks (d : DeskId) (b : Nat) : (bindDesk d b s).clocks = s.clocks := by
  unfold bindDesk; repeat' (first | split | rfl | simp)

@[simp] theorem bindDesk_boards (d : DeskId) (b : Nat) : (bindDesk d b s).boards = s.boards := by
  unfold bindDesk; repeat' (first | split | rfl | simp)

@[simp] theorem bindDesk_hall (d : DeskId) (b : Nat) : (bindDesk d b s).hall = s.hall := by
  unfold bindDesk; repeat' (first | split | rfl | simp)

@[simp] theorem refuseSignOn_pending (d : DeskId) : (refuseSignOn d s).pending = s.pending := by
  unfold refuseSignOn; repeat' (first | split | rfl | simp)

@[simp] theorem refuseSignOn_timebase (d : DeskId) : (refuseSignOn d s).timebase = s.timebase := by
  unfold refuseSignOn; repeat' (first | split | rfl | simp)

@[simp] theorem refuseSignOn_hlp (d : DeskId) : (refuseSignOn d s).hlp = s.hlp := by
  unfold refuseSignOn; repeat' (first | split | rfl | simp)

@[simp] theorem refuseSignOn_lots (d : DeskId) : (refuseSignOn d s).lots = s.lots := by
  unfold refuseSignOn; repeat' (first | split | rfl | simp)

@[simp] theorem refuseSignOn_lanes (d : DeskId) : (refuseSignOn d s).lanes = s.lanes := by
  unfold refuseSignOn; repeat' (first | split | rfl | simp)

@[simp] theorem refuseSignOn_clocks (d : DeskId) : (refuseSignOn d s).clocks = s.clocks := by
  unfold refuseSignOn; repeat' (first | split | rfl | simp)

@[simp] theorem refuseSignOn_boards (d : DeskId) : (refuseSignOn d s).boards = s.boards := by
  unfold refuseSignOn; repeat' (first | split | rfl | simp)

@[simp] theorem refuseSignOn_hall (d : DeskId) : (refuseSignOn d s).hall = s.hall := by
  unfold refuseSignOn; repeat' (first | split | rfl | simp)

@[simp] theorem signOn_pending (d : DeskId) (b : Nat) : (signOn d b s).pending = s.pending := by
  unfold signOn; repeat' (first | split | rfl | simp)

@[simp] theorem signOn_timebase (d : DeskId) (b : Nat) : (signOn d b s).timebase = s.timebase := by
  unfold signOn; repeat' (first | split | rfl | simp)

@[simp] theorem signOn_hlp (d : DeskId) (b : Nat) : (signOn d b s).hlp = s.hlp := by
  unfold signOn; repeat' (first | split | rfl | simp)

@[simp] theorem signOn_lots (d : DeskId) (b : Nat) : (signOn d b s).lots = s.lots := by
  unfold signOn; repeat' (first | split | rfl | simp)

@[simp] theorem signOn_lanes (d : DeskId) (b : Nat) : (signOn d b s).lanes = s.lanes := by
  unfold signOn; repeat' (first | split | rfl | simp)

@[simp] theorem signOn_clocks (d : DeskId) (b : Nat) : (signOn d b s).clocks = s.clocks := by
  unfold signOn; repeat' (first | split | rfl | simp)

@[simp] theorem signOn_boards (d : DeskId) (b : Nat) : (signOn d b s).boards = s.boards := by
  unfold signOn; repeat' (first | split | rfl | simp)

@[simp] theorem signOn_hall (d : DeskId) (b : Nat) : (signOn d b s).hall = s.hall := by
  unfold signOn; repeat' (first | split | rfl | simp)

@[simp] theorem missRow_pending (r : RowId) : (missRow r s).pending = s.pending := by
  unfold missRow; repeat' (first | split | rfl | simp)

@[simp] theorem missRow_timebase (r : RowId) : (missRow r s).timebase = s.timebase := by
  unfold missRow; repeat' (first | split | rfl | simp)

@[simp] theorem missRow_lots (r : RowId) : (missRow r s).lots = s.lots := by
  unfold missRow; repeat' (first | split | rfl | simp)

@[simp] theorem missRow_lanes (r : RowId) : (missRow r s).lanes = s.lanes := by
  unfold missRow; repeat' (first | split | rfl | simp)

@[simp] theorem missRow_clocks (r : RowId) : (missRow r s).clocks = s.clocks := by
  unfold missRow; repeat' (first | split | rfl | simp)

@[simp] theorem missRow_ledger (r : RowId) : (missRow r s).ledger = s.ledger := by
  unfold missRow; repeat' (first | split | rfl | simp)

@[simp] theorem missRow_boards (r : RowId) : (missRow r s).boards = s.boards := by
  unfold missRow; repeat' (first | split | rfl | simp)

@[simp] theorem missRow_hall (r : RowId) : (missRow r s).hall = s.hall := by
  unfold missRow; repeat' (first | split | rfl | simp)

@[simp] theorem endWait_pending (held : Bool) : (endWait held s).pending = s.pending := by
  unfold endWait; repeat' (first | split | rfl | simp)

@[simp] theorem endWait_timebase (held : Bool) : (endWait held s).timebase = s.timebase := by
  unfold endWait; repeat' (first | split | rfl | simp)

@[simp] theorem endWait_hlp (held : Bool) : (endWait held s).hlp = s.hlp := by
  unfold endWait; repeat' (first | split | rfl | simp)

@[simp] theorem endWait_lots (held : Bool) : (endWait held s).lots = s.lots := by
  unfold endWait; repeat' (first | split | rfl | simp)

@[simp] theorem endWait_lanes (held : Bool) : (endWait held s).lanes = s.lanes := by
  unfold endWait; repeat' (first | split | rfl | simp)

@[simp] theorem endWait_clocks (held : Bool) : (endWait held s).clocks = s.clocks := by
  unfold endWait; repeat' (first | split | rfl | simp)

@[simp] theorem endWait_ledger (held : Bool) : (endWait held s).ledger = s.ledger := by
  unfold endWait; repeat' (first | split | rfl | simp)

@[simp] theorem endWait_boards (held : Bool) : (endWait held s).boards = s.boards := by
  unfold endWait; repeat' (first | split | rfl | simp)

@[simp] theorem endWait_hall (held : Bool) : (endWait held s).hall = s.hall := by
  unfold endWait; repeat' (first | split | rfl | simp)

@[simp] theorem goodRow_pending (r : RowId) : (goodRow r s).pending = s.pending := by
  unfold goodRow; repeat' (first | split | rfl | simp)

@[simp] theorem goodRow_timebase (r : RowId) : (goodRow r s).timebase = s.timebase := by
  unfold goodRow; repeat' (first | split | rfl | simp)

@[simp] theorem goodRow_lots (r : RowId) : (goodRow r s).lots = s.lots := by
  unfold goodRow; repeat' (first | split | rfl | simp)

@[simp] theorem goodRow_lanes (r : RowId) : (goodRow r s).lanes = s.lanes := by
  unfold goodRow; repeat' (first | split | rfl | simp)

@[simp] theorem goodRow_clocks (r : RowId) : (goodRow r s).clocks = s.clocks := by
  unfold goodRow; repeat' (first | split | rfl | simp)

@[simp] theorem goodRow_ledger (r : RowId) : (goodRow r s).ledger = s.ledger := by
  unfold goodRow; repeat' (first | split | rfl | simp)

@[simp] theorem goodRow_boards (r : RowId) : (goodRow r s).boards = s.boards := by
  unfold goodRow; repeat' (first | split | rfl | simp)

@[simp] theorem goodRow_hall (r : RowId) : (goodRow r s).hall = s.hall := by
  unfold goodRow; repeat' (first | split | rfl | simp)

/-! ## Journal -/

@[simp] theorem grant_pending (c : ClockId) : (grant c s).pending = s.pending := by
  rfl

@[simp] theorem grant_timebase (c : ClockId) : (grant c s).timebase = s.timebase := by
  rfl

@[simp] theorem grant_hlp (c : ClockId) : (grant c s).hlp = s.hlp := by
  rfl

@[simp] theorem grant_lots (c : ClockId) : (grant c s).lots = s.lots := by
  rfl

@[simp] theorem grant_lanes (c : ClockId) : (grant c s).lanes = s.lanes := by
  rfl

@[simp] theorem grant_bus (c : ClockId) : (grant c s).bus = s.bus := by
  rfl

@[simp] theorem grant_ledger (c : ClockId) : (grant c s).ledger = s.ledger := by
  rfl

@[simp] theorem grant_boards (c : ClockId) : (grant c s).boards = s.boards := by
  rfl

@[simp] theorem grant_hall (c : ClockId) : (grant c s).hall = s.hall := by
  rfl

@[simp] theorem askLater_pending (c : ClockId) : (askLater c s).pending = s.pending := by
  rfl

@[simp] theorem askLater_timebase (c : ClockId) : (askLater c s).timebase = s.timebase := by
  rfl

@[simp] theorem askLater_hlp (c : ClockId) : (askLater c s).hlp = s.hlp := by
  rfl

@[simp] theorem askLater_lots (c : ClockId) : (askLater c s).lots = s.lots := by
  rfl

@[simp] theorem askLater_lanes (c : ClockId) : (askLater c s).lanes = s.lanes := by
  rfl

@[simp] theorem askLater_bus (c : ClockId) : (askLater c s).bus = s.bus := by
  rfl

@[simp] theorem askLater_ledger (c : ClockId) : (askLater c s).ledger = s.ledger := by
  rfl

@[simp] theorem askLater_boards (c : ClockId) : (askLater c s).boards = s.boards := by
  rfl

@[simp] theorem askLater_hall (c : ClockId) : (askLater c s).hall = s.hall := by
  rfl

@[simp] theorem defer_pending (c : ClockId) : (defer c s).pending = s.pending := by
  unfold defer; repeat' (first | split | rfl)

@[simp] theorem defer_timebase (c : ClockId) : (defer c s).timebase = s.timebase := by
  unfold defer; repeat' (first | split | rfl)

@[simp] theorem defer_hlp (c : ClockId) : (defer c s).hlp = s.hlp := by
  unfold defer; repeat' (first | split | rfl)

@[simp] theorem defer_lots (c : ClockId) : (defer c s).lots = s.lots := by
  unfold defer; repeat' (first | split | rfl)

@[simp] theorem defer_lanes (c : ClockId) : (defer c s).lanes = s.lanes := by
  unfold defer; repeat' (first | split | rfl)

@[simp] theorem defer_clocks (c : ClockId) : (defer c s).clocks = s.clocks := by
  unfold defer; repeat' (first | split | rfl)

@[simp] theorem defer_bus (c : ClockId) : (defer c s).bus = s.bus := by
  unfold defer; repeat' (first | split | rfl)

@[simp] theorem defer_boards (c : ClockId) : (defer c s).boards = s.boards := by
  unfold defer; repeat' (first | split | rfl)

@[simp] theorem defer_hall (c : ClockId) : (defer c s).hall = s.hall := by
  unfold defer; repeat' (first | split | rfl)

@[simp] theorem leaveLoaded_pending (c : ClockId) : (leaveLoaded c s).pending = s.pending := by
  rfl

@[simp] theorem leaveLoaded_timebase (c : ClockId) : (leaveLoaded c s).timebase = s.timebase := by
  rfl

@[simp] theorem leaveLoaded_hlp (c : ClockId) : (leaveLoaded c s).hlp = s.hlp := by
  rfl

@[simp] theorem leaveLoaded_lots (c : ClockId) : (leaveLoaded c s).lots = s.lots := by
  rfl

@[simp] theorem leaveLoaded_lanes (c : ClockId) : (leaveLoaded c s).lanes = s.lanes := by
  rfl

@[simp] theorem leaveLoaded_bus (c : ClockId) : (leaveLoaded c s).bus = s.bus := by
  rfl

@[simp] theorem leaveLoaded_boards (c : ClockId) : (leaveLoaded c s).boards = s.boards := by
  rfl

@[simp] theorem leaveLoaded_hall (c : ClockId) : (leaveLoaded c s).hall = s.hall := by
  rfl

@[simp] theorem writeLine_pending (l : JournalLine) : (writeLine l s).pending = s.pending := by
  rfl

@[simp] theorem writeLine_timebase (l : JournalLine) : (writeLine l s).timebase = s.timebase := by
  rfl

@[simp] theorem writeLine_hlp (l : JournalLine) : (writeLine l s).hlp = s.hlp := by
  rfl

@[simp] theorem writeLine_lots (l : JournalLine) : (writeLine l s).lots = s.lots := by
  rfl

@[simp] theorem writeLine_lanes (l : JournalLine) : (writeLine l s).lanes = s.lanes := by
  rfl

@[simp] theorem writeLine_clocks (l : JournalLine) : (writeLine l s).clocks = s.clocks := by
  rfl

@[simp] theorem writeLine_bus (l : JournalLine) : (writeLine l s).bus = s.bus := by
  rfl

@[simp] theorem writeLine_boards (l : JournalLine) : (writeLine l s).boards = s.boards := by
  rfl

@[simp] theorem writeLine_hall (l : JournalLine) : (writeLine l s).hall = s.hall := by
  rfl

@[simp] theorem setLotMark_pending (c : ClockId) (m : Option Nat) : (setLotMark c m s).pending = s.pending := by
  rfl

@[simp] theorem setLotMark_timebase (c : ClockId) (m : Option Nat) : (setLotMark c m s).timebase = s.timebase := by
  rfl

@[simp] theorem setLotMark_hlp (c : ClockId) (m : Option Nat) : (setLotMark c m s).hlp = s.hlp := by
  rfl

@[simp] theorem setLotMark_lots (c : ClockId) (m : Option Nat) : (setLotMark c m s).lots = s.lots := by
  rfl

@[simp] theorem setLotMark_lanes (c : ClockId) (m : Option Nat) : (setLotMark c m s).lanes = s.lanes := by
  rfl

@[simp] theorem setLotMark_clocks (c : ClockId) (m : Option Nat) : (setLotMark c m s).clocks = s.clocks := by
  rfl

@[simp] theorem setLotMark_bus (c : ClockId) (m : Option Nat) : (setLotMark c m s).bus = s.bus := by
  rfl

@[simp] theorem setLotMark_boards (c : ClockId) (m : Option Nat) : (setLotMark c m s).boards = s.boards := by
  rfl

@[simp] theorem setLotMark_hall (c : ClockId) (m : Option Nat) : (setLotMark c m s).hall = s.hall := by
  rfl

@[simp] theorem writeNoSale_pending (c : ClockId) (x : NoSaleCause) : (writeNoSale c x s).pending = s.pending := by
  unfold writeNoSale; repeat' (first | split | rfl | simp)

@[simp] theorem writeNoSale_timebase (c : ClockId) (x : NoSaleCause) : (writeNoSale c x s).timebase = s.timebase := by
  unfold writeNoSale; repeat' (first | split | rfl | simp)

@[simp] theorem writeNoSale_hlp (c : ClockId) (x : NoSaleCause) : (writeNoSale c x s).hlp = s.hlp := by
  unfold writeNoSale; repeat' (first | split | rfl | simp)

@[simp] theorem writeNoSale_lots (c : ClockId) (x : NoSaleCause) : (writeNoSale c x s).lots = s.lots := by
  unfold writeNoSale; repeat' (first | split | rfl | simp)

@[simp] theorem writeNoSale_lanes (c : ClockId) (x : NoSaleCause) : (writeNoSale c x s).lanes = s.lanes := by
  unfold writeNoSale; repeat' (first | split | rfl | simp)

@[simp] theorem writeNoSale_bus (c : ClockId) (x : NoSaleCause) : (writeNoSale c x s).bus = s.bus := by
  unfold writeNoSale; repeat' (first | split | rfl | simp)

@[simp] theorem writeNoSale_boards (c : ClockId) (x : NoSaleCause) : (writeNoSale c x s).boards = s.boards := by
  unfold writeNoSale; repeat' (first | split | rfl | simp)

@[simp] theorem writeNoSale_hall (c : ClockId) (x : NoSaleCause) : (writeNoSale c x s).hall = s.hall := by
  unfold writeNoSale; repeat' (first | split | rfl | simp)

/-! ## Lanes -/

@[simp] theorem modLots_pending (f : Lot → Lot) (l : List (Option Nat)) : (modLots f l s).pending = s.pending := by
  unfold modLots
  induction l generalizing s with
  | nil => rfl
  | cons p t ih => cases p <;> simp [List.foldl_cons, ih]

@[simp] theorem modLots_timebase (f : Lot → Lot) (l : List (Option Nat)) : (modLots f l s).timebase = s.timebase := by
  unfold modLots
  induction l generalizing s with
  | nil => rfl
  | cons p t ih => cases p <;> simp [List.foldl_cons, ih]

@[simp] theorem modLots_hlp (f : Lot → Lot) (l : List (Option Nat)) : (modLots f l s).hlp = s.hlp := by
  unfold modLots
  induction l generalizing s with
  | nil => rfl
  | cons p t ih => cases p <;> simp [List.foldl_cons, ih]

@[simp] theorem modLots_lanes (f : Lot → Lot) (l : List (Option Nat)) : (modLots f l s).lanes = s.lanes := by
  unfold modLots
  induction l generalizing s with
  | nil => rfl
  | cons p t ih => cases p <;> simp [List.foldl_cons, ih]

@[simp] theorem modLots_clocks (f : Lot → Lot) (l : List (Option Nat)) : (modLots f l s).clocks = s.clocks := by
  unfold modLots
  induction l generalizing s with
  | nil => rfl
  | cons p t ih => cases p <;> simp [List.foldl_cons, ih]

@[simp] theorem modLots_bus (f : Lot → Lot) (l : List (Option Nat)) : (modLots f l s).bus = s.bus := by
  unfold modLots
  induction l generalizing s with
  | nil => rfl
  | cons p t ih => cases p <;> simp [List.foldl_cons, ih]

@[simp] theorem modLots_ledger (f : Lot → Lot) (l : List (Option Nat)) : (modLots f l s).ledger = s.ledger := by
  unfold modLots
  induction l generalizing s with
  | nil => rfl
  | cons p t ih => cases p <;> simp [List.foldl_cons, ih]

@[simp] theorem modLots_boards (f : Lot → Lot) (l : List (Option Nat)) : (modLots f l s).boards = s.boards := by
  unfold modLots
  induction l generalizing s with
  | nil => rfl
  | cons p t ih => cases p <;> simp [List.foldl_cons, ih]

@[simp] theorem modLots_hall (f : Lot → Lot) (l : List (Option Nat)) : (modLots f l s).hall = s.hall := by
  unfold modLots
  induction l generalizing s with
  | nil => rfl
  | cons p t ih => cases p <;> simp [List.foldl_cons, ih]

@[simp] theorem passage_pending (c : ClockId) : (passage c s).pending = s.pending := by
  unfold passage; repeat' (first | split | rfl | simp)

@[simp] theorem passage_timebase (c : ClockId) : (passage c s).timebase = s.timebase := by
  unfold passage; repeat' (first | split | rfl | simp)

@[simp] theorem passage_clocks (c : ClockId) : (passage c s).clocks = s.clocks := by
  unfold passage; repeat' (first | split | rfl | simp)

@[simp] theorem passage_bus (c : ClockId) : (passage c s).bus = s.bus := by
  unfold passage; repeat' (first | split | rfl | simp)

@[simp] theorem passage_ledger (c : ClockId) : (passage c s).ledger = s.ledger := by
  unfold passage; repeat' (first | split | rfl | simp)

@[simp] theorem passage_boards (c : ClockId) : (passage c s).boards = s.boards := by
  unfold passage; repeat' (first | split | rfl | simp)

@[simp] theorem passage_hall (c : ClockId) : (passage c s).hall = s.hall := by
  unfold passage; repeat' (first | split | rfl | simp)

@[simp] theorem gateChanges_pending (c : ClockId) : (gateChanges c s).pending = s.pending := by
  unfold gateChanges; repeat' (first | split | rfl | simp)

@[simp] theorem gateChanges_timebase (c : ClockId) : (gateChanges c s).timebase = s.timebase := by
  unfold gateChanges; repeat' (first | split | rfl | simp)

@[simp] theorem gateChanges_clocks (c : ClockId) : (gateChanges c s).clocks = s.clocks := by
  unfold gateChanges; repeat' (first | split | rfl | simp)

@[simp] theorem gateChanges_bus (c : ClockId) : (gateChanges c s).bus = s.bus := by
  unfold gateChanges; repeat' (first | split | rfl | simp)

@[simp] theorem gateChanges_ledger (c : ClockId) : (gateChanges c s).ledger = s.ledger := by
  unfold gateChanges; repeat' (first | split | rfl | simp)

@[simp] theorem gateChanges_boards (c : ClockId) : (gateChanges c s).boards = s.boards := by
  unfold gateChanges; repeat' (first | split | rfl | simp)

@[simp] theorem gateChanges_hall (c : ClockId) : (gateChanges c s).hall = s.hall := by
  unfold gateChanges; repeat' (first | split | rfl | simp)

@[simp] theorem departHead_pending (c : ClockId) (t : Train) : (departHead c t s).pending = s.pending := by
  unfold departHead; repeat' (first | split | rfl | simp)

@[simp] theorem departHead_timebase (c : ClockId) (t : Train) : (departHead c t s).timebase = s.timebase := by
  unfold departHead; repeat' (first | split | rfl | simp)

@[simp] theorem departHead_clocks (c : ClockId) (t : Train) : (departHead c t s).clocks = s.clocks := by
  unfold departHead; repeat' (first | split | rfl | simp)

@[simp] theorem departHead_bus (c : ClockId) (t : Train) : (departHead c t s).bus = s.bus := by
  unfold departHead; repeat' (first | split | rfl | simp)

@[simp] theorem departHead_ledger (c : ClockId) (t : Train) : (departHead c t s).ledger = s.ledger := by
  unfold departHead; repeat' (first | split | rfl | simp)

@[simp] theorem departHead_boards (c : ClockId) (t : Train) : (departHead c t s).boards = s.boards := by
  unfold departHead; repeat' (first | split | rfl | simp)

@[simp] theorem departHead_hall (c : ClockId) (t : Train) : (departHead c t s).hall = s.hall := by
  unfold departHead; repeat' (first | split | rfl | simp)

@[simp] theorem departFrom_pending (c : ClockId) (l : List Train) : (departFrom c l s).pending = s.pending := by
  induction l generalizing s with
  | nil => rfl
  | cons t rest ih => unfold departFrom; split <;> simp [ih]

@[simp] theorem departFrom_timebase (c : ClockId) (l : List Train) : (departFrom c l s).timebase = s.timebase := by
  induction l generalizing s with
  | nil => rfl
  | cons t rest ih => unfold departFrom; split <;> simp [ih]

@[simp] theorem departFrom_clocks (c : ClockId) (l : List Train) : (departFrom c l s).clocks = s.clocks := by
  induction l generalizing s with
  | nil => rfl
  | cons t rest ih => unfold departFrom; split <;> simp [ih]

@[simp] theorem departFrom_bus (c : ClockId) (l : List Train) : (departFrom c l s).bus = s.bus := by
  induction l generalizing s with
  | nil => rfl
  | cons t rest ih => unfold departFrom; split <;> simp [ih]

@[simp] theorem departFrom_ledger (c : ClockId) (l : List Train) : (departFrom c l s).ledger = s.ledger := by
  induction l generalizing s with
  | nil => rfl
  | cons t rest ih => unfold departFrom; split <;> simp [ih]

@[simp] theorem departFrom_boards (c : ClockId) (l : List Train) : (departFrom c l s).boards = s.boards := by
  induction l generalizing s with
  | nil => rfl
  | cons t rest ih => unfold departFrom; split <;> simp [ih]

@[simp] theorem departFrom_hall (c : ClockId) (l : List Train) : (departFrom c l s).hall = s.hall := by
  induction l generalizing s with
  | nil => rfl
  | cons t rest ih => unfold departFrom; split <;> simp [ih]

@[simp] theorem testDepartures_pending (c : ClockId) : (testDepartures c s).pending = s.pending := by
  unfold testDepartures; repeat' (first | split | rfl | simp)

@[simp] theorem testDepartures_timebase (c : ClockId) : (testDepartures c s).timebase = s.timebase := by
  unfold testDepartures; repeat' (first | split | rfl | simp)

@[simp] theorem testDepartures_clocks (c : ClockId) : (testDepartures c s).clocks = s.clocks := by
  unfold testDepartures; repeat' (first | split | rfl | simp)

@[simp] theorem testDepartures_bus (c : ClockId) : (testDepartures c s).bus = s.bus := by
  unfold testDepartures; repeat' (first | split | rfl | simp)

@[simp] theorem testDepartures_ledger (c : ClockId) : (testDepartures c s).ledger = s.ledger := by
  unfold testDepartures; repeat' (first | split | rfl | simp)

@[simp] theorem testDepartures_boards (c : ClockId) : (testDepartures c s).boards = s.boards := by
  unfold testDepartures; repeat' (first | split | rfl | simp)

@[simp] theorem testDepartures_hall (c : ClockId) : (testDepartures c s).hall = s.hall := by
  unfold testDepartures; repeat' (first | split | rfl | simp)

@[simp] theorem gapRunsOut_pending (c : ClockId) : (gapRunsOut c s).pending = s.pending := by
  unfold gapRunsOut; repeat' (first | split | rfl | simp)

@[simp] theorem gapRunsOut_timebase (c : ClockId) : (gapRunsOut c s).timebase = s.timebase := by
  unfold gapRunsOut; repeat' (first | split | rfl | simp)

@[simp] theorem gapRunsOut_clocks (c : ClockId) : (gapRunsOut c s).clocks = s.clocks := by
  unfold gapRunsOut; repeat' (first | split | rfl | simp)

@[simp] theorem gapRunsOut_bus (c : ClockId) : (gapRunsOut c s).bus = s.bus := by
  unfold gapRunsOut; repeat' (first | split | rfl | simp)

@[simp] theorem gapRunsOut_ledger (c : ClockId) : (gapRunsOut c s).ledger = s.ledger := by
  unfold gapRunsOut; repeat' (first | split | rfl | simp)

@[simp] theorem gapRunsOut_boards (c : ClockId) : (gapRunsOut c s).boards = s.boards := by
  unfold gapRunsOut; repeat' (first | split | rfl | simp)

@[simp] theorem gapRunsOut_hall (c : ClockId) : (gapRunsOut c s).hall = s.hall := by
  unfold gapRunsOut; repeat' (first | split | rfl | simp)

/-! ## Clocks -/

@[simp] theorem startStep_pending (c : ClockId) : (startStep c s).pending = s.pending := by
  rfl

@[simp] theorem startStep_timebase (c : ClockId) : (startStep c s).timebase = s.timebase := by
  rfl

@[simp] theorem startStep_hlp (c : ClockId) : (startStep c s).hlp = s.hlp := by
  rfl

@[simp] theorem startStep_lots (c : ClockId) : (startStep c s).lots = s.lots := by
  rfl

@[simp] theorem startStep_lanes (c : ClockId) : (startStep c s).lanes = s.lanes := by
  rfl

@[simp] theorem startStep_bus (c : ClockId) : (startStep c s).bus = s.bus := by
  rfl

@[simp] theorem startStep_ledger (c : ClockId) : (startStep c s).ledger = s.ledger := by
  rfl

@[simp] theorem startStep_boards (c : ClockId) : (startStep c s).boards = s.boards := by
  rfl

@[simp] theorem startStep_hall (c : ClockId) : (startStep c s).hall = s.hall := by
  rfl

@[simp] theorem runClock_pending (c : ClockId) : (runClock c s).pending = s.pending := by
  unfold runClock; repeat' (first | split | rfl | simp)

@[simp] theorem runClock_timebase (c : ClockId) : (runClock c s).timebase = s.timebase := by
  unfold runClock; repeat' (first | split | rfl | simp)

@[simp] theorem runClock_hlp (c : ClockId) : (runClock c s).hlp = s.hlp := by
  unfold runClock; repeat' (first | split | rfl | simp)

@[simp] theorem runClock_lots (c : ClockId) : (runClock c s).lots = s.lots := by
  unfold runClock; repeat' (first | split | rfl | simp)

@[simp] theorem runClock_lanes (c : ClockId) : (runClock c s).lanes = s.lanes := by
  unfold runClock; repeat' (first | split | rfl | simp)

@[simp] theorem runClock_hall (c : ClockId) : (runClock c s).hall = s.hall := by
  unfold runClock; repeat' (first | split | rfl | simp)

@[simp] theorem enterHeld_pending (c : ClockId) (x : HoldCause) : (enterHeld c x s).pending = s.pending := by
  unfold enterHeld; repeat' (first | split | rfl | simp)

@[simp] theorem enterHeld_timebase (c : ClockId) (x : HoldCause) : (enterHeld c x s).timebase = s.timebase := by
  unfold enterHeld; repeat' (first | split | rfl | simp)

@[simp] theorem enterHeld_lots (c : ClockId) (x : HoldCause) : (enterHeld c x s).lots = s.lots := by
  unfold enterHeld; repeat' (first | split | rfl | simp)

@[simp] theorem enterHeld_lanes (c : ClockId) (x : HoldCause) : (enterHeld c x s).lanes = s.lanes := by
  unfold enterHeld; repeat' (first | split | rfl | simp)

@[simp] theorem enterHeld_bus (c : ClockId) (x : HoldCause) : (enterHeld c x s).bus = s.bus := by
  unfold enterHeld; repeat' (first | split | rfl | simp)

@[simp] theorem enterHeld_ledger (c : ClockId) (x : HoldCause) : (enterHeld c x s).ledger = s.ledger := by
  unfold enterHeld; repeat' (first | split | rfl | simp)

@[simp] theorem enterHeld_hall (c : ClockId) (x : HoldCause) : (enterHeld c x s).hall = s.hall := by
  unfold enterHeld; repeat' (first | split | rfl | simp)

@[simp] theorem testNew_pending (c : ClockId) : (testNew c s).pending = s.pending := by
  unfold testNew; repeat' (first | split | simp | rfl)

@[simp] theorem testNew_timebase (c : ClockId) : (testNew c s).timebase = s.timebase := by
  unfold testNew; repeat' (first | split | simp | rfl)

@[simp] theorem testNew_hlp (c : ClockId) : (testNew c s).hlp = s.hlp := by
  unfold testNew; repeat' (first | split | simp | rfl)

@[simp] theorem testNew_lots (c : ClockId) : (testNew c s).lots = s.lots := by
  unfold testNew; repeat' (first | split | simp | rfl)

@[simp] theorem testNew_lanes (c : ClockId) : (testNew c s).lanes = s.lanes := by
  unfold testNew; repeat' (first | split | simp | rfl)

@[simp] theorem testNew_hall (c : ClockId) : (testNew c s).hall = s.hall := by
  unfold testNew; repeat' (first | split | simp | rfl)

@[simp] theorem testRestart_pending (c : ClockId) : (testRestart c s).pending = s.pending := by
  unfold testRestart; repeat' (first | split | rfl | simp)

@[simp] theorem testRestart_timebase (c : ClockId) : (testRestart c s).timebase = s.timebase := by
  unfold testRestart; repeat' (first | split | rfl | simp)

@[simp] theorem testRestart_lots (c : ClockId) : (testRestart c s).lots = s.lots := by
  unfold testRestart; repeat' (first | split | rfl | simp)

@[simp] theorem testRestart_lanes (c : ClockId) : (testRestart c s).lanes = s.lanes := by
  unfold testRestart; repeat' (first | split | rfl | simp)

@[simp] theorem testRestart_hall (c : ClockId) : (testRestart c s).hall = s.hall := by
  unfold testRestart; repeat' (first | split | rfl | simp)

@[simp] theorem askRestart_pending (c : ClockId) : (askRestart c s).pending = s.pending := by
  unfold askRestart; repeat' (first | split | rfl | simp)

@[simp] theorem askRestart_timebase (c : ClockId) : (askRestart c s).timebase = s.timebase := by
  unfold askRestart; repeat' (first | split | rfl | simp)

@[simp] theorem askRestart_lots (c : ClockId) : (askRestart c s).lots = s.lots := by
  unfold askRestart; repeat' (first | split | rfl | simp)

@[simp] theorem askRestart_lanes (c : ClockId) : (askRestart c s).lanes = s.lanes := by
  unfold askRestart; repeat' (first | split | rfl | simp)

@[simp] theorem askRestart_hall (c : ClockId) : (askRestart c s).hall = s.hall := by
  unfold askRestart; repeat' (first | split | rfl | simp)

@[simp] theorem tellClock_pending (c : ClockId) : (tellClock c s).pending = s.pending := by
  unfold tellClock; repeat' (first | split | rfl | simp)

@[simp] theorem tellClock_timebase (c : ClockId) : (tellClock c s).timebase = s.timebase := by
  unfold tellClock; repeat' (first | split | rfl | simp)

@[simp] theorem tellClock_lots (c : ClockId) : (tellClock c s).lots = s.lots := by
  unfold tellClock; repeat' (first | split | rfl | simp)

@[simp] theorem tellClock_lanes (c : ClockId) : (tellClock c s).lanes = s.lanes := by
  unfold tellClock; repeat' (first | split | rfl | simp)

@[simp] theorem tellClock_hall (c : ClockId) : (tellClock c s).hall = s.hall := by
  unfold tellClock; repeat' (first | split | rfl | simp)

@[simp] theorem tellSpace_pending (c : ClockId) : (tellSpace c s).pending = s.pending := by
  unfold tellSpace; repeat' (first | split | rfl | simp)

@[simp] theorem tellSpace_timebase (c : ClockId) : (tellSpace c s).timebase = s.timebase := by
  unfold tellSpace; repeat' (first | split | rfl | simp)

@[simp] theorem tellSpace_lots (c : ClockId) : (tellSpace c s).lots = s.lots := by
  unfold tellSpace; repeat' (first | split | rfl | simp)

@[simp] theorem tellSpace_lanes (c : ClockId) : (tellSpace c s).lanes = s.lanes := by
  unfold tellSpace; repeat' (first | split | rfl | simp)

@[simp] theorem tellSpace_hall (c : ClockId) : (tellSpace c s).hall = s.hall := by
  unfold tellSpace; repeat' (first | split | rfl | simp)

@[simp] theorem releaseDeferred_pending (c : ClockId) : (releaseDeferred c s).pending = s.pending := by
  unfold releaseDeferred; repeat' (first | split | rfl | simp)

@[simp] theorem releaseDeferred_timebase (c : ClockId) : (releaseDeferred c s).timebase = s.timebase := by
  unfold releaseDeferred; repeat' (first | split | rfl | simp)

@[simp] theorem releaseDeferred_lots (c : ClockId) : (releaseDeferred c s).lots = s.lots := by
  unfold releaseDeferred; repeat' (first | split | rfl | simp)

@[simp] theorem releaseDeferred_lanes (c : ClockId) : (releaseDeferred c s).lanes = s.lanes := by
  unfold releaseDeferred; repeat' (first | split | rfl | simp)

@[simp] theorem releaseDeferred_hall (c : ClockId) : (releaseDeferred c s).hall = s.hall := by
  unfold releaseDeferred; repeat' (first | split | rfl | simp)

@[simp] theorem holdClock_pending (c : ClockId) (x : HoldCause) : (holdClock c x s).pending = s.pending := by
  unfold holdClock; repeat' (first | split | rfl | simp)

@[simp] theorem holdClock_timebase (c : ClockId) (x : HoldCause) : (holdClock c x s).timebase = s.timebase := by
  unfold holdClock; repeat' (first | split | rfl | simp)

@[simp] theorem holdClock_lots (c : ClockId) (x : HoldCause) : (holdClock c x s).lots = s.lots := by
  unfold holdClock; repeat' (first | split | rfl | simp)

@[simp] theorem holdClock_lanes (c : ClockId) (x : HoldCause) : (holdClock c x s).lanes = s.lanes := by
  unfold holdClock; repeat' (first | split | rfl | simp)

@[simp] theorem holdClock_bus (c : ClockId) (x : HoldCause) : (holdClock c x s).bus = s.bus := by
  unfold holdClock; repeat' (first | split | rfl | simp)

@[simp] theorem holdClock_ledger (c : ClockId) (x : HoldCause) : (holdClock c x s).ledger = s.ledger := by
  unfold holdClock; repeat' (first | split | rfl | simp)

@[simp] theorem holdClock_hall (c : ClockId) (x : HoldCause) : (holdClock c x s).hall = s.hall := by
  unfold holdClock; repeat' (first | split | rfl | simp)

@[simp] theorem takeLot_pending (c : ClockId) (l : Lot) : (takeLot c l s).pending = s.pending := by
  unfold takeLot; repeat' (first | split | rfl | simp)

@[simp] theorem takeLot_timebase (c : ClockId) (l : Lot) : (takeLot c l s).timebase = s.timebase := by
  unfold takeLot; repeat' (first | split | rfl | simp)

@[simp] theorem takeLot_hlp (c : ClockId) (l : Lot) : (takeLot c l s).hlp = s.hlp := by
  unfold takeLot; repeat' (first | split | rfl | simp)

@[simp] theorem takeLot_lanes (c : ClockId) (l : Lot) : (takeLot c l s).lanes = s.lanes := by
  unfold takeLot; repeat' (first | split | rfl | simp)

@[simp] theorem takeLot_bus (c : ClockId) (l : Lot) : (takeLot c l s).bus = s.bus := by
  unfold takeLot; repeat' (first | split | rfl | simp)

@[simp] theorem takeLot_hall (c : ClockId) (l : Lot) : (takeLot c l s).hall = s.hall := by
  unfold takeLot; repeat' (first | split | rfl | simp)

@[simp] theorem endLot_pending (c : ClockId) (x : LotEndCause) : (endLot c x s).pending = s.pending := by
  unfold endLot; repeat' (first | split | rfl | simp)

@[simp] theorem endLot_timebase (c : ClockId) (x : LotEndCause) : (endLot c x s).timebase = s.timebase := by
  unfold endLot; repeat' (first | split | rfl | simp)

@[simp] theorem endLot_bus (c : ClockId) (x : LotEndCause) : (endLot c x s).bus = s.bus := by
  unfold endLot; repeat' (first | split | rfl | simp)

@[simp] theorem endLot_hall (c : ClockId) (x : LotEndCause) : (endLot c x s).hall = s.hall := by
  unfold endLot; repeat' (first | split | rfl | simp)

@[simp] theorem stepClock_pending (c : ClockId) : (stepClock c s).pending = s.pending := by
  unfold stepClock; repeat' (first | split | rfl | simp)

@[simp] theorem stepClock_timebase (c : ClockId) : (stepClock c s).timebase = s.timebase := by
  unfold stepClock; repeat' (first | split | rfl | simp)

@[simp] theorem stepClock_hall (c : ClockId) : (stepClock c s).hall = s.hall := by
  unfold stepClock; repeat' (first | split | rfl | simp)

@[simp] theorem restartClock_pending (c : ClockId) : (restartClock c s).pending = s.pending := by
  unfold restartClock; repeat' (first | split | rfl | simp)

@[simp] theorem restartClock_timebase (c : ClockId) : (restartClock c s).timebase = s.timebase := by
  unfold restartClock; repeat' (first | split | rfl | simp)

@[simp] theorem restartClock_lots (c : ClockId) : (restartClock c s).lots = s.lots := by
  unfold restartClock; repeat' (first | split | rfl | simp)

@[simp] theorem restartClock_lanes (c : ClockId) : (restartClock c s).lanes = s.lanes := by
  unfold restartClock; repeat' (first | split | rfl | simp)

@[simp] theorem restartClock_hall (c : ClockId) : (restartClock c s).hall = s.hall := by
  unfold restartClock; repeat' (first | split | rfl | simp)

@[simp] theorem closeClock_pending (c : ClockId) : (closeClock c s).pending = s.pending := by
  unfold closeClock; repeat' (first | split | rfl | simp)

@[simp] theorem closeClock_timebase (c : ClockId) : (closeClock c s).timebase = s.timebase := by
  unfold closeClock; repeat' (first | split | rfl | simp)

@[simp] theorem closeClock_lanes (c : ClockId) : (closeClock c s).lanes = s.lanes := by
  unfold closeClock; repeat' (first | split | rfl | simp)

@[simp] theorem closeClock_bus (c : ClockId) : (closeClock c s).bus = s.bus := by
  unfold closeClock; repeat' (first | split | rfl | simp)

@[simp] theorem closeClock_hall (c : ClockId) : (closeClock c s).hall = s.hall := by
  unfold closeClock; repeat' (first | split | rfl | simp)

@[simp] theorem openClock_pending (c : ClockId) : (openClock c s).pending = s.pending := by
  unfold openClock; repeat' (first | split | rfl | simp)

@[simp] theorem openClock_timebase (c : ClockId) : (openClock c s).timebase = s.timebase := by
  unfold openClock; repeat' (first | split | rfl | simp)

@[simp] theorem openClock_lots (c : ClockId) : (openClock c s).lots = s.lots := by
  unfold openClock; repeat' (first | split | rfl | simp)

@[simp] theorem openClock_lanes (c : ClockId) : (openClock c s).lanes = s.lanes := by
  unfold openClock; repeat' (first | split | rfl | simp)

@[simp] theorem openClock_bus (c : ClockId) : (openClock c s).bus = s.bus := by
  unfold openClock; repeat' (first | split | rfl | simp)

@[simp] theorem openClock_ledger (c : ClockId) : (openClock c s).ledger = s.ledger := by
  unfold openClock; repeat' (first | split | rfl | simp)

@[simp] theorem openClock_boards (c : ClockId) : (openClock c s).boards = s.boards := by
  unfold openClock; repeat' (first | split | rfl | simp)

@[simp] theorem openClock_hall (c : ClockId) : (openClock c s).hall = s.hall := by
  unfold openClock; repeat' (first | split | rfl | simp)

@[simp] theorem missBoard_pending (c : ClockId) : (missBoard c s).pending = s.pending := by
  unfold missBoard; repeat' (first | split | rfl | simp)

@[simp] theorem missBoard_timebase (c : ClockId) : (missBoard c s).timebase = s.timebase := by
  unfold missBoard; repeat' (first | split | rfl | simp)

@[simp] theorem missBoard_lots (c : ClockId) : (missBoard c s).lots = s.lots := by
  unfold missBoard; repeat' (first | split | rfl | simp)

@[simp] theorem missBoard_lanes (c : ClockId) : (missBoard c s).lanes = s.lanes := by
  unfold missBoard; repeat' (first | split | rfl | simp)

@[simp] theorem missBoard_bus (c : ClockId) : (missBoard c s).bus = s.bus := by
  unfold missBoard; repeat' (first | split | rfl | simp)

@[simp] theorem missBoard_ledger (c : ClockId) : (missBoard c s).ledger = s.ledger := by
  unfold missBoard; repeat' (first | split | rfl | simp)

@[simp] theorem missBoard_hall (c : ClockId) : (missBoard c s).hall = s.hall := by
  unfold missBoard; repeat' (first | split | rfl | simp)

@[simp] theorem goodAnswer_pending (c : ClockId) : (goodAnswer c s).pending = s.pending := by
  unfold goodAnswer; repeat' (first | split | rfl | simp)

@[simp] theorem goodAnswer_timebase (c : ClockId) : (goodAnswer c s).timebase = s.timebase := by
  unfold goodAnswer; repeat' (first | split | rfl | simp)

@[simp] theorem goodAnswer_lots (c : ClockId) : (goodAnswer c s).lots = s.lots := by
  unfold goodAnswer; repeat' (first | split | rfl | simp)

@[simp] theorem goodAnswer_lanes (c : ClockId) : (goodAnswer c s).lanes = s.lanes := by
  unfold goodAnswer; repeat' (first | split | rfl | simp)

@[simp] theorem goodAnswer_hall (c : ClockId) : (goodAnswer c s).hall = s.hall := by
  unfold goodAnswer; repeat' (first | split | rfl | simp)

end Sys2Proof.Machine
end

