-- ==== Sys2Proof/Laws/Views.lean ====
section
/-! SUPPORT. The frames of Frames.lean said of the records read: a clock, lane, board, lot, row, desk, account or invoice
that a shared operation does not reach reads after it as before. -/

namespace Sys2Proof.Machine

/-- A clock's current lot follows from the clocks and the lots. -/
theorem currentLot_congr {s t : State} (h1 : t.clocks = s.clocks) (h2 : t.lots = s.lots) (d : ClockId) :
    t.currentLot d = s.currentLot d := by
  have e : t.lot = s.lot := by
    funext m
    simp only [State.lot, h2]
  simp only [State.currentLot, State.clock, h1, e]

variable (s : State)

/-! ## Boards -/

@[simp] theorem sendDisplay_clock (c : ClockId) (d' : ClockId) : (sendDisplay c s).clock d' = s.clock d' := by
  simp only [State.clock, sendDisplay_clocks]
@[simp] theorem sendDisplay_lane (c : ClockId) (d' : ClockId) : (sendDisplay c s).lane d' = s.lane d' := by
  simp only [State.lane, sendDisplay_lanes]
@[simp] theorem sendDisplay_lot (c : ClockId) (n' : Nat) : (sendDisplay c s).lot n' = s.lot n' := by
  simp only [State.lot, sendDisplay_lots]
@[simp] theorem sendDisplay_row (c : ClockId) (r' : RowId) : (sendDisplay c s).row r' = s.row r' := by
  simp only [State.row, sendDisplay_bus]
@[simp] theorem sendDisplay_desk (c : ClockId) (d' : DeskId) : (sendDisplay c s).desk d' = s.desk d' := by
  simp only [State.desk, State.row, sendDisplay_bus]
@[simp] theorem sendDisplay_buyer (c : ClockId) (n' : Nat) : (sendDisplay c s).buyer n' = s.buyer n' := by
  simp only [State.buyer, sendDisplay_ledger]
@[simp] theorem sendDisplay_invoice (c : ClockId) (n' : Nat) : (sendDisplay c s).invoice n' = s.invoice n' := by
  simp only [State.invoice, sendDisplay_ledger]
@[simp] theorem sendDisplay_currentLot (c : ClockId) (d' : ClockId) :
    (sendDisplay c s).currentLot d' = s.currentLot d' := by
  exact currentLot_congr (sendDisplay_clocks ..) (sendDisplay_lots ..) d'
@[simp] theorem sendProbe_clock (c : ClockId) (d' : ClockId) : (sendProbe c s).clock d' = s.clock d' := by
  simp only [State.clock, sendProbe_clocks]
@[simp] theorem sendProbe_lane (c : ClockId) (d' : ClockId) : (sendProbe c s).lane d' = s.lane d' := by
  simp only [State.lane, sendProbe_lanes]
@[simp] theorem sendProbe_lot (c : ClockId) (n' : Nat) : (sendProbe c s).lot n' = s.lot n' := by
  simp only [State.lot, sendProbe_lots]
@[simp] theorem sendProbe_row (c : ClockId) (r' : RowId) : (sendProbe c s).row r' = s.row r' := by
  simp only [State.row, sendProbe_bus]
@[simp] theorem sendProbe_desk (c : ClockId) (d' : DeskId) : (sendProbe c s).desk d' = s.desk d' := by
  simp only [State.desk, State.row, sendProbe_bus]
@[simp] theorem sendProbe_buyer (c : ClockId) (n' : Nat) : (sendProbe c s).buyer n' = s.buyer n' := by
  simp only [State.buyer, sendProbe_ledger]
@[simp] theorem sendProbe_invoice (c : ClockId) (n' : Nat) : (sendProbe c s).invoice n' = s.invoice n' := by
  simp only [State.invoice, sendProbe_ledger]
@[simp] theorem sendProbe_currentLot (c : ClockId) (d' : ClockId) :
    (sendProbe c s).currentLot d' = s.currentLot d' := by
  exact currentLot_congr (sendProbe_clocks ..) (sendProbe_lots ..) d'
@[simp] theorem markChanged_clock (c : ClockId) (d' : ClockId) : (markChanged c s).clock d' = s.clock d' := by
  simp only [State.clock, markChanged_clocks]
@[simp] theorem markChanged_lane (c : ClockId) (d' : ClockId) : (markChanged c s).lane d' = s.lane d' := by
  simp only [State.lane, markChanged_lanes]
@[simp] theorem markChanged_lot (c : ClockId) (n' : Nat) : (markChanged c s).lot n' = s.lot n' := by
  simp only [State.lot, markChanged_lots]
@[simp] theorem markChanged_row (c : ClockId) (r' : RowId) : (markChanged c s).row r' = s.row r' := by
  simp only [State.row, markChanged_bus]
@[simp] theorem markChanged_desk (c : ClockId) (d' : DeskId) : (markChanged c s).desk d' = s.desk d' := by
  simp only [State.desk, State.row, markChanged_bus]
@[simp] theorem markChanged_buyer (c : ClockId) (n' : Nat) : (markChanged c s).buyer n' = s.buyer n' := by
  simp only [State.buyer, markChanged_ledger]
@[simp] theorem markChanged_invoice (c : ClockId) (n' : Nat) : (markChanged c s).invoice n' = s.invoice n' := by
  simp only [State.invoice, markChanged_ledger]
@[simp] theorem markChanged_currentLot (c : ClockId) (d' : ClockId) :
    (markChanged c s).currentLot d' = s.currentLot d' := by
  exact currentLot_congr (markChanged_clocks ..) (markChanged_lots ..) d'
@[simp] theorem askUpdate_clock (c : ClockId) (d' : ClockId) : (askUpdate c s).clock d' = s.clock d' := by
  simp only [State.clock, askUpdate_clocks]
@[simp] theorem askUpdate_lane (c : ClockId) (d' : ClockId) : (askUpdate c s).lane d' = s.lane d' := by
  simp only [State.lane, askUpdate_lanes]
@[simp] theorem askUpdate_lot (c : ClockId) (n' : Nat) : (askUpdate c s).lot n' = s.lot n' := by
  simp only [State.lot, askUpdate_lots]
@[simp] theorem askUpdate_row (c : ClockId) (r' : RowId) : (askUpdate c s).row r' = s.row r' := by
  simp only [State.row, askUpdate_bus]
@[simp] theorem askUpdate_desk (c : ClockId) (d' : DeskId) : (askUpdate c s).desk d' = s.desk d' := by
  simp only [State.desk, State.row, askUpdate_bus]
@[simp] theorem askUpdate_buyer (c : ClockId) (n' : Nat) : (askUpdate c s).buyer n' = s.buyer n' := by
  simp only [State.buyer, askUpdate_ledger]
@[simp] theorem askUpdate_invoice (c : ClockId) (n' : Nat) : (askUpdate c s).invoice n' = s.invoice n' := by
  simp only [State.invoice, askUpdate_ledger]
@[simp] theorem askUpdate_currentLot (c : ClockId) (d' : ClockId) :
    (askUpdate c s).currentLot d' = s.currentLot d' := by
  exact currentLot_congr (askUpdate_clocks ..) (askUpdate_lots ..) d'
@[simp] theorem linkFree_clock (c : ClockId) (d' : ClockId) : (linkFree c s).clock d' = s.clock d' := by
  simp only [State.clock, linkFree_clocks]
@[simp] theorem linkFree_lane (c : ClockId) (d' : ClockId) : (linkFree c s).lane d' = s.lane d' := by
  simp only [State.lane, linkFree_lanes]
@[simp] theorem linkFree_lot (c : ClockId) (n' : Nat) : (linkFree c s).lot n' = s.lot n' := by
  simp only [State.lot, linkFree_lots]
@[simp] theorem linkFree_row (c : ClockId) (r' : RowId) : (linkFree c s).row r' = s.row r' := by
  simp only [State.row, linkFree_bus]
@[simp] theorem linkFree_desk (c : ClockId) (d' : DeskId) : (linkFree c s).desk d' = s.desk d' := by
  simp only [State.desk, State.row, linkFree_bus]
@[simp] theorem linkFree_buyer (c : ClockId) (n' : Nat) : (linkFree c s).buyer n' = s.buyer n' := by
  simp only [State.buyer, linkFree_ledger]
@[simp] theorem linkFree_invoice (c : ClockId) (n' : Nat) : (linkFree c s).invoice n' = s.invoice n' := by
  simp only [State.invoice, linkFree_ledger]
@[simp] theorem linkFree_currentLot (c : ClockId) (d' : ClockId) :
    (linkFree c s).currentLot d' = s.currentLot d' := by
  exact currentLot_congr (linkFree_clocks ..) (linkFree_lots ..) d'
@[simp] theorem refreshBoard_clock (c : ClockId) (d' : ClockId) : (refreshBoard c s).clock d' = s.clock d' := by
  simp only [State.clock, refreshBoard_clocks]
@[simp] theorem refreshBoard_lane (c : ClockId) (d' : ClockId) : (refreshBoard c s).lane d' = s.lane d' := by
  simp only [State.lane, refreshBoard_lanes]
@[simp] theorem refreshBoard_lot (c : ClockId) (n' : Nat) : (refreshBoard c s).lot n' = s.lot n' := by
  simp only [State.lot, refreshBoard_lots]
@[simp] theorem refreshBoard_row (c : ClockId) (r' : RowId) : (refreshBoard c s).row r' = s.row r' := by
  simp only [State.row, refreshBoard_bus]
@[simp] theorem refreshBoard_desk (c : ClockId) (d' : DeskId) : (refreshBoard c s).desk d' = s.desk d' := by
  simp only [State.desk, State.row, refreshBoard_bus]
@[simp] theorem refreshBoard_buyer (c : ClockId) (n' : Nat) : (refreshBoard c s).buyer n' = s.buyer n' := by
  simp only [State.buyer, refreshBoard_ledger]
@[simp] theorem refreshBoard_invoice (c : ClockId) (n' : Nat) : (refreshBoard c s).invoice n' = s.invoice n' := by
  simp only [State.invoice, refreshBoard_ledger]
@[simp] theorem refreshBoard_currentLot (c : ClockId) (d' : ClockId) :
    (refreshBoard c s).currentLot d' = s.currentLot d' := by
  exact currentLot_congr (refreshBoard_clocks ..) (refreshBoard_lots ..) d'
@[simp] theorem discardAnswer_clock (c : ClockId) (d' : ClockId) : (discardAnswer c s).clock d' = s.clock d' := by
  simp only [State.clock, discardAnswer_clocks]
@[simp] theorem discardAnswer_lane (c : ClockId) (d' : ClockId) : (discardAnswer c s).lane d' = s.lane d' := by
  simp only [State.lane, discardAnswer_lanes]
@[simp] theorem discardAnswer_lot (c : ClockId) (n' : Nat) : (discardAnswer c s).lot n' = s.lot n' := by
  simp only [State.lot, discardAnswer_lots]
@[simp] theorem discardAnswer_row (c : ClockId) (r' : RowId) : (discardAnswer c s).row r' = s.row r' := by
  simp only [State.row, discardAnswer_bus]
@[simp] theorem discardAnswer_desk (c : ClockId) (d' : DeskId) : (discardAnswer c s).desk d' = s.desk d' := by
  simp only [State.desk, State.row, discardAnswer_bus]
@[simp] theorem discardAnswer_buyer (c : ClockId) (n' : Nat) : (discardAnswer c s).buyer n' = s.buyer n' := by
  simp only [State.buyer, discardAnswer_ledger]
@[simp] theorem discardAnswer_invoice (c : ClockId) (n' : Nat) : (discardAnswer c s).invoice n' = s.invoice n' := by
  simp only [State.invoice, discardAnswer_ledger]
@[simp] theorem discardAnswer_currentLot (c : ClockId) (d' : ClockId) :
    (discardAnswer c s).currentLot d' = s.currentLot d' := by
  exact currentLot_congr (discardAnswer_clocks ..) (discardAnswer_lots ..) d'
/-! ## Desks -/

@[simp] theorem handTick_clock (c : ClockId) (d' : ClockId) : (handTick c s).clock d' = s.clock d' := by
  simp only [State.clock, handTick_clocks]
@[simp] theorem handTick_lane (c : ClockId) (d' : ClockId) : (handTick c s).lane d' = s.lane d' := by
  simp only [State.lane, handTick_lanes]
@[simp] theorem handTick_board (c : ClockId) (d' : ClockId) : (handTick c s).board d' = s.board d' := by
  simp only [State.board, handTick_boards]
@[simp] theorem handTick_lot (c : ClockId) (n' : Nat) : (handTick c s).lot n' = s.lot n' := by
  simp only [State.lot, handTick_lots]
@[simp] theorem handTick_buyer (c : ClockId) (n' : Nat) : (handTick c s).buyer n' = s.buyer n' := by
  simp only [State.buyer, handTick_ledger]
@[simp] theorem handTick_invoice (c : ClockId) (n' : Nat) : (handTick c s).invoice n' = s.invoice n' := by
  simp only [State.invoice, handTick_ledger]
@[simp] theorem handTick_currentLot (c : ClockId) (d' : ClockId) :
    (handTick c s).currentLot d' = s.currentLot d' := by
  exact currentLot_congr (handTick_clocks ..) (handTick_lots ..) d'
@[simp] theorem busFree_clock (d' : ClockId) : (busFree s).clock d' = s.clock d' := by
  simp only [State.clock, busFree_clocks]
@[simp] theorem busFree_lane (d' : ClockId) : (busFree s).lane d' = s.lane d' := by
  simp only [State.lane, busFree_lanes]
@[simp] theorem busFree_board (d' : ClockId) : (busFree s).board d' = s.board d' := by
  simp only [State.board, busFree_boards]
@[simp] theorem busFree_lot (n' : Nat) : (busFree s).lot n' = s.lot n' := by simp only [State.lot, busFree_lots]
@[simp] theorem busFree_buyer (n' : Nat) : (busFree s).buyer n' = s.buyer n' := by
  simp only [State.buyer, busFree_ledger]
@[simp] theorem busFree_invoice (n' : Nat) : (busFree s).invoice n' = s.invoice n' := by
  simp only [State.invoice, busFree_ledger]
@[simp] theorem busFree_currentLot (d' : ClockId) : (busFree s).currentLot d' = s.currentLot d' := by
  exact currentLot_congr (busFree_clocks ..) (busFree_lots ..) d'
@[simp] theorem pulseWin_clock (d : DeskId) (d' : ClockId) : (pulseWin d s).clock d' = s.clock d' := by
  simp only [State.clock, pulseWin_clocks]
@[simp] theorem pulseWin_lane (d : DeskId) (d' : ClockId) : (pulseWin d s).lane d' = s.lane d' := by
  simp only [State.lane, pulseWin_lanes]
@[simp] theorem pulseWin_board (d : DeskId) (d' : ClockId) : (pulseWin d s).board d' = s.board d' := by
  simp only [State.board, pulseWin_boards]
@[simp] theorem pulseWin_lot (d : DeskId) (n' : Nat) : (pulseWin d s).lot n' = s.lot n' := by
  simp only [State.lot, pulseWin_lots]
@[simp] theorem pulseWin_buyer (d : DeskId) (n' : Nat) : (pulseWin d s).buyer n' = s.buyer n' := by
  simp only [State.buyer, pulseWin_ledger]
@[simp] theorem pulseWin_invoice (d : DeskId) (n' : Nat) : (pulseWin d s).invoice n' = s.invoice n' := by
  simp only [State.invoice, pulseWin_ledger]
@[simp] theorem pulseWin_currentLot (d : DeskId) (d' : ClockId) : (pulseWin d s).currentLot d' = s.currentLot d' := by
  exact currentLot_congr (pulseWin_clocks ..) (pulseWin_lots ..) d'
@[simp] theorem pulseRefused_clock (d : DeskId) (d' : ClockId) : (pulseRefused d s).clock d' = s.clock d' := by
  simp only [State.clock, pulseRefused_clocks]
@[simp] theorem pulseRefused_lane (d : DeskId) (d' : ClockId) : (pulseRefused d s).lane d' = s.lane d' := by
  simp only [State.lane, pulseRefused_lanes]
@[simp] theorem pulseRefused_board (d : DeskId) (d' : ClockId) : (pulseRefused d s).board d' = s.board d' := by
  simp only [State.board, pulseRefused_boards]
@[simp] theorem pulseRefused_lot (d : DeskId) (n' : Nat) : (pulseRefused d s).lot n' = s.lot n' := by
  simp only [State.lot, pulseRefused_lots]
@[simp] theorem pulseRefused_buyer (d : DeskId) (n' : Nat) : (pulseRefused d s).buyer n' = s.buyer n' := by
  simp only [State.buyer, pulseRefused_ledger]
@[simp] theorem pulseRefused_invoice (d : DeskId) (n' : Nat) : (pulseRefused d s).invoice n' = s.invoice n' := by
  simp only [State.invoice, pulseRefused_ledger]
@[simp] theorem pulseRefused_currentLot (d : DeskId) (d' : ClockId) :
    (pulseRefused d s).currentLot d' = s.currentLot d' := by
  exact currentLot_congr (pulseRefused_clocks ..) (pulseRefused_lots ..) d'
@[simp] theorem countRefused_clock (d : DeskId) (r : DeskRefusal) (d' : ClockId) : (countRefused d r s).clock d' = s.clock d' := by
  simp only [State.clock, countRefused_clocks]
@[simp] theorem countRefused_lane (d : DeskId) (r : DeskRefusal) (d' : ClockId) : (countRefused d r s).lane d' = s.lane d' := by
  simp only [State.lane, countRefused_lanes]
@[simp] theorem countRefused_board (d : DeskId) (r : DeskRefusal) (d' : ClockId) : (countRefused d r s).board d' = s.board d' := by
  simp only [State.board, countRefused_boards]
@[simp] theorem countRefused_lot (d : DeskId) (r : DeskRefusal) (n' : Nat) : (countRefused d r s).lot n' = s.lot n' := by
  simp only [State.lot, countRefused_lots]
@[simp] theorem countRefused_buyer (d : DeskId) (r : DeskRefusal) (n' : Nat) : (countRefused d r s).buyer n' = s.buyer n' := by
  simp only [State.buyer, countRefused_ledger]
@[simp] theorem countRefused_invoice (d : DeskId) (r : DeskRefusal) (n' : Nat) : (countRefused d r s).invoice n' = s.invoice n' := by
  simp only [State.invoice, countRefused_ledger]
@[simp] theorem countRefused_currentLot (d : DeskId) (r : DeskRefusal) (d' : ClockId) :
    (countRefused d r s).currentLot d' = s.currentLot d' := by
  exact currentLot_congr (countRefused_clocks ..) (countRefused_lots ..) d'
@[simp] theorem refusePress_clock (d : DeskId) (r : DeskRefusal) (c : ClockId) (d' : ClockId) : (refusePress d r c s).clock d' = s.clock d' := by
  simp only [State.clock, refusePress_clocks]
@[simp] theorem refusePress_lane (d : DeskId) (r : DeskRefusal) (c : ClockId) (d' : ClockId) : (refusePress d r c s).lane d' = s.lane d' := by
  simp only [State.lane, refusePress_lanes]
@[simp] theorem refusePress_board (d : DeskId) (r : DeskRefusal) (c : ClockId) (d' : ClockId) : (refusePress d r c s).board d' = s.board d' := by
  simp only [State.board, refusePress_boards]
@[simp] theorem refusePress_lot (d : DeskId) (r : DeskRefusal) (c : ClockId) (n' : Nat) : (refusePress d r c s).lot n' = s.lot n' := by
  simp only [State.lot, refusePress_lots]
@[simp] theorem refusePress_buyer (d : DeskId) (r : DeskRefusal) (c : ClockId) (n' : Nat) : (refusePress d r c s).buyer n' = s.buyer n' := by
  simp only [State.buyer, refusePress_ledger]
@[simp] theorem refusePress_invoice (d : DeskId) (r : DeskRefusal) (c : ClockId) (n' : Nat) : (refusePress d r c s).invoice n' = s.invoice n' := by
  simp only [State.invoice, refusePress_ledger]
@[simp] theorem refusePress_currentLot (d : DeskId) (r : DeskRefusal) (c : ClockId) (d' : ClockId) :
    (refusePress d r c s).currentLot d' = s.currentLot d' := by
  exact currentLot_congr (refusePress_clocks ..) (refusePress_lots ..) d'
@[simp] theorem unbindDesk_clock (d : DeskId) (d' : ClockId) : (unbindDesk d s).clock d' = s.clock d' := by
  simp only [State.clock, unbindDesk_clocks]
@[simp] theorem unbindDesk_lane (d : DeskId) (d' : ClockId) : (unbindDesk d s).lane d' = s.lane d' := by
  simp only [State.lane, unbindDesk_lanes]
@[simp] theorem unbindDesk_board (d : DeskId) (d' : ClockId) : (unbindDesk d s).board d' = s.board d' := by
  simp only [State.board, unbindDesk_boards]
@[simp] theorem unbindDesk_lot (d : DeskId) (n' : Nat) : (unbindDesk d s).lot n' = s.lot n' := by
  simp only [State.lot, unbindDesk_lots]
@[simp] theorem unbindDesk_currentLot (d : DeskId) (d' : ClockId) :
    (unbindDesk d s).currentLot d' = s.currentLot d' := by
  exact currentLot_congr (unbindDesk_clocks ..) (unbindDesk_lots ..) d'
@[simp] theorem bindDesk_clock (d : DeskId) (b : Nat) (d' : ClockId) : (bindDesk d b s).clock d' = s.clock d' := by
  simp only [State.clock, bindDesk_clocks]
@[simp] theorem bindDesk_lane (d : DeskId) (b : Nat) (d' : ClockId) : (bindDesk d b s).lane d' = s.lane d' := by
  simp only [State.lane, bindDesk_lanes]
@[simp] theorem bindDesk_board (d : DeskId) (b : Nat) (d' : ClockId) : (bindDesk d b s).board d' = s.board d' := by
  simp only [State.board, bindDesk_boards]
@[simp] theorem bindDesk_lot (d : DeskId) (b : Nat) (n' : Nat) : (bindDesk d b s).lot n' = s.lot n' := by
  simp only [State.lot, bindDesk_lots]
@[simp] theorem bindDesk_currentLot (d : DeskId) (b : Nat) (d' : ClockId) :
    (bindDesk d b s).currentLot d' = s.currentLot d' := by
  exact currentLot_congr (bindDesk_clocks ..) (bindDesk_lots ..) d'
@[simp] theorem refuseSignOn_clock (d : DeskId) (d' : ClockId) : (refuseSignOn d s).clock d' = s.clock d' := by
  simp only [State.clock, refuseSignOn_clocks]
@[simp] theorem refuseSignOn_lane (d : DeskId) (d' : ClockId) : (refuseSignOn d s).lane d' = s.lane d' := by
  simp only [State.lane, refuseSignOn_lanes]
@[simp] theorem refuseSignOn_board (d : DeskId) (d' : ClockId) : (refuseSignOn d s).board d' = s.board d' := by
  simp only [State.board, refuseSignOn_boards]
@[simp] theorem refuseSignOn_lot (d : DeskId) (n' : Nat) : (refuseSignOn d s).lot n' = s.lot n' := by
  simp only [State.lot, refuseSignOn_lots]
@[simp] theorem refuseSignOn_currentLot (d : DeskId) (d' : ClockId) :
    (refuseSignOn d s).currentLot d' = s.currentLot d' := by
  exact currentLot_congr (refuseSignOn_clocks ..) (refuseSignOn_lots ..) d'
@[simp] theorem signOn_clock (d : DeskId) (b : Nat) (d' : ClockId) : (signOn d b s).clock d' = s.clock d' := by
  simp only [State.clock, signOn_clocks]
@[simp] theorem signOn_lane (d : DeskId) (b : Nat) (d' : ClockId) : (signOn d b s).lane d' = s.lane d' := by
  simp only [State.lane, signOn_lanes]
@[simp] theorem signOn_board (d : DeskId) (b : Nat) (d' : ClockId) : (signOn d b s).board d' = s.board d' := by
  simp only [State.board, signOn_boards]
@[simp] theorem signOn_lot (d : DeskId) (b : Nat) (n' : Nat) : (signOn d b s).lot n' = s.lot n' := by
  simp only [State.lot, signOn_lots]
@[simp] theorem signOn_currentLot (d : DeskId) (b : Nat) (d' : ClockId) :
    (signOn d b s).currentLot d' = s.currentLot d' := by
  exact currentLot_congr (signOn_clocks ..) (signOn_lots ..) d'
@[simp] theorem missRow_clock (r : RowId) (d' : ClockId) : (missRow r s).clock d' = s.clock d' := by
  simp only [State.clock, missRow_clocks]
@[simp] theorem missRow_lane (r : RowId) (d' : ClockId) : (missRow r s).lane d' = s.lane d' := by
  simp only [State.lane, missRow_lanes]
@[simp] theorem missRow_board (r : RowId) (d' : ClockId) : (missRow r s).board d' = s.board d' := by
  simp only [State.board, missRow_boards]
@[simp] theorem missRow_lot (r : RowId) (n' : Nat) : (missRow r s).lot n' = s.lot n' := by
  simp only [State.lot, missRow_lots]
@[simp] theorem missRow_buyer (r : RowId) (n' : Nat) : (missRow r s).buyer n' = s.buyer n' := by
  simp only [State.buyer, missRow_ledger]
@[simp] theorem missRow_invoice (r : RowId) (n' : Nat) : (missRow r s).invoice n' = s.invoice n' := by
  simp only [State.invoice, missRow_ledger]
@[simp] theorem missRow_currentLot (r : RowId) (d' : ClockId) : (missRow r s).currentLot d' = s.currentLot d' := by
  exact currentLot_congr (missRow_clocks ..) (missRow_lots ..) d'
@[simp] theorem endWait_clock (held : Bool) (d' : ClockId) : (endWait held s).clock d' = s.clock d' := by
  simp only [State.clock, endWait_clocks]
@[simp] theorem endWait_lane (held : Bool) (d' : ClockId) : (endWait held s).lane d' = s.lane d' := by
  simp only [State.lane, endWait_lanes]
@[simp] theorem endWait_board (held : Bool) (d' : ClockId) : (endWait held s).board d' = s.board d' := by
  simp only [State.board, endWait_boards]
@[simp] theorem endWait_lot (held : Bool) (n' : Nat) : (endWait held s).lot n' = s.lot n' := by
  simp only [State.lot, endWait_lots]
@[simp] theorem endWait_buyer (held : Bool) (n' : Nat) : (endWait held s).buyer n' = s.buyer n' := by
  simp only [State.buyer, endWait_ledger]
@[simp] theorem endWait_invoice (held : Bool) (n' : Nat) : (endWait held s).invoice n' = s.invoice n' := by
  simp only [State.invoice, endWait_ledger]
@[simp] theorem endWait_currentLot (held : Bool) (d' : ClockId) :
    (endWait held s).currentLot d' = s.currentLot d' := by
  exact currentLot_congr (endWait_clocks ..) (endWait_lots ..) d'
@[simp] theorem goodRow_clock (r : RowId) (d' : ClockId) : (goodRow r s).clock d' = s.clock d' := by
  simp only [State.clock, goodRow_clocks]
@[simp] theorem goodRow_lane (r : RowId) (d' : ClockId) : (goodRow r s).lane d' = s.lane d' := by
  simp only [State.lane, goodRow_lanes]
@[simp] theorem goodRow_board (r : RowId) (d' : ClockId) : (goodRow r s).board d' = s.board d' := by
  simp only [State.board, goodRow_boards]
@[simp] theorem goodRow_lot (r : RowId) (n' : Nat) : (goodRow r s).lot n' = s.lot n' := by
  simp only [State.lot, goodRow_lots]
@[simp] theorem goodRow_buyer (r : RowId) (n' : Nat) : (goodRow r s).buyer n' = s.buyer n' := by
  simp only [State.buyer, goodRow_ledger]
@[simp] theorem goodRow_invoice (r : RowId) (n' : Nat) : (goodRow r s).invoice n' = s.invoice n' := by
  simp only [State.invoice, goodRow_ledger]
@[simp] theorem goodRow_currentLot (r : RowId) (d' : ClockId) : (goodRow r s).currentLot d' = s.currentLot d' := by
  exact currentLot_congr (goodRow_clocks ..) (goodRow_lots ..) d'
/-! ## Journal -/

@[simp] theorem grant_lane (c : ClockId) (d' : ClockId) : (grant c s).lane d' = s.lane d' := by
  simp only [State.lane, grant_lanes]
@[simp] theorem grant_board (c : ClockId) (d' : ClockId) : (grant c s).board d' = s.board d' := by
  simp only [State.board, grant_boards]
@[simp] theorem grant_lot (c : ClockId) (n' : Nat) : (grant c s).lot n' = s.lot n' := by
  simp only [State.lot, grant_lots]
@[simp] theorem grant_row (c : ClockId) (r' : RowId) : (grant c s).row r' = s.row r' := by
  simp only [State.row, grant_bus]
@[simp] theorem grant_desk (c : ClockId) (d' : DeskId) : (grant c s).desk d' = s.desk d' := by
  simp only [State.desk, State.row, grant_bus]
@[simp] theorem grant_buyer (c : ClockId) (n' : Nat) : (grant c s).buyer n' = s.buyer n' := by
  simp only [State.buyer, grant_ledger]
@[simp] theorem grant_invoice (c : ClockId) (n' : Nat) : (grant c s).invoice n' = s.invoice n' := by
  simp only [State.invoice, grant_ledger]
@[simp] theorem askLater_lane (c : ClockId) (d' : ClockId) : (askLater c s).lane d' = s.lane d' := by
  simp only [State.lane, askLater_lanes]
@[simp] theorem askLater_board (c : ClockId) (d' : ClockId) : (askLater c s).board d' = s.board d' := by
  simp only [State.board, askLater_boards]
@[simp] theorem askLater_lot (c : ClockId) (n' : Nat) : (askLater c s).lot n' = s.lot n' := by
  simp only [State.lot, askLater_lots]
@[simp] theorem askLater_row (c : ClockId) (r' : RowId) : (askLater c s).row r' = s.row r' := by
  simp only [State.row, askLater_bus]
@[simp] theorem askLater_desk (c : ClockId) (d' : DeskId) : (askLater c s).desk d' = s.desk d' := by
  simp only [State.desk, State.row, askLater_bus]
@[simp] theorem askLater_buyer (c : ClockId) (n' : Nat) : (askLater c s).buyer n' = s.buyer n' := by
  simp only [State.buyer, askLater_ledger]
@[simp] theorem askLater_invoice (c : ClockId) (n' : Nat) : (askLater c s).invoice n' = s.invoice n' := by
  simp only [State.invoice, askLater_ledger]
@[simp] theorem defer_clock (c : ClockId) (d' : ClockId) : (defer c s).clock d' = s.clock d' := by
  simp only [State.clock, defer_clocks]
@[simp] theorem defer_lane (c : ClockId) (d' : ClockId) : (defer c s).lane d' = s.lane d' := by
  simp only [State.lane, defer_lanes]
@[simp] theorem defer_board (c : ClockId) (d' : ClockId) : (defer c s).board d' = s.board d' := by
  simp only [State.board, defer_boards]
@[simp] theorem defer_lot (c : ClockId) (n' : Nat) : (defer c s).lot n' = s.lot n' := by
  simp only [State.lot, defer_lots]
@[simp] theorem defer_row (c : ClockId) (r' : RowId) : (defer c s).row r' = s.row r' := by
  simp only [State.row, defer_bus]
@[simp] theorem defer_desk (c : ClockId) (d' : DeskId) : (defer c s).desk d' = s.desk d' := by
  simp only [State.desk, State.row, defer_bus]
@[simp] theorem defer_currentLot (c : ClockId) (d' : ClockId) : (defer c s).currentLot d' = s.currentLot d' := by
  exact currentLot_congr (defer_clocks ..) (defer_lots ..) d'
@[simp] theorem leaveLoaded_lane (c : ClockId) (d' : ClockId) : (leaveLoaded c s).lane d' = s.lane d' := by
  simp only [State.lane, leaveLoaded_lanes]
@[simp] theorem leaveLoaded_board (c : ClockId) (d' : ClockId) : (leaveLoaded c s).board d' = s.board d' := by
  simp only [State.board, leaveLoaded_boards]
@[simp] theorem leaveLoaded_lot (c : ClockId) (n' : Nat) : (leaveLoaded c s).lot n' = s.lot n' := by
  simp only [State.lot, leaveLoaded_lots]
@[simp] theorem leaveLoaded_row (c : ClockId) (r' : RowId) : (leaveLoaded c s).row r' = s.row r' := by
  simp only [State.row, leaveLoaded_bus]
@[simp] theorem leaveLoaded_desk (c : ClockId) (d' : DeskId) : (leaveLoaded c s).desk d' = s.desk d' := by
  simp only [State.desk, State.row, leaveLoaded_bus]
@[simp] theorem writeLine_clock (l : JournalLine) (d' : ClockId) : (writeLine l s).clock d' = s.clock d' := by
  simp only [State.clock, writeLine_clocks]
@[simp] theorem writeLine_lane (l : JournalLine) (d' : ClockId) : (writeLine l s).lane d' = s.lane d' := by
  simp only [State.lane, writeLine_lanes]
@[simp] theorem writeLine_board (l : JournalLine) (d' : ClockId) : (writeLine l s).board d' = s.board d' := by
  simp only [State.board, writeLine_boards]
@[simp] theorem writeLine_lot (l : JournalLine) (n' : Nat) : (writeLine l s).lot n' = s.lot n' := by
  simp only [State.lot, writeLine_lots]
@[simp] theorem writeLine_row (l : JournalLine) (r' : RowId) : (writeLine l s).row r' = s.row r' := by
  simp only [State.row, writeLine_bus]
@[simp] theorem writeLine_desk (l : JournalLine) (d' : DeskId) : (writeLine l s).desk d' = s.desk d' := by
  simp only [State.desk, State.row, writeLine_bus]
@[simp] theorem writeLine_currentLot (l : JournalLine) (d' : ClockId) :
    (writeLine l s).currentLot d' = s.currentLot d' := by
  exact currentLot_congr (writeLine_clocks ..) (writeLine_lots ..) d'
@[simp] theorem setLotMark_clock (c : ClockId) (m : Option Nat) (d' : ClockId) : (setLotMark c m s).clock d' = s.clock d' := by
  simp only [State.clock, setLotMark_clocks]
@[simp] theorem setLotMark_lane (c : ClockId) (m : Option Nat) (d' : ClockId) : (setLotMark c m s).lane d' = s.lane d' := by
  simp only [State.lane, setLotMark_lanes]
@[simp] theorem setLotMark_board (c : ClockId) (m : Option Nat) (d' : ClockId) : (setLotMark c m s).board d' = s.board d' := by
  simp only [State.board, setLotMark_boards]
@[simp] theorem setLotMark_lot (c : ClockId) (m : Option Nat) (n' : Nat) : (setLotMark c m s).lot n' = s.lot n' := by
  simp only [State.lot, setLotMark_lots]
@[simp] theorem setLotMark_row (c : ClockId) (m : Option Nat) (r' : RowId) : (setLotMark c m s).row r' = s.row r' := by
  simp only [State.row, setLotMark_bus]
@[simp] theorem setLotMark_desk (c : ClockId) (m : Option Nat) (d' : DeskId) : (setLotMark c m s).desk d' = s.desk d' := by
  simp only [State.desk, State.row, setLotMark_bus]
@[simp] theorem setLotMark_currentLot (c : ClockId) (m : Option Nat) (d' : ClockId) :
    (setLotMark c m s).currentLot d' = s.currentLot d' := by
  exact currentLot_congr (setLotMark_clocks ..) (setLotMark_lots ..) d'
@[simp] theorem writeNoSale_lane (c : ClockId) (x : NoSaleCause) (d' : ClockId) : (writeNoSale c x s).lane d' = s.lane d' := by
  simp only [State.lane, writeNoSale_lanes]
@[simp] theorem writeNoSale_board (c : ClockId) (x : NoSaleCause) (d' : ClockId) : (writeNoSale c x s).board d' = s.board d' := by
  simp only [State.board, writeNoSale_boards]
@[simp] theorem writeNoSale_lot (c : ClockId) (x : NoSaleCause) (n' : Nat) : (writeNoSale c x s).lot n' = s.lot n' := by
  simp only [State.lot, writeNoSale_lots]
@[simp] theorem writeNoSale_row (c : ClockId) (x : NoSaleCause) (r' : RowId) : (writeNoSale c x s).row r' = s.row r' := by
  simp only [State.row, writeNoSale_bus]
@[simp] theorem writeNoSale_desk (c : ClockId) (x : NoSaleCause) (d' : DeskId) : (writeNoSale c x s).desk d' = s.desk d' := by
  simp only [State.desk, State.row, writeNoSale_bus]
/-! ## Lanes -/

@[simp] theorem modLots_clock (f : Lot → Lot) (l : List (Option Nat)) (d' : ClockId) : (modLots f l s).clock d' = s.clock d' := by
  simp only [State.clock, modLots_clocks]
@[simp] theorem modLots_lane (f : Lot → Lot) (l : List (Option Nat)) (d' : ClockId) : (modLots f l s).lane d' = s.lane d' := by
  simp only [State.lane, modLots_lanes]
@[simp] theorem modLots_board (f : Lot → Lot) (l : List (Option Nat)) (d' : ClockId) : (modLots f l s).board d' = s.board d' := by
  simp only [State.board, modLots_boards]
@[simp] theorem modLots_row (f : Lot → Lot) (l : List (Option Nat)) (r' : RowId) : (modLots f l s).row r' = s.row r' := by
  simp only [State.row, modLots_bus]
@[simp] theorem modLots_desk (f : Lot → Lot) (l : List (Option Nat)) (d' : DeskId) : (modLots f l s).desk d' = s.desk d' := by
  simp only [State.desk, State.row, modLots_bus]
@[simp] theorem modLots_buyer (f : Lot → Lot) (l : List (Option Nat)) (n' : Nat) : (modLots f l s).buyer n' = s.buyer n' := by
  simp only [State.buyer, modLots_ledger]
@[simp] theorem modLots_invoice (f : Lot → Lot) (l : List (Option Nat)) (n' : Nat) : (modLots f l s).invoice n' = s.invoice n' := by
  simp only [State.invoice, modLots_ledger]
@[simp] theorem passage_clock (c : ClockId) (d' : ClockId) : (passage c s).clock d' = s.clock d' := by
  simp only [State.clock, passage_clocks]
@[simp] theorem passage_board (c : ClockId) (d' : ClockId) : (passage c s).board d' = s.board d' := by
  simp only [State.board, passage_boards]
@[simp] theorem passage_row (c : ClockId) (r' : RowId) : (passage c s).row r' = s.row r' := by
  simp only [State.row, passage_bus]
@[simp] theorem passage_desk (c : ClockId) (d' : DeskId) : (passage c s).desk d' = s.desk d' := by
  simp only [State.desk, State.row, passage_bus]
@[simp] theorem passage_buyer (c : ClockId) (n' : Nat) : (passage c s).buyer n' = s.buyer n' := by
  simp only [State.buyer, passage_ledger]
@[simp] theorem passage_invoice (c : ClockId) (n' : Nat) : (passage c s).invoice n' = s.invoice n' := by
  simp only [State.invoice, passage_ledger]
@[simp] theorem gateChanges_clock (c : ClockId) (d' : ClockId) : (gateChanges c s).clock d' = s.clock d' := by
  simp only [State.clock, gateChanges_clocks]
@[simp] theorem gateChanges_board (c : ClockId) (d' : ClockId) : (gateChanges c s).board d' = s.board d' := by
  simp only [State.board, gateChanges_boards]
@[simp] theorem gateChanges_row (c : ClockId) (r' : RowId) : (gateChanges c s).row r' = s.row r' := by
  simp only [State.row, gateChanges_bus]
@[simp] theorem gateChanges_desk (c : ClockId) (d' : DeskId) : (gateChanges c s).desk d' = s.desk d' := by
  simp only [State.desk, State.row, gateChanges_bus]
@[simp] theorem gateChanges_buyer (c : ClockId) (n' : Nat) : (gateChanges c s).buyer n' = s.buyer n' := by
  simp only [State.buyer, gateChanges_ledger]
@[simp] theorem gateChanges_invoice (c : ClockId) (n' : Nat) : (gateChanges c s).invoice n' = s.invoice n' := by
  simp only [State.invoice, gateChanges_ledger]
@[simp] theorem departHead_clock (c : ClockId) (t : Train) (d' : ClockId) : (departHead c t s).clock d' = s.clock d' := by
  simp only [State.clock, departHead_clocks]
@[simp] theorem departHead_board (c : ClockId) (t : Train) (d' : ClockId) : (departHead c t s).board d' = s.board d' := by
  simp only [State.board, departHead_boards]
@[simp] theorem departHead_row (c : ClockId) (t : Train) (r' : RowId) : (departHead c t s).row r' = s.row r' := by
  simp only [State.row, departHead_bus]
@[simp] theorem departHead_desk (c : ClockId) (t : Train) (d' : DeskId) : (departHead c t s).desk d' = s.desk d' := by
  simp only [State.desk, State.row, departHead_bus]
@[simp] theorem departHead_buyer (c : ClockId) (t : Train) (n' : Nat) : (departHead c t s).buyer n' = s.buyer n' := by
  simp only [State.buyer, departHead_ledger]
@[simp] theorem departHead_invoice (c : ClockId) (t : Train) (n' : Nat) : (departHead c t s).invoice n' = s.invoice n' := by
  simp only [State.invoice, departHead_ledger]
@[simp] theorem departFrom_clock (c : ClockId) (l : List Train) (d' : ClockId) : (departFrom c l s).clock d' = s.clock d' := by
  simp only [State.clock, departFrom_clocks]
@[simp] theorem departFrom_board (c : ClockId) (l : List Train) (d' : ClockId) : (departFrom c l s).board d' = s.board d' := by
  simp only [State.board, departFrom_boards]
@[simp] theorem departFrom_row (c : ClockId) (l : List Train) (r' : RowId) : (departFrom c l s).row r' = s.row r' := by
  simp only [State.row, departFrom_bus]
@[simp] theorem departFrom_desk (c : ClockId) (l : List Train) (d' : DeskId) : (departFrom c l s).desk d' = s.desk d' := by
  simp only [State.desk, State.row, departFrom_bus]
@[simp] theorem departFrom_buyer (c : ClockId) (l : List Train) (n' : Nat) : (departFrom c l s).buyer n' = s.buyer n' := by
  simp only [State.buyer, departFrom_ledger]
@[simp] theorem departFrom_invoice (c : ClockId) (l : List Train) (n' : Nat) : (departFrom c l s).invoice n' = s.invoice n' := by
  simp only [State.invoice, departFrom_ledger]
@[simp] theorem testDepartures_clock (c : ClockId) (d' : ClockId) : (testDepartures c s).clock d' = s.clock d' := by
  simp only [State.clock, testDepartures_clocks]
@[simp] theorem testDepartures_board (c : ClockId) (d' : ClockId) : (testDepartures c s).board d' = s.board d' := by
  simp only [State.board, testDepartures_boards]
@[simp] theorem testDepartures_row (c : ClockId) (r' : RowId) : (testDepartures c s).row r' = s.row r' := by
  simp only [State.row, testDepartures_bus]
@[simp] theorem testDepartures_desk (c : ClockId) (d' : DeskId) : (testDepartures c s).desk d' = s.desk d' := by
  simp only [State.desk, State.row, testDepartures_bus]
@[simp] theorem testDepartures_buyer (c : ClockId) (n' : Nat) : (testDepartures c s).buyer n' = s.buyer n' := by
  simp only [State.buyer, testDepartures_ledger]
@[simp] theorem testDepartures_invoice (c : ClockId) (n' : Nat) : (testDepartures c s).invoice n' = s.invoice n' := by
  simp only [State.invoice, testDepartures_ledger]
@[simp] theorem gapRunsOut_clock (c : ClockId) (d' : ClockId) : (gapRunsOut c s).clock d' = s.clock d' := by
  simp only [State.clock, gapRunsOut_clocks]
@[simp] theorem gapRunsOut_board (c : ClockId) (d' : ClockId) : (gapRunsOut c s).board d' = s.board d' := by
  simp only [State.board, gapRunsOut_boards]
@[simp] theorem gapRunsOut_row (c : ClockId) (r' : RowId) : (gapRunsOut c s).row r' = s.row r' := by
  simp only [State.row, gapRunsOut_bus]
@[simp] theorem gapRunsOut_desk (c : ClockId) (d' : DeskId) : (gapRunsOut c s).desk d' = s.desk d' := by
  simp only [State.desk, State.row, gapRunsOut_bus]
@[simp] theorem gapRunsOut_buyer (c : ClockId) (n' : Nat) : (gapRunsOut c s).buyer n' = s.buyer n' := by
  simp only [State.buyer, gapRunsOut_ledger]
@[simp] theorem gapRunsOut_invoice (c : ClockId) (n' : Nat) : (gapRunsOut c s).invoice n' = s.invoice n' := by
  simp only [State.invoice, gapRunsOut_ledger]
/-! ## Clocks -/

@[simp] theorem startStep_lane (c : ClockId) (d' : ClockId) : (startStep c s).lane d' = s.lane d' := by
  simp only [State.lane, startStep_lanes]
@[simp] theorem startStep_board (c : ClockId) (d' : ClockId) : (startStep c s).board d' = s.board d' := by
  simp only [State.board, startStep_boards]
@[simp] theorem startStep_lot (c : ClockId) (n' : Nat) : (startStep c s).lot n' = s.lot n' := by
  simp only [State.lot, startStep_lots]
@[simp] theorem startStep_row (c : ClockId) (r' : RowId) : (startStep c s).row r' = s.row r' := by
  simp only [State.row, startStep_bus]
@[simp] theorem startStep_desk (c : ClockId) (d' : DeskId) : (startStep c s).desk d' = s.desk d' := by
  simp only [State.desk, State.row, startStep_bus]
@[simp] theorem startStep_buyer (c : ClockId) (n' : Nat) : (startStep c s).buyer n' = s.buyer n' := by
  simp only [State.buyer, startStep_ledger]
@[simp] theorem startStep_invoice (c : ClockId) (n' : Nat) : (startStep c s).invoice n' = s.invoice n' := by
  simp only [State.invoice, startStep_ledger]
@[simp] theorem runClock_lane (c : ClockId) (d' : ClockId) : (runClock c s).lane d' = s.lane d' := by
  simp only [State.lane, runClock_lanes]
@[simp] theorem runClock_lot (c : ClockId) (n' : Nat) : (runClock c s).lot n' = s.lot n' := by
  simp only [State.lot, runClock_lots]
@[simp] theorem enterHeld_lane (c : ClockId) (x : HoldCause) (d' : ClockId) : (enterHeld c x s).lane d' = s.lane d' := by
  simp only [State.lane, enterHeld_lanes]
@[simp] theorem enterHeld_lot (c : ClockId) (x : HoldCause) (n' : Nat) : (enterHeld c x s).lot n' = s.lot n' := by
  simp only [State.lot, enterHeld_lots]
@[simp] theorem enterHeld_row (c : ClockId) (x : HoldCause) (r' : RowId) : (enterHeld c x s).row r' = s.row r' := by
  simp only [State.row, enterHeld_bus]
@[simp] theorem enterHeld_desk (c : ClockId) (x : HoldCause) (d' : DeskId) : (enterHeld c x s).desk d' = s.desk d' := by
  simp only [State.desk, State.row, enterHeld_bus]
@[simp] theorem enterHeld_buyer (c : ClockId) (x : HoldCause) (n' : Nat) : (enterHeld c x s).buyer n' = s.buyer n' := by
  simp only [State.buyer, enterHeld_ledger]
@[simp] theorem enterHeld_invoice (c : ClockId) (x : HoldCause) (n' : Nat) : (enterHeld c x s).invoice n' = s.invoice n' := by
  simp only [State.invoice, enterHeld_ledger]
@[simp] theorem testNew_lane (c : ClockId) (d' : ClockId) : (testNew c s).lane d' = s.lane d' := by
  simp only [State.lane, testNew_lanes]
@[simp] theorem testNew_lot (c : ClockId) (n' : Nat) : (testNew c s).lot n' = s.lot n' := by
  simp only [State.lot, testNew_lots]
@[simp] theorem testRestart_lane (c : ClockId) (d' : ClockId) : (testRestart c s).lane d' = s.lane d' := by
  simp only [State.lane, testRestart_lanes]
@[simp] theorem testRestart_lot (c : ClockId) (n' : Nat) : (testRestart c s).lot n' = s.lot n' := by
  simp only [State.lot, testRestart_lots]
@[simp] theorem askRestart_lane (c : ClockId) (d' : ClockId) : (askRestart c s).lane d' = s.lane d' := by
  simp only [State.lane, askRestart_lanes]
@[simp] theorem askRestart_lot (c : ClockId) (n' : Nat) : (askRestart c s).lot n' = s.lot n' := by
  simp only [State.lot, askRestart_lots]
@[simp] theorem tellClock_lane (c : ClockId) (d' : ClockId) : (tellClock c s).lane d' = s.lane d' := by
  simp only [State.lane, tellClock_lanes]
@[simp] theorem tellClock_lot (c : ClockId) (n' : Nat) : (tellClock c s).lot n' = s.lot n' := by
  simp only [State.lot, tellClock_lots]
@[simp] theorem tellSpace_lane (c : ClockId) (d' : ClockId) : (tellSpace c s).lane d' = s.lane d' := by
  simp only [State.lane, tellSpace_lanes]
@[simp] theorem tellSpace_lot (c : ClockId) (n' : Nat) : (tellSpace c s).lot n' = s.lot n' := by
  simp only [State.lot, tellSpace_lots]
@[simp] theorem releaseDeferred_lane (c : ClockId) (d' : ClockId) : (releaseDeferred c s).lane d' = s.lane d' := by
  simp only [State.lane, releaseDeferred_lanes]
@[simp] theorem releaseDeferred_lot (c : ClockId) (n' : Nat) : (releaseDeferred c s).lot n' = s.lot n' := by
  simp only [State.lot, releaseDeferred_lots]
@[simp] theorem holdClock_lane (c : ClockId) (x : HoldCause) (d' : ClockId) : (holdClock c x s).lane d' = s.lane d' := by
  simp only [State.lane, holdClock_lanes]
@[simp] theorem holdClock_lot (c : ClockId) (x : HoldCause) (n' : Nat) : (holdClock c x s).lot n' = s.lot n' := by
  simp only [State.lot, holdClock_lots]
@[simp] theorem holdClock_row (c : ClockId) (x : HoldCause) (r' : RowId) : (holdClock c x s).row r' = s.row r' := by
  simp only [State.row, holdClock_bus]
@[simp] theorem holdClock_desk (c : ClockId) (x : HoldCause) (d' : DeskId) : (holdClock c x s).desk d' = s.desk d' := by
  simp only [State.desk, State.row, holdClock_bus]
@[simp] theorem holdClock_buyer (c : ClockId) (x : HoldCause) (n' : Nat) : (holdClock c x s).buyer n' = s.buyer n' := by
  simp only [State.buyer, holdClock_ledger]
@[simp] theorem holdClock_invoice (c : ClockId) (x : HoldCause) (n' : Nat) : (holdClock c x s).invoice n' = s.invoice n' := by
  simp only [State.invoice, holdClock_ledger]
@[simp] theorem takeLot_lane (c : ClockId) (l : Lot) (d' : ClockId) : (takeLot c l s).lane d' = s.lane d' := by
  simp only [State.lane, takeLot_lanes]
@[simp] theorem takeLot_row (c : ClockId) (l : Lot) (r' : RowId) : (takeLot c l s).row r' = s.row r' := by
  simp only [State.row, takeLot_bus]
@[simp] theorem takeLot_desk (c : ClockId) (l : Lot) (d' : DeskId) : (takeLot c l s).desk d' = s.desk d' := by
  simp only [State.desk, State.row, takeLot_bus]
@[simp] theorem endLot_row (c : ClockId) (x : LotEndCause) (r' : RowId) : (endLot c x s).row r' = s.row r' := by
  simp only [State.row, endLot_bus]
@[simp] theorem endLot_desk (c : ClockId) (x : LotEndCause) (d' : DeskId) : (endLot c x s).desk d' = s.desk d' := by
  simp only [State.desk, State.row, endLot_bus]
@[simp] theorem restartClock_lane (c : ClockId) (d' : ClockId) : (restartClock c s).lane d' = s.lane d' := by
  simp only [State.lane, restartClock_lanes]
@[simp] theorem restartClock_lot (c : ClockId) (n' : Nat) : (restartClock c s).lot n' = s.lot n' := by
  simp only [State.lot, restartClock_lots]
@[simp] theorem closeClock_lane (c : ClockId) (d' : ClockId) : (closeClock c s).lane d' = s.lane d' := by
  simp only [State.lane, closeClock_lanes]
@[simp] theorem closeClock_row (c : ClockId) (r' : RowId) : (closeClock c s).row r' = s.row r' := by
  simp only [State.row, closeClock_bus]
@[simp] theorem closeClock_desk (c : ClockId) (d' : DeskId) : (closeClock c s).desk d' = s.desk d' := by
  simp only [State.desk, State.row, closeClock_bus]
@[simp] theorem openClock_lane (c : ClockId) (d' : ClockId) : (openClock c s).lane d' = s.lane d' := by
  simp only [State.lane, openClock_lanes]
@[simp] theorem openClock_board (c : ClockId) (d' : ClockId) : (openClock c s).board d' = s.board d' := by
  simp only [State.board, openClock_boards]
@[simp] theorem openClock_lot (c : ClockId) (n' : Nat) : (openClock c s).lot n' = s.lot n' := by
  simp only [State.lot, openClock_lots]
@[simp] theorem openClock_row (c : ClockId) (r' : RowId) : (openClock c s).row r' = s.row r' := by
  simp only [State.row, openClock_bus]
@[simp] theorem openClock_desk (c : ClockId) (d' : DeskId) : (openClock c s).desk d' = s.desk d' := by
  simp only [State.desk, State.row, openClock_bus]
@[simp] theorem openClock_buyer (c : ClockId) (n' : Nat) : (openClock c s).buyer n' = s.buyer n' := by
  simp only [State.buyer, openClock_ledger]
@[simp] theorem openClock_invoice (c : ClockId) (n' : Nat) : (openClock c s).invoice n' = s.invoice n' := by
  simp only [State.invoice, openClock_ledger]
@[simp] theorem missBoard_lane (c : ClockId) (d' : ClockId) : (missBoard c s).lane d' = s.lane d' := by
  simp only [State.lane, missBoard_lanes]
@[simp] theorem missBoard_lot (c : ClockId) (n' : Nat) : (missBoard c s).lot n' = s.lot n' := by
  simp only [State.lot, missBoard_lots]
@[simp] theorem missBoard_row (c : ClockId) (r' : RowId) : (missBoard c s).row r' = s.row r' := by
  simp only [State.row, missBoard_bus]
@[simp] theorem missBoard_desk (c : ClockId) (d' : DeskId) : (missBoard c s).desk d' = s.desk d' := by
  simp only [State.desk, State.row, missBoard_bus]
@[simp] theorem missBoard_buyer (c : ClockId) (n' : Nat) : (missBoard c s).buyer n' = s.buyer n' := by
  simp only [State.buyer, missBoard_ledger]
@[simp] theorem missBoard_invoice (c : ClockId) (n' : Nat) : (missBoard c s).invoice n' = s.invoice n' := by
  simp only [State.invoice, missBoard_ledger]
@[simp] theorem goodAnswer_lane (c : ClockId) (d' : ClockId) : (goodAnswer c s).lane d' = s.lane d' := by
  simp only [State.lane, goodAnswer_lanes]
@[simp] theorem goodAnswer_lot (c : ClockId) (n' : Nat) : (goodAnswer c s).lot n' = s.lot n' := by
  simp only [State.lot, goodAnswer_lots]

/-! ## Reports -/

@[simp] theorem raise_clock (b : ReportBody) (d' : ClockId) : (raise b s).clock d' = s.clock d' := by simp [State.clock]
@[simp] theorem raise_lane (b : ReportBody) (d' : ClockId) : (raise b s).lane d' = s.lane d' := by simp [State.lane]
@[simp] theorem raise_board (b : ReportBody) (d' : ClockId) : (raise b s).board d' = s.board d' := by simp [State.board]
@[simp] theorem raise_lot (b : ReportBody) (m : Nat) : (raise b s).lot m = s.lot m := by simp [State.lot]
@[simp] theorem raise_row (b : ReportBody) (r' : RowId) : (raise b s).row r' = s.row r' := by simp [State.row]
@[simp] theorem raise_desk (b : ReportBody) (d' : DeskId) : (raise b s).desk d' = s.desk d' := by
  simp [State.desk, State.row]
@[simp] theorem raise_buyer (b : ReportBody) (m : Nat) : (raise b s).buyer m = s.buyer m := by simp [State.buyer]
@[simp] theorem raise_invoice (b : ReportBody) (m : Nat) : (raise b s).invoice m = s.invoice m := by
  simp [State.invoice]

end Sys2Proof.Machine
end

