-- ==== Sys2Proof/Laws/Bus.lean ====
section
/-! SUPPORT. What the desk bus and the receiver of the host link do: the fields of the bus that its becoming free leaves,
the three ways it goes on, what a tick handed over does, and what a byte received changes. -/

namespace Sys2Proof.Machine

variable (s : State)

/-! ## The bus becomes free -/

@[simp] theorem busFree_bus_rows : (busFree s).bus.rows = s.bus.rows := rfl
@[simp] theorem busFree_bus_ticks : (busFree s).bus.ticks = s.bus.ticks := rfl
@[simp] theorem busFree_bus_nextRow : (busFree s).bus.nextRow = s.bus.nextRow := rfl
@[simp] theorem busFree_bus_lineHeld : (busFree s).bus.lineHeld = s.bus.lineHeld := rfl
@[simp] theorem busFree_bus_ticksSent : (busFree s).bus.ticksSent = s.bus.ticksSent := rfl
@[simp] theorem busFree_bus_ticksDropped : (busFree s).bus.ticksDropped = s.bus.ticksDropped := rfl
@[simp] theorem busFree_bus_nextArrival : (busFree s).bus.nextArrival = s.bus.nextArrival := rfl
@[simp] theorem busFree_bus_poll : (busFree s).bus.poll = none := rfl
@[simp] theorem busFree_bus_activity :
    (busFree s).bus.activity = if s.bus.lineHeld || s.bus.ticks.isEmpty then .idle else .sending := rfl
@[simp] theorem busFree_row (r : RowId) : (busFree s).row r = s.row r := rfl
@[simp] theorem busFree_desk (d : DeskId) : (busFree s).desk d = s.desk d := rfl

/-- How the bus goes on when it becomes free: held with nothing sent, its poll due, or sending ticks. -/
theorem busFree_cases :
    (s.bus.lineHeld = true ∧ (busFree s).bus.activity = .idle ∧ pollDue (busFree s) = false) ∨
    (s.bus.lineHeld = false ∧ s.bus.ticks = [] ∧ (busFree s).bus.activity = .idle ∧ pollDue (busFree s) = true) ∨
    (s.bus.lineHeld = false ∧ s.bus.ticks ≠ [] ∧ (busFree s).bus.activity = .sending) := by
  unfold busFree freeBus pollDue
  cases h : s.bus.lineHeld <;> cases k : s.bus.ticks <;> simp

/-! ## A tick is handed over -/

/-- What a tick handed over does to the queue: it joins the tail, or the clock's oldest makes room for it and is counted. -/
theorem queueTick_cases (t : Tick) (b : DeskBus) :
    (pendingOf t.clock b.ticks < 4 ∧ queueTick t b = { b with ticks := b.ticks ++ [t] }) ∨
    (4 ≤ pendingOf t.clock b.ticks ∧ queueTick t b =
      { b with ticks := dropOldest t.clock b.ticks ++ [t], ticksDropped := countUp top16 b.ticksDropped }) := by
  unfold queueTick
  by_cases h : pendingOf t.clock b.ticks < Config.ticksPerClock
  · exact .inl ⟨h, if_pos h⟩
  · exact .inr ⟨Nat.le_of_not_lt h, if_neg h⟩

/-- What a tick handed over does to the line: nothing where it is in use, else the sending begins. -/
theorem startTicks_cases (b : DeskBus) :
    startTicks b = b ∨
    (b.activity = .idle ∧ b.poll = none ∧ b.lineHeld = false ∧ startTicks b = { b with activity := .sending }) := by
  unfold startTicks
  split
  · rename_i h
    exact .inr ⟨h.1, h.2.1, h.2.2, rfl⟩
  · exact .inl rfl

@[simp] theorem startTicks_ticks (b : DeskBus) : (startTicks b).ticks = b.ticks := by unfold startTicks; split <;> rfl
@[simp] theorem startTicks_rows (b : DeskBus) : (startTicks b).rows = b.rows := by unfold startTicks; split <;> rfl
@[simp] theorem queueTick_rows (t : Tick) (b : DeskBus) : (queueTick t b).rows = b.rows := by
  unfold queueTick; split <;> rfl
@[simp] theorem handTick_bus_rows (c : ClockId) : (handTick c s).bus.rows = s.bus.rows := by
  simp [handTick]
@[simp] theorem handTick_bus_ticks (c : ClockId) : (handTick c s).bus.ticks =
    (queueTick { clock := c, run := (s.clock c).run, tag := (s.clock c).k % 256 } s.bus).ticks := by simp [handTick]

/-! ## The end of a wait -/

@[simp] theorem endWait_bus_rows (held : Bool) : (endWait held s).bus.rows = s.bus.rows := by simp [endWait]
@[simp] theorem endWait_bus_ticks (held : Bool) : (endWait held s).bus.ticks = s.bus.ticks := by simp [endWait]
@[simp] theorem endWait_bus_lineHeld (held : Bool) : (endWait held s).bus.lineHeld = held := by simp [endWait]
@[simp] theorem endWait_row (held : Bool) (r : RowId) : (endWait held s).row r = s.row r := by
  simp only [State.row, endWait_bus_rows]
@[simp] theorem endWait_desk (held : Bool) (d : DeskId) : (endWait held s).desk d = s.desk d := by
  simp only [State.desk, endWait_row]

/-! ## The receiver -/

/-- What a byte can do: it is passed over, its frame grows, the frame is counted bad, or the frame is a request. -/
theorem receiveByte_cases (b : LineByte) :
    receiveByte b s = s ∨ (∃ frame spoiled, receiveByte b s = keepReceiving frame spoiled s) ∨
    receiveByte b s = frameFails s ∨
    ∃ f : HostFrame, receiveByte b s = routeRequest f.tag (requestOf f.kind f.body) (frameArrives s) := by
  unfold receiveByte
  split
  · split
    · exact .inr (.inl ⟨_, _, rfl⟩)
    · exact .inl rfl
  · unfold extendFrame
    split
    · exact .inr (.inl ⟨_, _, rfl⟩)
    · exact .inr (.inr (.inl rfl))
    · unfold frameEnds
      split
      · exact .inr (.inr (.inl rfl))
      · split
        · exact .inr (.inr (.inr ⟨_, rfl⟩))
        · exact .inr (.inr (.inl rfl))

/-- A property of states that a kept frame, a bad frame and every request handed to R196 keep is kept by bytes received. -/
theorem receiveBytes_keep {P : State → Prop} (part : ∀ frame spoiled s, P s → P (keepReceiving frame spoiled s))
    (bad : ∀ s, P s → P (frameFails s)) (whole : ∀ tag r s, P s → P (routeRequest tag r (frameArrives s)))
    (bytes : List LineByte) : ∀ s, P s → P (bytes.foldl (fun s b => receiveByte b s) s) := by
  induction bytes with
  | nil => exact fun _ h => h
  | cons b rest ih =>
    intro s h
    refine ih _ ?_
    show P (receiveByte b s)
    obtain k | ⟨_, _, k⟩ | k | ⟨_, k⟩ := receiveByte_cases s b <;> rw [k]
    · exact h
    · exact part _ _ _ h
    · exact bad _ h
    · exact whole _ _ _ h

end Sys2Proof.Machine
end

