-- ==== Sys2Proof/Laws/Tables.lean ====
section
/-! SUPPORT. What reading gives after a write: the banks of records written twice, and the tables kept in ascending key. -/

namespace Sys2Proof.Machine

variable (s : State)

/-! ## Banks -/

@[simp] theorem vector_set_set {α : Type} {n : Nat} (v : Vector α n) (i : Fin n) (x y : α) :
    (v.set i x).set i y = v.set i y := by
  ext j hj
  simp [Vector.getElem_set]

@[simp] theorem vector_set_get {α : Type} {n : Nat} (v : Vector α n) (i : Fin n) : v.set i (v.get i) = v := by
  ext j hj
  by_cases h : i.val = j <;> simp [Vector.get_eq_getElem, h]

@[simp] theorem State.setClock_setClock (c : ClockId) (x y : Clock) :
    (s.setClock c x).setClock c y = s.setClock c y := by simp [State.setClock]

@[simp] theorem State.setClock_clock (c : ClockId) : s.setClock c (s.clock c) = s := by
  simp [State.setClock, State.clock]

@[simp] theorem State.setLane_setLane (c : ClockId) (x y : Lane) :
    (s.setLane c x).setLane c y = s.setLane c y := by simp [State.setLane]

@[simp] theorem State.setBoard_setBoard (c : ClockId) (x y : Board) :
    (s.setBoard c x).setBoard c y = s.setBoard c y := by simp [State.setBoard]

@[simp] theorem State.setRow_setRow (r : RowId) (x y : Row) : (s.setRow r x).setRow r y = s.setRow r y := by
  simp [State.setRow]

/-! ## Tables -/

/-- Changing one record of a table leaves every other one. -/
theorem findKey_modKey_ne {α : Type} (key : α → Nat) (f : α → α) (hf : ∀ x, key (f x) = key x) (l : List α)
    (n m : Nat) (h : n ≠ m) : findKey key n (modKey key m f l) = findKey key n l := by
  induction l with
  | nil => rfl
  | cons x t ih =>
    simp [modKey, findKey, List.find?_cons] at ih ⊢
    by_cases hx : key x = m
    · simp [hx, hf, show ¬ m = n by omega]
      exact ih
    · simp [hx]
      split <;> simp_all

/-- Changing the record with a key changes what is read at that key. -/
theorem findKey_modKey {α : Type} (key : α → Nat) (f : α → α) (hf : ∀ x, key (f x) = key x) (l : List α) (n : Nat) :
    findKey key n (modKey key n f l) = (findKey key n l).map f := by
  induction l with
  | nil => rfl
  | cons x t ih =>
    simp [modKey, findKey, List.find?_cons] at ih ⊢
    by_cases hx : key x = n
    · simp [hx, hf]
    · simp [hx]
      exact ih

/-- The record read at a key has that key. -/
theorem findKey_key {α : Type} (key : α → Nat) {l : List α} {n : Nat} {x : α} (h : findKey key n l = some x) :
    key x = n := by
  have := List.find?_some h
  simpa using this

/-- The record read at a key stands in the table. -/
theorem findKey_mem {α : Type} (key : α → Nat) {l : List α} {n : Nat} {x : α} (h : findKey key n l = some x) :
    x ∈ l := List.mem_of_find?_eq_some h

/-- What stands in a table after an insertion. -/
theorem mem_insertKey {α : Type} (key : α → Nat) (x y : α) (l : List α) :
    y ∈ insertKey key x l ↔ y = x ∨ y ∈ l := by
  induction l with
  | nil => simp [insertKey]
  | cons z t ih =>
    simp only [insertKey]
    split
    · simp
    · simp [ih]
      tauto

/-- An insertion adds one record. -/
@[simp] theorem insertKey_length {α : Type} (key : α → Nat) (x : α) (l : List α) :
    (insertKey key x l).length = l.length + 1 := by
  induction l with
  | nil => rfl
  | cons y t ih =>
    simp only [insertKey]
    split <;> simp [ih]

/-- A change of one record keeps the number of records. -/
@[simp] theorem modKey_length {α : Type} (key : α → Nat) (n : Nat) (f : α → α) (l : List α) :
    (modKey key n f l).length = l.length := by simp [modKey]

/-! ## Lots, accounts, invoices -/

theorem State.modLot_lot_ne (f : Lot → Lot) (hf : ∀ x, (f x).number = x.number) {n m : Nat} (h : n ≠ m) :
    (s.modLot m f).lot n = s.lot n := findKey_modKey_ne Lot.number f hf _ _ _ h

theorem State.modLot_lot_self (f : Lot → Lot) (hf : ∀ x, (f x).number = x.number) (n : Nat) :
    (s.modLot n f).lot n = (s.lot n).map f := findKey_modKey Lot.number f hf _ _

theorem State.modBuyer_buyer_ne (f : Buyer → Buyer) (hf : ∀ x, (f x).number = x.number) {n m : Nat} (h : n ≠ m) :
    (s.modBuyer m f).buyer n = s.buyer n := findKey_modKey_ne Buyer.number f hf _ _ _ h

theorem State.modBuyer_buyer_self (f : Buyer → Buyer) (hf : ∀ x, (f x).number = x.number) (n : Nat) :
    (s.modBuyer n f).buyer n = (s.buyer n).map f := findKey_modKey Buyer.number f hf _ _

theorem State.modInvoice_invoice_ne (f : Invoice → Invoice) (hf : ∀ x, (f x).number = x.number) {n m : Nat}
    (h : n ≠ m) : (s.modInvoice m f).invoice n = s.invoice n := findKey_modKey_ne Invoice.number f hf _ _ _ h

theorem State.modInvoice_invoice_self (f : Invoice → Invoice) (hf : ∀ x, (f x).number = x.number) (n : Nat) :
    (s.modInvoice n f).invoice n = (s.invoice n).map f := findKey_modKey Invoice.number f hf _ _

/-! ## Operands -/

/-- A number that names a clock is 1 to 4. -/
theorem clockNumbered_range {n : Nat} {c : ClockId} (h : clockNumbered n = some c) : 1 ≤ n ∧ n ≤ 4 := by
  unfold clockNumbered at h
  split at h <;> simp_all

/-- A number that names a row is not 0. -/
theorem rowNumbered_ne {n : Nat} {r : RowId} (h : rowNumbered n = some r) : n ≠ 0 := by
  unfold rowNumbered at h
  split at h
  · omega
  · cases h

@[simp] theorem clockNumbered_numberOf (c : ClockId) : clockNumbered (numberOf c) = some c := by
  simp [clockNumbered, numberOf]

@[simp] theorem deskNumbered_numberOf (d : DeskId) : deskNumbered (numberOf d) = some d := by
  simp [deskNumbered, numberOf]

end Sys2Proof.Machine
end

