-- ==== Sys2Proof/Laws/Requests.lean ====
section
/-! SUPPORT. What a host request meets before its owner: on a part that is ready for it, the arrival of its frame alone,
and then its dispatch. -/

namespace Sys2Proof.Machine

open Sys2Proof.Safety

variable (s : State)

/-! ## What a valid frame leaves -/

@[simp] theorem framed_pending : (framed s).pending = s.pending := rfl
@[simp] theorem framed_timebase : (framed s).timebase = s.timebase := rfl
@[simp] theorem framed_lots : (framed s).lots = s.lots := rfl
@[simp] theorem framed_lanes : (framed s).lanes = s.lanes := rfl
@[simp] theorem framed_clocks : (framed s).clocks = s.clocks := rfl
@[simp] theorem framed_bus : (framed s).bus = s.bus := rfl
@[simp] theorem framed_ledger : (framed s).ledger = s.ledger := rfl
@[simp] theorem framed_boards : (framed s).boards = s.boards := rfl
@[simp] theorem framed_hall : (framed s).hall = s.hall := rfl
@[simp] theorem framed_lot (n : Nat) : (framed s).lot n = s.lot n := rfl
@[simp] theorem framed_lane (c : ClockId) : (framed s).lane c = s.lane c := rfl
@[simp] theorem framed_clock (c : ClockId) : (framed s).clock c = s.clock c := rfl
@[simp] theorem framed_currentLot (c : ClockId) : (framed s).currentLot c = s.currentLot c := rfl
@[simp] theorem framed_board (c : ClockId) : (framed s).board c = s.board c := rfl
@[simp] theorem framed_row (r : RowId) : (framed s).row r = s.row r := rfl
@[simp] theorem framed_desk (d : DeskId) : (framed s).desk d = s.desk d := rfl
@[simp] theorem framed_buyer (n : Nat) : (framed s).buyer n = s.buyer n := rfl
@[simp] theorem framed_invoice (n : Nat) : (framed s).invoice n = s.invoice n := rfl
@[simp] theorem framed_reports : (framed s).hlp.reports = s.hlp.reports := rfl
@[simp] theorem framed_replies : (framed s).hlp.replies = s.hlp.replies := rfl
@[simp] theorem framed_enables : (framed s).hlp.enables = s.hlp.enables := rfl
@[simp] theorem framed_lostCount : (framed s).hlp.lostCount = s.hlp.lostCount := rfl
@[simp] theorem framed_link : (framed s).hlp.link = s.hlp.link := rfl
@[simp] theorem framed_linkRate : (framed s).hlp.linkRate = s.hlp.linkRate := rfl
@[simp] theorem framed_supervision : (framed s).hlp.supervision = s.hlp.supervision := rfl
@[simp] theorem framed_held : (framed s).hlp.held = s.hlp.held := rfl
@[simp] theorem framed_resetting : (framed s).hlp.resetting = s.hlp.resetting := rfl
@[simp] theorem framed_overruns : (framed s).hlp.overruns = s.hlp.overruns := rfl
@[simp] theorem placesUsed_framed : placesUsed (framed s) = placesUsed s := rfl

/-! ## The way to the owner -/

/-- A valid frame on a LINKED link changes the link's own state alone (R195, R197). -/
theorem frameArrives_linked (h : s.hlp.link = .linked) : frameArrives s = framed s := by
  simp [frameArrives, restartSupervision, restoreHost, framed, h]

/-- On a part that is ready a request is dispatched (R196). -/
theorem hostRequest_ready (h : Ready s) (tag : Byte) (r : Request) :
    hostRequest tag r s = dispatchRequest tag r (framed s) := by
  obtain ⟨h1, h2, h3, h4, h5⟩ := h
  simp [hostRequest, whenPowered, h1, frameArrives_linked s h2, routeRequest, h3, h4, h5]

/-- The reply to a request that brings nothing of its own (R196). -/
theorem finish_eq (tag : Byte) (r : Request) (a : Answer) :
    finish tag r .nothing a = replied tag r.replyKind a.status a.body a.state := by
  simp [finish, placeReply, replied, plainReply]

end Sys2Proof.Machine
end

