-- ==== Sys2Proof/Tests/Slice0.lean ====
section
/-! SUPPORT. Tests of the model: the well-formedness smoke tests, the manual's worked sequences, a step or two of each
command, and for each statement with hypotheses a concrete state and operands that meet them. Expected results are the
manual's own figures or are worked out by hand from the rule named. -/

set_option Elab.async false

namespace Sys2Proof.Tests

open Sys2Proof.Machine Sys2Proof.Safety

/-! ## Helpers and small states -/

/-- The state after one command. -/
def after (c : Instr) (s : State) : State :=
  match exec c s with
  | .next t => t
  | .fault _ => s
  | .refused _ => s

/-- The state after several commands in order. -/
def afterAll (l : List Instr) (s : State) : State := l.foldl (fun s c => after c s) s

/-- The newest reply. -/
def answer (s : State) : Option (Nat × Status × ReplyBody) :=
  s.hlp.replies.getLast?.map fun r => (r.kind, r.status, r.body)

/-- The bodies of the reports that wait. -/
def reported (s : State) : List ReportBody := s.hlp.reports.map Report.body

/-- A clock changed in place. -/
def onClock (c : ClockId) (f : Clock → Clock) (s : State) : State := s.setClock c (f (s.clock c))

/-- A board changed in place. -/
def onBoard (c : ClockId) (f : Board → Board) (s : State) : State := s.setBoard c (f (s.board c))

/-- A lane changed in place. -/
def onLane (c : ClockId) (f : Lane → Lane) (s : State) : State := s.setLane c (f (s.lane c))

/-- The hall's own state changed in place. -/
def onHall (f : Hall → Hall) (s : State) : State := { s with hall := f s.hall }

/-- The link's state changed in place. -/
def onLink (f : HostLink → HostLink) (s : State) : State := { s with hlp := f s.hlp }

/-- The bus changed in place. -/
def onBus (f : DeskBus → DeskBus) (s : State) : State := { s with bus := f s.bus }

/-- An operation put in progress at the arbiter. -/
def busyWith (op : Operation) (s : State) : State := s.setArbiter { s.ledger.arbiter with inProgress := some op }

/-- The lot of the worked case 3.8 under a number and a state: 1,000 down by 4 to the reserve 412, 10 packs of 50
units, minimum take 2. -/
def rose (number : Nat) (state : LotState) : Lot :=
  { number := number, grower := 12345, product := 101, quality := .a1, stemLength := some 60, text := none,
    unitsPerPack := 50, packsOffered := 10, packsSold := 0, packsRemaining := 10, minTake := 2, startPrice := 1000,
    reservePrice := 412, priceStep := some 4, state := state, position := none }

/-- The fields the host sends for such a lot. -/
def roseFields (number : Nat) : LotFields :=
  { number := number, grower := 12345, product := 101, quality := some .a1, stemLength := some 60, text := none,
    unitsPerPack := 50, packsOffered := 10, minTake := 2, startPrice := 1000, reservePrice := 412,
    priceStep := some 4 }

/-- An amendment of a lot that changes nothing. -/
def noChange (number : Nat) : LotAmendment :=
  { number := number, grower := none, product := none, quality := none, stemLength := .keep, text := .keep,
    unitsPerPack := none, packsOffered := none, minTake := none, startPrice := none, reservePrice := none,
    priceStep := .keep }

/-- A CLOCK-SET that gives nothing. -/
def noSettings (clock : Nat) : ClockSettings :=
  { clock := clock, period := none, trim := none, defaultStep := none, preview := none, window := none,
    ageLimit := none, lift := none, pause := none }

/-- The clock of the worked case 3.8, RUNNING at step 120 of run 6 with lot 4,210. -/
def running : Clock :=
  { Clock.atStart with
    state := .running, lot := some 4210, run := 6, k := 120, startPrice := some 1000,
    stepTimer := .running 5050000, reservation := true
    params := { ClockParams.default with period := 50000, trim := 20, lift := 40 } }

/-- A board that is ONLINE and idle. -/
def shownBoard : Board :=
  { Board.startValues 0 with
    online := true, misses := 0, snapshotChanged := false, frameNumber := 39, windowAt := 5020000, builtAt := 4980000 }

/-- A buyer account with nothing drawn. -/
def buyer (number feeClass limit : Nat) : Buyer :=
  { number := number, name := none, feeClass := feeClass, limit := limit, committed := 0,
    flags := { blocked := false, permit := Vector.replicate 4 true }, openInvoice := none, boundDesks := 0 }

/-- The buyer of the worked day 7.9.2 after two sales, with one bound desk. -/
def buyer2317 : Buyer :=
  { buyer 2317 2 500000 with committed := 131105, openInvoice := some 1201, boundDesks := 1 }

/-- The SALE line of the worked case 3.8.3: 3 packs at 520. -/
def saleLine : JournalLine :=
  { sequence := 440, kind := .sale, stamp := calendarOrigin, stampValid := true, clock := 0, lot := 4210, run := 5,
    buyer := some 2317, desk := some 0, invoice := some 1201, voidedSequence := none, voided := false, cause := none,
    packs := 3, unitsPerPack := 50, price := 520, amount := 78000, levy := 663, debit := 78663 }

/-- The OPEN invoice of 7.9.2 and a CLOSED one. -/
def openBill : Invoice :=
  { number := 1201, buyer := 2317, state := .opened, lineCount := 2, firstLine := 440, lastLine := 440,
    goods := 130000, levies := 1105, debits := 131105, residue := none, total := none }
def closedBill : Invoice :=
  { number := 1202, buyer := 515, state := .closed, lineCount := 1, firstLine := 430, lastLine := 430,
    goods := 1000, levies := 3, debits := 1003, residue := some 3, total := some 100 }

/-- A trolley. -/
def trolley (tag : Nat) (counted : Bool) (lots : List Nat) : Trolley :=
  { tag := tag, counted := counted, places := lots.map some }

/-- A hall at work: clock 1 runs lot 4,210, lane 1's train is ARRIVING, lane 2 has a READY candidate, lane 3 an
ANNOUNCED train, desk 1 is bound to buyer 2,317. The timebase stands at 5 s. -/
def hallOpen : State :=
  { State.reset with
    timebase := 5000000
    lots := [{ rose 4210 .onClock with packsSold := 3, packsRemaining := 7 }, rose 4211 .queued, rose 4220 .ready,
      rose 4230 .entered, { rose 4240 .soldOut with packsSold := 10, packsRemaining := 0 }, rose 4250 .queued]
    lanes := ((State.reset.lanes.set 0 { Lane.atStart with
        trains := [{ number := 45, state := .arriving, trolleys := [trolley 501 true [4210], trolley 502 false [4211]] }]
        gapEnds := some 25000000 }).set 1 { Lane.atStart with
        trains := [{ number := 46, state := .arrived, trolleys := [trolley 511 true [4220]] }] }).set 2
      { Lane.atStart with trains := [{ number := 47, state := .announced, trolleys := [trolley 521 false [4250]] }] }
    clocks := State.reset.clocks.set 0 running
    bus := { DeskBus.atStart with
      poll := some { row := 0, ack := 5, lamps := List.replicate 16 (false, false) }
      rows := DeskBus.atStart.rows.set 0 { Row.atStart with
        online := true, misses := 0, lastBatch := 5
        desks := Row.atStart.desks.set 0 { Desk.atStart with binding := some 2317 } } }
    ledger := { Ledger.atStart with
      buyers := [buyer 515 1 70000, { buyer 880 0 1000 with flags := { blocked := true, permit := Vector.replicate 4 true } },
        buyer2317]
      tariff := (Ledger.atStart.tariff.set 1 50).set 2 85
      invoices := [openBill, closedBill], nextInvoice := 1203
      journal := { Journal.atStart with
        lines := [saleLine], lastWritten := 440, lastReleased := 439
        lotMark := Journal.atStart.lotMark.set 0 (some 440) } }
    boards := Vector.replicate 4 shownBoard
    hall := { State.reset.hall with
      calendar := { year := 2031, month := 3, day := 14, hour := 10, minute := 15, second := 30, hundredth := 0 }
      timeSet := true, keyRaw := .sale, key := .sale, nextAdvance := 5010000 } }

/-- The same hall with the key in SETUP and every clock IDLE. -/
def hallSetup : State :=
  onClock 0 (fun _ => Clock.atStart) (onHall (fun h => { h with key := .setup, keyRaw := .setup }) hallOpen)

/-- The same hall with clock 1 in another state. -/
def clock1In (x : ClockState) : State := onClock 0 (fun c => { c with state := x, stepTimer := .stopped }) hallOpen

/-- The same hall with no poll begun yet. -/
def hallQuiet : State := onBus (fun b => { b with poll := none }) hallOpen

/-- The same hall with the main supply FAILED. -/
def hallDark : State := after .mainSupplyFail hallOpen

/-! ## Well-formedness (11.8) -/

theorem test_wf_accepts :
    (Instr.lotEnter 1 { roseFields 7 with text := some [65, 255] }).wellFormed = true ∧
    (Instr.rowReplyGood { row := 1, batch := 5, events := [.signOff 1] }).wellFormed = true := by decide

theorem test_wf_lot_text :
    (Instr.lotEnter 1 { roseFields 7 with text := some [256] }).wellFormed = false ∧
    (Instr.lotEnter 1 { roseFields 7 with text := some (List.replicate 256 65) }).wellFormed = false := by
  decide +kernel

theorem test_wf_amended_text :
    (Instr.lotAmend 1 { noChange 7 with text := .give [300] }).wellFormed = false := by decide

theorem test_wf_short_name :
    (Instr.buyerEnter 1 { number := 7, name := some [256], feeClass := 0, limit := 0 }).wellFormed = false := by decide

theorem test_wf_manifest_counts :
    (Instr.trainAnnounce 1 { lane := 1, train := 1, trolleys := List.replicate 256 { tag := 1, lots := [] } }).wellFormed
      = false ∧
    (Instr.trainAnnounce 1 { lane := 1, train := 1, trolleys := [{ tag := 1, lots := List.replicate 256 1 }] }).wellFormed
      = false := by decide +kernel

theorem test_wf_row_reply :
    (Instr.rowReplyGood { row := 256, batch := 0, events := [] }).wellFormed = false ∧
    (Instr.rowReplyGood { row := 1, batch := 256, events := [] }).wellFormed = false ∧
    (Instr.rowReplyGood { row := 1, batch := 1, events := List.replicate 5 (.signOff 1) }).wellFormed = false ∧
    (Instr.rowReplyGood { row := 1, batch := 1, events := [.press 1 1 1 1 65536 1] }).wellFormed = false ∧
    (Instr.rowReplyGood { row := 1, batch := 1, events := [.signOn 1 65536] }).wellFormed = false ∧
    (Instr.rowReplyGood { row := 1, batch := 1, events := [.signOff 65536] }).wellFormed = false := by decide

theorem test_wf_host_bytes :
    (Instr.frameBad (.checkFailed (List.replicate 520 0))).wellFormed = false ∧
    (Instr.frameBad (.oversizeLength 65536)).wellFormed = false ∧ (Instr.startByteReceived []).wellFormed = false ∧
    (Instr.startByteReceived (clean (List.replicate 520 0))).wellFormed = false := by decide +kernel

theorem test_wf_answer_number : (Instr.boardAnswerGood 0 256).wellFormed = false := by decide

/-- The table gives its rows no bits, so no word spells a command. -/
theorem test_no_word_spells_a_command : decodeTableWord 8 0 = none ∧ decodeTableWord 16 65535 = none := by decide

theorem test_no_word_queues_a_command : (State.reset.withFetchWord 8 1).pending = [] := by decide

/-- The state after one step. -/
def stepped (s : State) : State :=
  match step s with
  | .next t => t
  | .fault _ => s
  | .refused _ => s

theorem test_step_runs_the_front :
    let t := stepped { hallOpen with pending := [.clockQuery 1 1, .mainSupplyFail] }
    t.pending = [.mainSupplyFail] ∧ t.hlp.replies.length = 1 := by decide +kernel

/-- With no command waiting a microsecond passes and what is due joins the queue (log entry 2). -/
theorem test_idle_tick :
    let s := onLane 1 (fun l => { l with trains := [] }) { hallOpen with timebase := 5009999 }
    let t := stepped s
    t.timebase = 5010000 ∧ t.pending = [] ∧ (stepped t).timebase = 5010000 ∧
    (stepped t).pending = [.calendarAdvance] := by decide +kernel

/-- 0.5.3 and R65: a preview time of 0 expires at once, with no microsecond between the taking and the run. -/
theorem test_preview_at_once :
    let s := onClock 1 (fun c => { c with params := { c.params with preview := 0 } }) hallOpen
    let t := stepped (stepped (stepped (stepped s)))
    s.timebase = 5000000 ∧ t.timebase = 5000000 ∧ (t.clock 1).state = .running := by decide +kernel

/-! ## The manual's figures: chapter 3, 4.8, 6.8 -/

/-- 3.8.1: the prices of the worked case, and the reserve test of its last step. -/
theorem test_prices :
    priceAt 1000 63 4 = 748 ∧ priceAt 1000 120 4 = 520 ∧ priceAt 1000 147 4 = 412 ∧
    mayAdvance 1000 146 4 412 = true ∧ mayAdvance 1000 147 4 412 = false := by decide

/-- 3.8.1: the trimmed steps. -/
theorem test_periods :
    periodOf running.params 62 = 50000 ∧ periodOf running.params 63 = 50020 ∧ periodOf running.params 64 = 50000 ∧
    periodOf running.params 127 = 50020 := by decide

/-- 3.8.3: the sale of 3 packs at 520, and the quantity cut to 2. -/
theorem test_debits :
    amountOf 520 50 3 = 78000 ∧ levyOf 85 78000 = 663 ∧ debitOf 520 50 85 3 = 78663 ∧ debitOf 520 50 85 2 = 52442 ∧
    affordable (debitOf 520 50 85) 68900 2 3 = some 2 := by decide

/-- 6.8.1 and 6.8.4: the two debits of the refusal and the sale, and each order's cut. -/
theorem test_more_debits :
    debitOf 1260 20 50 3 = 75978 ∧ debitOf 1250 20 85 4 = 100850 ∧
    affordable (debitOf 1260 20 50) 70000 3 12 = none ∧
    affordable (debitOf 600 25 85) 71337 1 6 = some 4 ∧ affordable (debitOf 520 50 85) 59235 2 3 = some 2 := by decide

/-- 8.9.1 and 7.9.2: an invoice's total and residue. -/
theorem test_totals :
    totalOf 78663 = 7866 ∧ residueOf 78663 = 3 ∧ totalOf 131105 = 13110 ∧ residueOf 131105 = 5 := by decide

/-- 4.8.1 and 6.8.1: restart prices, and the last step of the restart run. -/
theorem test_restart_prices :
    restartPrice 1000 520 40 = 560 ∧ restartPrice 2000 1250 30 = 1280 ∧ mayAdvance 560 36 4 412 = true ∧
    mayAdvance 560 37 4 412 = false := by decide

/-- R47: the press of 5.10.1 is a step old, and one of age 3 is too old; the tag wraps at 256. -/
theorem test_press_ages :
    pressStep 41 40 2 = some 40 ∧ pressStep 43 40 2 = none ∧ pressStep 257 255 2 = some 255 ∧
    pressStep 1 255 3 = none := by decide

/-- R49: 0 asks for all that remain; a request below the minimum take is raised to it. -/
theorem test_clamp : clampPacks 0 12 3 = 12 ∧ clampPacks 20 12 3 = 12 ∧ clampPacks 1 12 3 = 3 := by decide

/-- R195: the check value the manual gives. -/
theorem test_check_value : crc [0x31, 0x32, 0x33, 0x34, 0x35, 0x36, 0x37, 0x38, 0x39] = 0x29B1 := by decide +kernel

/-- 11.8.3: a row's frame byte by byte: start byte, address, type 3, length, batch, event count, a SIGN-ON of buyer
2,317 at desk 17. -/
theorem test_reply_bytes :
    (writeBusFrame (replyFrame { row := 2, batch := 6, events := [.signOn 17 2317] })).take 11 =
      [0x5A, 2, 3, 7, 6, 1, 2, 0, 17, 9, 13] := by decide +kernel

/-- R196: KEY is coded 8, and each status byte names the status that is coded by it. -/
theorem test_status_codes :
    statusCode .key = 8 ∧ ∀ n, n < 12 → ∃ x ∈ statusOf n, statusCode x = n := by decide

/-- R183: leap years, the end of a year and the wrap of 2099. -/
theorem test_calendar_carries :
    nextHundredth { year := 2032, month := 2, day := 28, hour := 23, minute := 59, second := 59, hundredth := 99 } =
      { year := 2032, month := 2, day := 29, hour := 0, minute := 0, second := 0, hundredth := 0 } ∧
    nextHundredth { year := 2031, month := 2, day := 28, hour := 23, minute := 59, second := 59, hundredth := 99 } =
      { year := 2031, month := 3, day := 1, hour := 0, minute := 0, second := 0, hundredth := 0 } ∧
    nextHundredth { year := 2099, month := 12, day := 31, hour := 23, minute := 59, second := 59, hundredth := 99 } =
      calendarOrigin := by decide

/-- 10.6.1: 29 February 2031 is refused at the day, the third field. -/
theorem test_no_leap_day :
    timeFault { year := 2031, month := 2, day := 29, hour := 5, minute := 59, second := 30, hundredth := 0 } = some 3 := by
  decide

/-- 5.10.2: the REFUSED lamp with a second pulse queued is dark again after twelve visits, and on at visits 1 to 3 and
7 to 9. -/
theorem test_lamp_visits :
    let l1 := pulseLamp (visitLamp (pulseLamp .dark))
    let v := fun l n => (List.replicate n ()).foldl (fun (l : Lamp) _ => visitLamp l) l
    l1 = { phase := .on, visits := 2, queued := 1 } ∧ v l1 2 = { phase := .gap, visits := 3, queued := 1 } ∧
    v l1 5 = { phase := .on, visits := 3, queued := 0 } ∧ v l1 11 = .dark := by decide

/-- 6.8.2: the four presses on a full collection. -/
def full : List Press := (List.range 16).map fun i =>
  { desk := Fin.ofNat 480 (385 + i), packs := 1, offset := 1000 * (i + 1), step := 12, arrival := i }
def fullClock : State := onClock 3 (fun c => { c with state := .stopping, lot := some 4230, collection := full }) hallOpen
def press (desk : DeskId) (offset step arrival : Nat) : Press :=
  { desk := desk, packs := 1, offset := offset, step := step, arrival := arrival }
theorem test_full_collection :
    let s1 := collect 3 (press 8 900 12 16) fullClock
    let s2 := collect 3 (press 32 20000 12 17) s1
    let s3 := collect 3 (press 8 950 12 18) s2
    let s4 := collect 3 (press 400 60000 11 19) s3
    (s1.clock 3).collection.length = 16 ∧ (s1.clock 3).collection.head? = some (press 8 900 12 16) ∧
    (s1.desk 400).lastRefusal.map LastRefusal.reason = some .outbid ∧
    (s2.clock 3).collection = (s1.clock 3).collection ∧ (s2.desk 32).lastRefusal.map LastRefusal.reason = some .outbid ∧
    (s3.desk 8).lastRefusal.map LastRefusal.reason = some .duplicate ∧
    (s4.clock 3).collection.head? = some (press 400 60000 11 19) ∧
    (s4.clock 3).collection.getLast?.map Press.offset = some 14000 ∧
    (s4.desk 399).lastRefusal.map LastRefusal.reason = some .outbid := by decide +kernel

/-- 7.9.1: the order after clock 3 runs 4, 1, 2, 3. -/
theorem test_service_order :
    choose { Arbiter.atStart with
      commits := (Arbiter.atStart.commits.set 0 (some ⟨1, 0, 1, 1⟩)).set 3 (some ⟨1, 0, 1, 1⟩), lastServed := 2 } =
      .commit 3 ∧
    choose { Arbiter.atStart with requests := [(1, .dayClose)] } = .request := by decide

/-! ## Host requests, a step or two each -/

/-- R200. -/
theorem test_identify :
    answer (after (.identify 9) hallOpen) = some (129, .ok, .identity
      { name := "Stavik 440", revision := Config.revisionCode, capacities := capacities, linkRate := 115200,
        supervision := .eightSeconds, lastStart := .cold }) := by rfl

/-- R11: seven slots in use after the entry, the lot ENTERED with all its packs. -/
theorem test_lot_enter :
    let t := after (.lotEnter 9 (roseFields 4215)) hallOpen
    answer t = some (130, .ok, .occupied 7) ∧ t.lot 4215 = some (rose 4215 .entered) := by decide +kernel

/-- R10: the minimum take is the ninth field; the fields are judged before the number is looked up. -/
theorem test_lot_enter_refused :
    answer (after (.lotEnter 9 { roseFields 4230 with minTake := 11 }) hallOpen) = some (130, .badField, .field 9) ∧
    answer (after (.lotEnter 9 (roseFields 4230)) hallOpen) = some (130, .exists_, .empty) := by decide +kernel

/-- 1.8.1: a new reserve price, and the refusal while a clock has the lot. -/
theorem test_lot_amend :
    let t := after (.lotAmend 9 { noChange 4211 with reservePrice := some 650 }) hallOpen
    answer t = some (131, .ok, .empty) ∧ (t.lot 4211).map Lot.reservePrice = some 650 ∧
    answer (after (.lotAmend 9 { noChange 4210 with packsOffered := some 9 }) hallOpen) =
      some (131, .state, .empty) := by decide +kernel

/-- R14: a sold-out lot goes, a lot on a clock does not. -/
theorem test_lot_remove :
    let t := after (.lotRemove 9 4240) hallOpen
    answer t = some (132, .ok, .occupied 5) ∧ t.lot 4240 = none ∧
    answer (after (.lotRemove 9 4210) hallOpen) = some (132, .state, .empty) := by decide +kernel

/-- R15: the smallest number above 4,211 is 4,220. -/
theorem test_lot_query :
    answer (after (.lotQuery 9 (.nextAfter 4211)) hallOpen) = some (133, .ok, .lot (some (rose 4220 .ready)) 6) ∧
    answer (after (.lotQuery 9 (.byNumber 1)) hallOpen) = some (133, .notFound, .lot none 6) := by decide +kernel

/-- R23: the lot takes place 1 of trolley 1. -/
theorem test_train_announce :
    let t := after (.trainAnnounce 9 { lane := 4, train := 50, trolleys := [{ tag := 601, lots := [4230] }] }) hallOpen
    answer t = some (134, .ok, .trains 1) ∧ (t.lot 4230).map Lot.state = some .queued ∧
    (t.lot 4230).bind Lot.position = some { lane := 3, train := 50, trolley := 1, place := 1 } := by decide +kernel

/-- R22: a repeated lot is the seventh field (lane, train, count, tag, lot count, lot, lot); a lot not ENTERED is named. -/
theorem test_train_announce_refused :
    answer (after (.trainAnnounce 9 { lane := 4, train := 50, trolleys := [{ tag := 601, lots := [4230, 4230] }] })
      hallOpen) = some (134, .badField, .field 7) ∧
    answer (after (.trainAnnounce 9 { lane := 4, train := 50, trolleys := [{ tag := 601, lots := [4230, 4211] }] })
      hallOpen) = some (134, .state, .lotAtFault 4211) := by decide +kernel

/-- R24: an ANNOUNCED train is taken back, an ARRIVING one is not. -/
theorem test_train_cancel :
    let t := after (.trainCancel 9 3 47) hallOpen
    answer t = some (135, .ok, .trains 0) ∧ (t.lot 4250).map Lot.state = some .entered ∧
    answer (after (.trainCancel 9 1 45) hallOpen) = some (135, .state, .empty) := by decide +kernel

/-- R34 and R35. -/
theorem test_lane_query :
    answer (after (.laneQuery 9 (.train 1 45)) hallOpen) = some (136, .ok, .train
      { state := .arriving
        trolleys := [{ tag := 501, counted := true, places := [some (4210, some .onClock)] },
          { tag := 502, counted := false, places := [some (4211, some .queued)] }] }) ∧
    answer (after (.laneQuery 9 (.lane 1)) hallOpen) = some (136, .ok, .lane
      { count := 5, gapTime := 20, blocked := false, counter := 0, passageOpen := false, gapLeft := some 20000,
        strays := 0, trains := [{ number := 45, state := .arriving, trolleys := 2, counted := 1 }],
        candidate := some (4210, .onClock) }) := by decide +kernel

/-- R19: a gap timer that is due and has not had its expiry yet shows 1 ms. -/
theorem test_lane_query_due :
    (match answer (after (.laneQuery 9 (.lane 1)) { hallOpen with timebase := 25000000 }) with
      | some (136, .ok, .lane p) => p.gapLeft = some 1
      | _ => False) := by
  show _ = _
  decide +kernel

/-- R33: lane 0 names all four. -/
theorem test_lane_set :
    let t := after (.laneSet 9 { lane := 0, count := some 7, gapTime := none }) hallOpen
    answer t = some (137, .ok, .empty) ∧ (t.lane 0).count = 7 ∧ (t.lane 3).count = 7 ∧ (t.lane 3).gapTime = 20 := by
  decide +kernel

/-- R59: only with the key in SETUP, only for a clock in IDLE or CLOSED. -/
theorem test_clock_set :
    let t := after (.clockSet 9 { noSettings 1 with period := some 2000 }) hallSetup
    (t.clock 0).params.period = 2000 ∧
    answer (after (.clockSet 9 { noSettings 1 with period := some 2000 }) hallOpen) = some (138, .key, .empty) ∧
    answer (after (.clockSet 9 { noSettings 1 with period := some 1999 }) hallSetup) =
      some (138, .badField, .field 2) := by decide +kernel

/-- R82: the picture of the running clock. -/
theorem test_clock_query :
    (match answer (after (.clockQuery 9 1) hallOpen) with
      | some (139, .ok, .clocks [p]) => p.price = some 520 ∧ p.stepLeft = some 50000 ∧ p.reservation = 1
      | _ => False) := by
  show _ ∧ _ ∧ _
  decide +kernel

/-- R74: HELD with a full period to run, and a refusal of the other three clocks. -/
theorem test_clock_hold :
    let t := after (.clockHold 9 0) hallOpen
    (t.clock 0).state = .held ∧ (t.clock 0).stepTimer = .halted 50000 ∧
    answer t = some (140, .state, .clockOutcomes
      ({ status := .ok, ended := none } :: List.replicate 3 { status := .state, ended := none })) := by decide +kernel

/-- R75 and 6.8.3: a new run at the same step, its tick carrying tag 120. -/
theorem test_clock_resume :
    let t := after (.clockResume 9 1) (clock1In .held)
    (t.clock 0).state = .running ∧ (t.clock 0).run = 7 ∧ (t.clock 0).k = 120 ∧
    t.bus.ticks = [{ clock := 0, run := 7, tag := 120 }] := by decide +kernel

/-- R76 and R151: the NO_SALE line for the 7 packs left at P(120) = 520; a part-sold lot ends DONE. -/
theorem test_clock_withdraw :
    let t := after (.clockWithdraw 9 1) (clock1In .held)
    (t.clock 0).state = .idle ∧ (t.lot 4210).map Lot.state = some .done ∧ t.ledger.journal.lastWritten = 441 ∧
    (t.ledger.journal.lines.getLast?.map fun l => (l.kind, l.packs, l.price)) = some (.noSale, 7, 520) ∧
    answer t = some (142, .ok, .clockOutcomes [{ status := .ok, ended := some (4210, .done) }]) := by decide +kernel

/-- R78. -/
theorem test_clock_open :
    let s := onClock 2 (fun c => { c with state := .closed, closing := true }) hallOpen
    let t := after (.clockOpen 9 3) s
    (t.clock 2).state = .idle ∧ (t.clock 2).closing = false := by decide +kernel

/-- R103. -/
theorem test_desk_query :
    (match answer (after (.deskQuery 9 (.desk 1)) hallOpen) with
      | some (144, .ok, .desk d) => d.binding = some 2317
      | _ => False) ∧
    (answer (after (.deskQuery 9 (.desk 481)) hallOpen)) = some (144, .badField, .field 1) := by
  refine ⟨?_, by decide +kernel⟩
  show _ = _
  decide +kernel

/-- R100: the desk's buyer comes back in the reply and his count falls. -/
theorem test_desk_release :
    let t := after (.deskRelease 9 1) hallOpen
    answer t = some (145, .ok, .released (some 2317)) ∧ (t.desk 0).binding = none ∧
    (t.buyer 2317).map Buyer.boundDesks = some 0 := by decide +kernel

/-- R134 and R135: with nothing in progress a ledger request is served as it arrives, and its operation completes. -/
theorem test_buyer_enter :
    let t := afterAll [.buyerEnter 9 { number := 601, name := some [65], feeClass := 2, limit := 1000 },
      .ledgerOperationComplete] hallOpen
    answer t = some (146, .ok, .accounts 4) ∧
    t.buyer 601 = some { buyer 601 2 1000 with name := some [65] } := by decide +kernel

/-- R129: BLOCKED set on an account. -/
theorem test_buyer_flags :
    let f : BuyerFlags := { blocked := true, permit := Vector.replicate 4 false }
    let t := afterAll [.buyerFlags 9 { number := 515, action := some .set, flags := f }, .ledgerOperationComplete] hallOpen
    (t.buyer 515).map (fun b => (b.flags.blocked, b.flags.permit.get 0)) = some (true, true) := by decide +kernel

/-- 7.9.2: a limit of 100,000 is below committed 131,105; 200,000 leaves 68,895. -/
theorem test_buyer_limit :
    answer (afterAll [.buyerLimit 9 2317 100000, .ledgerOperationComplete] hallOpen) =
      some (148, .belowCommitted, .committed 131105) ∧
    answer (afterAll [.buyerLimit 9 2317 200000, .ledgerOperationComplete] hallOpen) =
      some (148, .ok, .limit 200000 131105 68895) := by decide +kernel

/-- R131: an account with a CLOSED invoice stays. -/
theorem test_buyer_remove :
    answer (afterAll [.buyerRemove 9 515, .ledgerOperationComplete] hallOpen) = some (149, .state, .empty) ∧
    answer (afterAll [.buyerRemove 9 880, .ledgerOperationComplete] hallOpen) = some (149, .ok, .accounts 2) := by
  decide +kernel

/-- R132: 7.9.2's figures. -/
theorem test_buyer_query :
    answer (after (.buyerQuery 9 (.byNumber 2317)) hallOpen) =
      some (150, .ok, .buyer (some (buyer2317, 368895, 0)) 3) := by decide +kernel

/-- R133: a rate above 20 % is out of range; the key must be in SETUP. -/
theorem test_tariff_set :
    answer (after (.tariffSet 9 7 2001) hallSetup) = some (151, .badField, .field 2) ∧
    answer (after (.tariffSet 9 7 2000) hallOpen) = some (151, .key, .empty) ∧
    rateOf (afterAll [.tariffSet 9 7 2000, .ledgerOperationComplete] hallSetup) 7 = 2000 := by decide +kernel

/-- R157 with the figures of 3.8.3: line 441 voids line 440 while clock 1 is HELD. -/
theorem test_sale_void :
    let t := afterAll [.saleVoid 9 440, .saleVoidComplete] (clock1In .held)
    answer t = some (152, .ok, .voided
      { sequence := 441, buyer := 2317, invoice := 1201, packs := 3, debit := 78663, committed := 52442,
        available := 447558, invoiceDebits := 52442, packsSold := 0, packsRemaining := 10 }) ∧
    (t.line 440).map JournalLine.voided = some true := by decide +kernel

/-- R156: refused while the clock runs. -/
theorem test_sale_void_refused :
    answer (afterAll [.saleVoid 9 440, .saleVoidComplete] hallOpen) = some (152, .state, .empty) := by decide +kernel

/-- R56: the payment of a total of 100 cents lowers committed by 1,000 and frees the slot. -/
theorem test_payment_post :
    let s := hallOpen.modBuyer 515 fun b => { b with committed := 1000 }
    let t := afterAll [.paymentPost 9 1202, .ledgerOperationComplete] s
    answer t = some (153, .ok, .paid 515 100 0 70000) ∧ t.invoice 1202 = none := by decide +kernel

/-- 7.9.2: total 13,110 cents, residue 5, committed 131,100. -/
theorem test_invoice_close :
    let t := afterAll [.invoiceClose 9 (.buyer 2317), .ledgerOperationComplete] hallOpen
    answer t = some (154, .ok, .invoiceClosed
      { invoice := 1201, buyer := 2317, lineCount := 2, goods := 130000, levies := 1105, debits := 131105,
        total := 13110, residue := 5, committed := 131100 }) ∧
    (t.buyer 2317).map Buyer.openInvoice = some none := by decide +kernel

/-- R163: refused while a clock has a lot; accepted with every clock IDLE. -/
theorem test_day_close :
    answer (afterAll [.dayClose 9, .ledgerOperationComplete] hallOpen) = some (155, .state, .clockAtFault 0) ∧
    answer (afterAll [.dayClose 9, .ledgerOperationComplete] hallSetup) = some (155, .ok, .dayClosed 1 13110 5) := by
  decide +kernel

/-- R164: the first CLOSED invoice of buyer 515; the figures come in every reply. -/
theorem test_invoice_query :
    answer (after (.invoiceQuery 9 (.nextAfter 0 (some 515) (some .closed))) hallOpen) =
      some (156, .ok, .invoice (some closedBill) { openCount := 1, closedCount := 1, nextNumber := 1203 }) ∧
    answer (after (.invoiceQuery 9 (.byNumber 0)) hallOpen) =
      some (156, .badField, .invoiceField 1 { openCount := 1, closedCount := 1, nextNumber := 1203 }) := by
  decide +kernel

/-- R154: free space is 8,192 − 1 − 1; the figures come in every reply. -/
theorem test_journal_read :
    answer (after (.journalRead 9 440 8) hallOpen) = some (157, .ok, .journal [saleLine]
      { lastReleased := 439, lastWritten := 440, reservations := 1, free := 8190,
        lotMark := #v[some 440, none, none, none] }) ∧
    answer (after (.journalRead 9 440 9) hallOpen) = some (157, .badField, .journalField 2
      { lastReleased := 439, lastWritten := 440, reservations := 1, free := 8190,
        lotMark := #v[some 440, none, none, none] }) := by decide +kernel

/-- R155. -/
theorem test_journal_release :
    let t := after (.journalRelease 9 440) hallOpen
    answer t = some (158, .ok, .linesFreed 1 440 8191) ∧ t.ledger.journal.lines = [] ∧
    answer (after (.journalRelease 9 441) hallOpen) = some (158, .badField, .field 1) := by decide +kernel

/-- R177: the period stored, the timer afresh. -/
theorem test_board_set :
    let t := after (.boardSet 9 2 100) hallOpen
    (t.board 1).period = 100 ∧ (t.board 1).windowAt = 5100000 ∧ (t.board 0).period = 40 ∧
    answer (after (.boardSet 9 2 19) hallOpen) = some (159, .badField, .field 2) := by decide +kernel

/-- R178: what the picture shows of clock 1. -/
theorem test_board_query :
    (match answer (after (.boardQuery 9 1) hallOpen) with
      | some (160, .ok, .boards [p]) => p.windowLeft = 20 ∧ p.keepAlive = 20 ∧ p.picture.price = some 520 ∧
          p.picture.dial = some 20
      | _ => False) := by
  show _ ∧ _ ∧ _ ∧ _
  decide +kernel

/-- 10.6.1: 29 February 2031 is refused and clears time-set; 14 March is stored. -/
theorem test_hall_time_set :
    let bad : Stamp := { year := 2031, month := 2, day := 29, hour := 5, minute := 59, second := 30, hundredth := 0 }
    let good : Stamp := { year := 2031, month := 3, day := 14, hour := 5, minute := 59, second := 40, hundredth := 0 }
    let t := after (.hallTimeSet 9 bad) hallSetup
    answer t = some (161, .badField, .field 3) ∧ t.hall.timeSet = false ∧
    (after (.hallTimeSet 9 good) t).hall.calendar = good ∧ (after (.hallTimeSet 9 good) t).hall.timeSet = true := by
  decide +kernel

/-- R186. -/
theorem test_hall_time_read :
    (match answer (after (.hallTimeRead 9) hallOpen) with
      | some (162, .ok, .hall p) => p.key = .sale ∧ p.timeSet = true ∧ p.failStamp = none
      | _ => False) := by
  show _ ∧ _ ∧ _
  decide +kernel

/-- R188: the minute is the third field. -/
theorem test_close_alarm_set :
    let a : Alarm := { hour := 17, hourOn := true, minute := 30, minuteOn := true }
    (after (.closeAlarmSet 9 a) hallSetup).hall.alarm = a ∧
    answer (after (.closeAlarmSet 9 { a with minute := 60 }) hallSetup) = some (163, .badField, .field 3) := by
  decide +kernel

/-- R199: the oldest report first; attention falls with the queue. -/
theorem test_report_take :
    let s := after (.gateQualifiedChange 1) (after (.gateQualifiedChange 1) hallOpen)
    let t := after (.reportTake 9 8) s
    s.hlp.attention = true ∧ t.hlp.attention = false ∧ t.hlp.reports = [] ∧
    (match answer t with
      | some (164, .ok, .reports 0 0 [r]) => r.number = 0 ∧ r.body = .stray 1 1
      | _ => False) := by
  refine ⟨by decide +kernel, by decide +kernel, by decide +kernel, ?_⟩
  show _ ∧ _
  decide +kernel

/-- R198: with its class disabled a report is not raised. -/
theorem test_report_enable :
    let s := after (.reportEnable 9 { allEnabled with supply := false }) hallOpen
    reported (afterAll [.gateQualifiedChange 1, .gateQualifiedChange 1] s) = [] := by decide +kernel

/-- R200: the frame that asks is counted itself. -/
theorem test_stats_read :
    (match answer (after (.statsRead 9) hallOpen) with
      | some (166, .ok, .stats x) => x.framesGood = 1
      | _ => False) := by
  show _ = _
  decide +kernel

/-- R200: the reply carries the values before the clearing. -/
theorem test_stats_clear :
    let t := after (.statsClear 9) (onLane 0 (fun l => { l with strays := 65535 }) hallOpen)
    (t.lane 0).strays = 0 ∧ t.hlp.framesGood = 0 ∧
    (match answer t with
      | some (167, .ok, .stats x) => x.strays.get 0 = 65535
      | _ => False) := by
  refine ⟨by decide +kernel, by decide +kernel, ?_⟩
  show _ = _
  decide +kernel

/-- R201: the rate on the line changes when the reply has gone. -/
theorem test_link_set :
    let t := after (.linkSet 9 921600 (some .twoSeconds)) hallSetup
    t.hlp.linkRate = 921600 ∧ t.hlp.activeRate = 115200 ∧ t.hlp.supervisionEnds = some 7000000 ∧
    (after (.replySent .ok) t).hlp.activeRate = 921600 := by decide +kernel

/-- R202: the warm start comes at the end of the reply. -/
theorem test_controller_reset :
    let t := afterAll [.controllerReset 9, .replySent .ok] hallOpen
    t.hall.lastStart = .warmReset ∧ t.hlp.replies = [] ∧ (t.clock 0).state = .idle ∧ (t.clock 0).run = 6 ∧
    (t.lot 4210).map Lot.state = some .ready := by decide +kernel

/-- R196. -/
theorem test_unknown_request :
    answer (after (.unknownRequest 9) hallOpen) = some (255, .unknownRequest, .empty) := by decide +kernel

/-! ## Events, a step or two each -/

/-- R196: a second frame while one is held is an overrun; with none held it is no overrun. -/
theorem test_frame_overrun :
    (after .frameOverrun (onLink (fun h => { h with held := some (1, .identify) }) hallOpen)).hlp.overruns = 1 ∧
    (after .frameOverrun hallOpen).hlp.overruns = 0 := by decide +kernel

/-- R195: a frame with a wrong CRC is bad; the same bytes with the right one are no bad frame. -/
theorem test_frame_bad :
    let good := writeHostFrame { kind := 1, tag := 9, body := [] }
    let t := afterAll [.startByteReceived (clean [0xA5, 0]), .frameBad (.checkFailed (good.take 6 ++ [0]))] hallOpen
    t.hlp.framesBad = 1 ∧ t.hlp.receiver = .hunting ∧ t.hlp.framesGood = 0 ∧
    (after (.frameBad (.checkFailed good)) hallOpen).hlp.framesBad = 0 ∧
    (after (.frameBad (.oversizeLength 512)) hallOpen).hlp.framesBad = 0 ∧
    (after (.frameBad (.oversizeLength 513)) hallOpen).hlp.framesBad = 1 := by decide +kernel

/-- R195: HUNTING passes over what is no start byte; a length above 512 abandons the frame at that byte; the second start
byte is one of the frame's own. -/
theorem test_start_byte :
    let s := after (.startByteReceived (clean [0x00, 0xA5, 0x02, 0x00, 0x01])) hallOpen
    s.hlp.receiver = .receiving [0xA5, 0x02, 0x00, 0x01] false 5001000 ∧
    (after (.startByteReceived (clean [0xA5, 0x02, 0x01])) hallOpen).hlp.framesBad = 1 ∧
    (afterAll [.startByteReceived, .startByteReceived] hallOpen).hlp.receiver =
      .receiving [0xA5, 0xA5] false 5001000 := by decide +kernel

/-- The frame of an IDENTIFY with tag 9. -/
def identifyBytes : List Byte := writeHostFrame { kind := 1, tag := 9, body := [] }

/-- R195 and R196: the bytes of a valid frame are its request, also with bytes behind them; a stop-bit error in one of them,
or a wrong CRC, makes the frame bad. -/
theorem test_frame_by_bytes :
    let t := after (.startByteReceived (clean (identifyBytes ++ [0xA5]))) hallOpen
    let bent : LineByte := { value := 0xA5, stopError := true }
    t.hlp.framesGood = 1 ∧ (answer t).map (fun x => x.1) = some 129 ∧ t.hlp.receiver = .receiving [0xA5] false 5001000 ∧
    (after (.startByteReceived (bent :: clean identifyBytes.tail)) hallOpen).hlp.framesBad = 1 ∧
    (after (.startByteReceived (clean (identifyBytes.take 6 ++ [0]))) hallOpen).hlp.framesBad = 1 := by decide +kernel

/-- R195: the part itself abandons a partial frame when its millisecond is over. -/
theorem test_idle_line_is_due :
    let s := after .startByteReceived hallOpen
    .receiverIdleTimeout ∉ dueCommands { s with timebase := 5000999 } ∧
    .receiverIdleTimeout ∈ dueCommands { s with timebase := 5001000 } := by decide +kernel

/-- R195: a millisecond after the start byte the idle line abandons the frame. -/
theorem test_receiver_idle :
    let s := after .startByteReceived hallOpen
    s.hlp.receiver = .receiving [0xA5] false 5001000 ∧ (after .receiverIdleTimeout s).hlp.framesBad = 1 ∧
    (after .receiverIdleTimeout s).timebase = 5001000 := by decide +kernel

/-- R196: the place freed lets the held request through. -/
theorem test_reply_sent :
    let s := onLink (fun h => { h with
      replies := List.replicate 16 (plainReply 1 129 .ok .empty), held := some (7, .hallTimeRead) }) hallOpen
    let t := after (.replySent .ok) s
    t.hlp.replies.length = 16 ∧ t.hlp.held = none ∧ (answer t).map (fun x => x.1) = some 162 := by decide +kernel

/-- R197: HOST-LOST with its report; a valid frame brings LINKED back. -/
theorem test_supervision_expiry :
    let t := after .supervisionExpiry hallOpen
    t.hlp.link = .hostLost ∧ t.timebase = 8000000 ∧ reported t = [.hostLost .hostLost] ∧
    reported (after (.identify 9) t) = [.hostLost .hostLost, .hostLost .linked] := by decide +kernel

/-- A sale of 3 packs at step 120 to the buyer of desk 1: clock 1 in DECIDING with its commit in progress. -/
def saleRequest : CommitRequest := { lot := 4210, desk := 0, packs := 3, step := 120 }
def saleFigures : SaleFigures :=
  { buyer := 2317, price := 520, units := 50, quantity := 3, packs := 3, amount := 78000, levy := 663, debit := 78663 }
def deciding : State :=
  busyWith (.commit 0 saleRequest (.accepted saleFigures)) (onClock 0 (fun c => { c with
    state := .deciding, stepTimer := .halted 40000
    collection := [{ desk := 0, packs := 3, offset := 3100, step := 120, arrival := 0 }] }) hallOpen)

/-- R137: the figures the arbiter reads are those of 3.8.3. -/
theorem test_commit_judged : judgeCommit deciding 0 saleRequest = .accepted saleFigures := by decide +kernel

/-- R139 and R119 with the figures of 3.8.3: 4 packs remain, at least the minimum take, so SOLD and a restart. -/
theorem test_sale_commit :
    let t := after .saleCommitComplete deciding
    (t.clock 0).state = .sold ∧ (t.clock 0).pauseEnds = some 5800000 ∧ (t.clock 0).reservation = false ∧
    (t.buyer 2317).map Buyer.committed = some 209768 ∧ (t.lot 4210).map Lot.packsRemaining = some 4 ∧
    t.ledger.counters.accepted = 1 ∧ (t.desk 0).win.phase = .on ∧
    (match reported t with
      | [.sale r] => r.sequence = 441 ∧ r.remaining = 4 ∧ r.next = .restart
      | _ => False) := by
  refine ⟨by decide +kernel, by decide +kernel, by decide +kernel, by decide +kernel, by decide +kernel,
    by decide +kernel, by decide +kernel, ?_⟩
  show _ ∧ _ ∧ _
  decide +kernel

/-- 6.8.1's refusal: desk 170's buyer has 70,000 available, and 3 packs of 20 units at 1,260 cost 75,978. -/
theorem test_commit_credit_refused :
    judgeCredit (buyer 515 1 70000)
      { rose 7044 .onClock with unitsPerPack := 20, packsRemaining := 12, minTake := 3 } 1260 50 0 =
    .refused (.credit
      { buyer := 515, price := 1260, quantity := 12, minTakeDebit := 75978, available := 70000 }) := by decide +kernel

/-- R134: the completion of an operation frees the arbiter; a commit is none of its operations. -/
theorem test_ledger_operation_complete :
    (afterAll [.tariffSet 9 0 300, .ledgerOperationComplete] hallSetup).ledger.arbiter.inProgress = none ∧
    after .ledgerOperationComplete deciding = deciding := by decide +kernel

/-- R62 and R153: LOADED NEW with k 0, run 1, a preview of 1,500 ms and the lot mark at the next sequence. -/
theorem test_take_lot :
    let t := after (.takeLot 1) hallOpen
    (t.clock 1).state = .loaded .new ∧ (t.clock 1).lot = some 4220 ∧ (t.clock 1).run = 1 ∧
    (t.clock 1).previewEnds = some 6500000 ∧ (t.lot 4220).map Lot.state = some .onClock ∧
    t.ledger.journal.lotMark.get 1 = some 441 := by decide +kernel

/-- R65: the run begins at the preview's end with step 0 and its tick. -/
theorem test_preview_expiry :
    let t := afterAll [.takeLot 1, .previewExpiry 1] hallOpen
    (t.clock 1).state = .running ∧ (t.clock 1).reservation = true ∧ (t.clock 1).stepTimer = .running 6540000 ∧
    t.bus.ticks = [{ clock := 1, run := 1, tag := 0 }] := by decide +kernel

/-- R67: P(121) = 516; and at step 147 the lot is withdrawn at reserve. -/
theorem test_step_timer :
    let t := after (.stepTimerExpiry 0) hallOpen
    (t.clock 0).k = 121 ∧ shownPrice t 0 = some 516 ∧ (t.clock 0).stepTimer = .running 5100000 := by decide +kernel

/-- R67 and 3.8.1: P(148) would be below the reserve; a part-sold lot ends DONE, with its two reports. -/
theorem test_withdrawal_at_reserve :
    let t := after (.stepTimerExpiry 0) (onClock 0 (fun c => { c with k := 147 }) hallOpen)
    (t.clock 0).state = .idle ∧ (t.lot 4210).map Lot.state = some .done ∧
    reported t = [.lotDone 0 4210 .done 3 7 .reserve, .clock 0 .idle .lotEnd none 6 0] ∧ freeSpace t = 8190 := by
  decide +kernel

/-- R112 and R114: the head of the collection is offered. -/
theorem test_window_expiry :
    let s := onClock 0 (fun c => { c with
      state := .stopping, stepTimer := .halted 40000, windowEnds := some 5006000
      collection := [{ desk := 0, packs := 3, offset := 3100, step := 120, arrival := 0 }] }) hallOpen
    let t := after (.windowExpiry 0) s
    (t.clock 0).state = .deciding ∧ t.timebase = 5006000 ∧
    t.ledger.arbiter.inProgress = some (.commit 0 saleRequest (.accepted saleFigures)) := by decide +kernel

/-- R70 and 4.8.1: the restart price is min(1,000, 520 + 40) = 560. -/
theorem test_pause_expiry :
    let t := afterAll [.saleCommitComplete, .pauseExpiry 0] deciding
    (t.clock 0).state = .running ∧ (t.clock 0).startPrice = some 560 ∧ (t.clock 0).run = 7 ∧ (t.clock 0).k = 0 ∧
    t.timebase = 5800000 := by decide +kernel

/-- 2.8.1: the second trolley's passage; the train of two is ARRIVED and the gap timer stops. -/
theorem test_gate_passage :
    let t := afterAll [.gateQualifiedChange 0, .gateQualifiedChange 0] hallOpen
    (t.lane 0).trains.map Train.state = [.arrived] ∧ (t.lane 0).gapEnds = none ∧
    (t.lot 4211).map Lot.state = some .ready ∧ reported t = [.trainArrived 0 45 2] := by decide +kernel

/-- 2.8.1: the SHORT report carries the tag of the trolley that did not come. -/
theorem test_gap_expiry :
    let t := after (.gapExpiry 0) hallOpen
    (t.lane 0).trains.map Train.state = [.short] ∧ (t.lot 4211).map Lot.state = some .missing ∧
    reported t = [.short 0 45 1 1 1 (some 502)] ∧ t.timebase = 25000000 := by decide +kernel

/-- R25: the fifth unlike sample in a row qualifies the change, and a like one starts the count again. -/
theorem test_gate_samples :
    let s := onLane 0 (fun l => { l with counter := 4 }) hallOpen
    ((after (.gateSample 0 true) s).lane 0).blocked = true ∧ ((after (.gateSample 0 true) hallOpen).lane 0).counter = 1 ∧
    ((after (.gateSample 0 false) s).lane 0).counter = 0 := by decide +kernel

/-- R92: a tick handed over while a poll is on its way waits until its wait has ended, and then goes before the next
poll. -/
theorem test_tick_sent :
    let s := after (.stepTimerExpiry 0) hallOpen
    let t := afterAll [.tickSent, .pollSent, .tickSent] s
    let u := after (.rowReplyGood { row := 1, batch := 0, events := [] }) t
    t.bus.ticks.length = 1 ∧ t.bus.ticksSent = 0 ∧ u.bus.activity = .sending ∧ (after .pollSent u).bus = u.bus ∧
    (after .tickSent u).bus.ticks = [] ∧ (after .tickSent u).bus.ticksSent = 1 ∧
    (after .tickSent u).bus.activity = .idle := by decide +kernel

/-- R102: a pulse that begins while the poll is on its way does not show in it, and shows in the next three. -/
theorem test_poll_built :
    let s := after .pollSent (pulseWin 0 hallOpen)
    (match s.bus.activity with
      | .awaiting p _ => p.lamps[0]? = some (false, false)
      | _ => False) ∧ (s.desk 0).win = { phase := .on, visits := 3, queued := 0 } := by
  refine ⟨?_, by decide +kernel⟩
  show _ = _
  decide +kernel

/-- R87: row 1's poll carries the number of its last batch, and row 2 is next. -/
theorem test_poll_sent :
    let t := after .pollSent hallOpen
    t.bus.nextRow = 1 ∧ busActivityName t.bus.activity = .awaiting ∧
    (match t.bus.activity with
      | .awaiting p e => p.ack = 5 ∧ p.lamps.length = 16 ∧ e = 5002000
      | _ => False) := by
  refine ⟨by decide +kernel, by decide +kernel, ?_⟩
  show _ ∧ _ ∧ _
  decide +kernel

/-- 5.10.1: the batch is taken, and the press admitted at the step the buyer saw. -/
theorem test_row_reply_good :
    let s := after (.stepTimerExpiry 0) hallOpen
    let t := after (.rowReplyGood { row := 1, batch := 6, events := [.press 1 1 6 120 1200 2] }) (after .pollSent s)
    (t.clock 0).state = .stopping ∧ (t.clock 0).k = 121 ∧
    (t.clock 0).collection = [{ desk := 0, packs := 2, offset := 1200, step := 120, arrival := 0 }] ∧
    (t.clock 0).windowEnds = some 5056000 ∧ (t.row 0).lastBatch = 6 := by decide +kernel

/-- 5.10.1: the same batch again is not taken, and its frame counts good. -/
theorem test_row_reply_repeated :
    let t := afterAll [.pollSent, .rowReplyGood { row := 1, batch := 5, events := [.press 1 1 6 120 1200 2] }] hallOpen
    (t.clock 0).state = .running ∧ (t.row 0).framesGood = 1 ∧ t.bus.activity = .idle := by decide +kernel

/-- 5.10.1: a reply with a bad check is counted bad and a miss; a tick handed over then is sent before the next poll, which
goes to the next row. -/
theorem test_row_reply_bad :
    let t := afterAll [.pollSent, .rowReplyBad] hallOpen
    let u := afterAll [.stepTimerExpiry 0, .pollSent, .tickSent, .pollSent] t
    (t.row 0).framesBad = 1 ∧ (t.row 0).misses = 1 ∧ t.bus.lineHeld = false ∧ t.bus.activity = .idle ∧
    u.bus.ticks = [] ∧ u.bus.ticksSent = 1 ∧ u.bus.nextRow = 2 ∧
    (match u.bus.activity with
      | .awaiting p _ => p.row = 1
      | _ => False) := by
  refine ⟨by decide +kernel, by decide +kernel, by decide +kernel, by decide +kernel, by decide +kernel,
    by decide +kernel, by decide +kernel, ?_⟩
  show _ = _
  decide +kernel

/-- R92: with nothing due the part's own step begins the poll; a tick handed over then waits behind it. -/
theorem test_poll_begins :
    let s := onLane 1 (fun l => { l with trains := [] }) hallQuiet
    let t := stepped s
    t.bus.poll = some { row := 0, ack := 5, lamps := List.replicate 16 (false, false) } ∧ t.timebase = 5000000 ∧
    (after (.stepTimerExpiry 0) t).bus.activity = .idle ∧ (after (.stepTimerExpiry 0) s).bus.activity = .sending := by
  decide +kernel

/-- R90: the eighth miss takes row 1 OFFLINE. -/
theorem test_row_reply_timeout :
    let s := hallOpen.setRow 0 { hallOpen.row 0 with misses := 7, missCount := 7 }
    let t := afterAll [.pollSent, .rowReplyTimeout false] s
    (t.row 0).online = false ∧ reported t = [.row 0 false 8] ∧ t.timebase = 5002000 ∧
    (pollOf t).row = 1 := by decide +kernel

/-- R89: with part of a reply on the line after the 2 ms nothing is sent until the line has fallen idle. -/
theorem test_line_idle :
    let s := afterAll [.stepTimerExpiry 0, .pollSent, .rowReplyTimeout true] hallOpen
    s.bus.lineHeld = true ∧
    (after .pollSent s).bus.activity = .idle ∧ (after .tickSent s).bus.ticksSent = 0 ∧
    (after .deskBusLineIdle s).bus.activity = .sending := by decide +kernel

/-- 9.8.1: frame 40 shows RUNNING, 520, dial 20. -/
theorem test_refresh_window :
    let t := after (.refreshWindow 0) (onBoard 0 (fun b => { b with snapshotChanged := true }) hallOpen)
    (t.board 0).windowAt = 5060000 ∧ (t.board 0).framesSent = 1 ∧
    (match (t.board 0).activity with
      | .sending (.display 40 p) => p.state = .running ∧ p.price = some 520 ∧ p.dial = some 20
      | _ => False) := by
  refine ⟨by decide +kernel, by decide +kernel, ?_⟩
  show _ ∧ _ ∧ _
  decide +kernel

/-- R174: the answer wait ends 10 ms after the transmission. -/
theorem test_board_transmit_end :
    let s := onBoard 0 (fun b => { b with activity := .sending (.probe 7) }) hallOpen
    ((after (.boardTransmitEnd 0) s).board 0).activity = .awaiting (.probe 7) 5010000 := by decide +kernel

/-- A board that awaits the answer to probe 64. -/
def probed : State :=
  onBoard 1 (fun b => { b with
    online := false, misses := 3, missCount := 4, frameNumber := 64, activity := .awaiting (.probe 64) 5010000 }) hallOpen

/-- 9.8.2: the answer to 64 brings board 2 back, and frame 65 goes out. -/
theorem test_board_answer_good :
    let t := after (.boardAnswerGood 1 64) probed
    (t.board 1).online = true ∧ reported t = [.board 1 true 4] ∧ (t.board 1).frameNumber = 65 ∧
    ((after (.boardAnswerGood 1 63) probed).board 1).badAnswers = 1 := by decide +kernel

/-- R174. -/
theorem test_board_answer_bad :
    let t := after (.boardAnswerBad 1) probed
    (t.board 1).badAnswers = 1 ∧ (t.board 1).activity = .awaiting (.probe 64) 5010000 := by decide +kernel

/-- 9.8.2: the third miss takes the board OFFLINE and holds the running clock. -/
theorem test_board_answer_timeout :
    let s := onBoard 0 (fun b => { b with misses := 2, missCount := 2, activity := .awaiting (.probe 62) 5010000 }) hallOpen
    let t := after (.boardAnswerTimeout 0) s
    (t.board 0).online = false ∧ (t.clock 0).state = .held ∧
    reported t = [.board 0 false 3, .clock 0 .held (.hold .board) (some 4210) 6 120] := by decide +kernel

/-- 10.6.1: the alarm fires as the calendar enters 17:30; the running clock goes on with its closing flag set, the idle
ones close. -/
theorem test_calendar_advance :
    let s := onHall (fun h => { h with
      calendar := { h.calendar with hour := 17, minute := 29, second := 59, hundredth := 99 }
      alarm := { hour := 17, hourOn := true, minute := 30, minuteOn := true } }) hallOpen
    let t := after .calendarAdvance s
    (t.clock 0).state = .running ∧ (t.clock 0).closing = true ∧ (t.clock 3).state = .closed ∧
    (reported t).length = 4 ∧ t.hall.nextAdvance = 5020000 := by decide +kernel

/-- R189 and R72: leaving SALE holds the running clock. -/
theorem test_key_qualified_change :
    let t := after (.keyQualifiedChange .setup) hallOpen
    t.hall.key = .setup ∧ (t.clock 0).state = .held ∧
    reported t = [.key .sale .setup hallOpen.hall.calendar, .clock 0 .held (.hold .key) (some 4210) 6 120] := by
  decide +kernel

/-- R189: the twentieth like sample qualifies; both contacts closed read LOCKED. -/
theorem test_key_samples :
    let s := onHall (fun h => { h with keyRaw := .setup, keyCounter := 19 }) hallOpen
    (after (.keySample false true) s).hall.key = .setup ∧ (after (.keySample false true) hallOpen).hall.keyCounter = 1 ∧
    (after (.keySample true true) s).hall.keyRaw = .locked ∧ (after (.keySample true true) s).hall.key = .sale := by
  decide +kernel

/-- R190 and R85: the fail stamps, stops the timers and silences the link; a request then does nothing. -/
theorem test_main_supply_fail :
    hallDark.hall.main = .failed ∧
    hallDark.hall.failStamp = some { stamp := hallOpen.hall.calendar, timeSet := true } ∧
    (hallDark.clock 0).stepTimer = .stopped ∧ hallDark.hlp.attention = false ∧
    after (.identify 9) hallDark = hallDark := by decide +kernel

/-- R190: 200 ms above threshold; a fall begins the qualification again. -/
theorem test_main_supply_thresholds :
    let t := after .mainSupplyAboveThreshold hallDark
    t.hall.mainReturns = some 5200000 ∧ (after .mainSupplyBelowThreshold t).hall.mainReturns = none ∧
    after .mainSupplyBelowThreshold hallOpen = hallDark ∧
    (stepped (onHall (fun h => { h with nextAdvance := 5210000 }) { t with timebase := 5200000 })).pending =
      [.mainSupplyReturn .ok] := by decide +kernel

/-- 10.6.1: the return gives a warm start with MAIN_FAIL as its first report. -/
theorem test_main_supply_return :
    let t := afterAll [.mainSupplyAboveThreshold, .mainSupplyReturn .ok] hallDark
    t.hall.main = .present ∧ t.hall.lastStart = .warmSupply ∧ t.hall.key = .locked ∧ (t.clock 0).state = .idle ∧
    reported t =
      [.mainFail (some { stamp := hallOpen.hall.calendar, timeSet := true }) hallOpen.hall.calendar true] := by decide +kernel

/-- 1.8.2: the four lots found ON_CLOCK. -/
theorem test_warm_start_sort :
    let l := fun (sold left least : Nat) => sortedState
      { rose 1 .onClock with packsOffered := sold + left, packsSold := sold, packsRemaining := left, minTake := least }
    l 10 0 1 = .soldOut ∧ l 5 1 2 = .done ∧ l 4 8 3 = .ready ∧ l 0 5 1 = .ready := by decide

/-- 10.6.2: with the retained store lost the start is cold; a reading of LOW is reported. -/
theorem test_power_on :
    let t := after (.powerOn .low) (onHall (fun h => { h with retainedValid := false }) hallOpen)
    t.hall.lastStart = .cold ∧ t.lots = [] ∧ t.hall.timeSet = false ∧ t.hall.retainedValid = true ∧
    reported t = [.backupLow .low] := by decide +kernel

/-- 10.6.2: LOW while the main supply is FAILED loses the retained store; while it is PRESENT it is reported. -/
theorem test_backup_change :
    (after (.backupChange .low) hallDark).hall.retainedValid = false ∧
    reported (after (.backupChange .low) hallOpen) = [.backupLow .low] ∧
    (after (.backupChange .low) hallOpen).hall.backupFlag = true := by decide +kernel

/-- 10.6.2's middle row: the cell's recovery gives the retained store nothing back. -/
theorem test_backup_recovers :
    (afterAll [.backupChange .low, .backupChange .ok] hallDark).hall.retainedValid = false := by decide +kernel

/-! ## Witnesses: a state and operands that meet the hypotheses of each statement -/

theorem witness_ReportsKeptByStep :
    let s : State := { hallOpen with pending := [.keyQualifiedChange .setup] }
    ReportsKept s ∧ ∃ t, step s = .next t :=
  ⟨⟨by decide +kernel, by decide +kernel, by decide +kernel, by decide +kernel⟩, _, rfl⟩

theorem witness_RepliesKeptByStep :
    let s : State := { hallOpen with pending := [.buyerRemove 9 515] }
    RepliesKept s ∧ ∃ t, step s = .next t :=
  ⟨⟨by decide +kernel, by decide +kernel⟩, _, rfl⟩

theorem witness_TicksAndCalendarKeptByStep :
    let s : State := { hallOpen with pending := [.stepTimerExpiry 0] }
    TicksKept s ∧ CalendarKept s ∧ CollectionsKept s ∧ ∃ t, step s = .next t :=
  ⟨by decide +kernel, by decide +kernel, by decide +kernel, _, rfl⟩

theorem witness_CreditKeptByStep :
    let s : State := { deciding with pending := [.saleCommitComplete] }
    CreditKept s ∧ ∃ t, step s = .next t := by
  have op : deciding.ledger.arbiter.inProgress = some (.commit 0 saleRequest (.accepted saleFigures)) := rfl
  refine ⟨⟨by decide +kernel, by decide +kernel, ?_, ?_, ?_⟩, _, rfl⟩
  · intro c r f h
    cases op.symm.trans h
    decide +kernel
  · intro tag n limit line h
    cases op.symm.trans h
  · intro tag a line h
    cases op.symm.trans h

/-- Lots, bindings and the journal are as their invariants say while clock 1's commit is in progress. -/
theorem deciding_lotsKept : LotsKept deciding :=
  ⟨by decide +kernel, by decide +kernel, by decide +kernel, by decide +kernel, by decide +kernel, by decide +kernel,
    by decide +kernel, by decide +kernel, by decide +kernel⟩

theorem witness_LotsKeptByStep :
    LotsKept { deciding with pending := [.takeLot 1] } ∧ ∃ t, step { deciding with pending := [.takeLot 1] } = .next t :=
  ⟨⟨deciding_lotsKept.1, deciding_lotsKept.2, deciding_lotsKept.3, deciding_lotsKept.4, deciding_lotsKept.5,
    deciding_lotsKept.6, deciding_lotsKept.7, deciding_lotsKept.8, deciding_lotsKept.9⟩, _, rfl⟩

theorem witness_BindingsKeptByStep :
    let s : State := { deciding with pending := [.deskRelease 9 1] }
    BindingsKept s ∧ ∃ t, step s = .next t := by
  refine ⟨⟨by decide +kernel, by decide +kernel, by decide +kernel, ?_⟩, _, rfl⟩
  intro tag a line h
  cases (show deciding.ledger.arbiter.inProgress = some (.commit 0 saleRequest (.accepted saleFigures)) from rfl).symm.trans h

theorem witness_JournalKeptByStep :
    let s : State := { deciding with pending := [.saleCommitComplete] }
    LotsKept s ∧ JournalKept s ∧ ∃ t, step s = .next t := by
  refine ⟨⟨deciding_lotsKept.1, deciding_lotsKept.2, deciding_lotsKept.3, deciding_lotsKept.4, deciding_lotsKept.5,
    deciding_lotsKept.6, deciding_lotsKept.7, deciding_lotsKept.8, deciding_lotsKept.9⟩,
    ⟨by decide +kernel, by decide +kernel, by decide +kernel, ?_, by decide +kernel⟩, _, rfl⟩
  intro c r a h
  cases (show deciding.ledger.arbiter.inProgress = some (.commit 0 saleRequest (.accepted saleFigures)) from rfl).symm.trans h
  decide +kernel

theorem witness_ColdStarts : (onHall (fun h => { h with retainedValid := false }) hallOpen).hall.retainedValid = false := by
  decide +kernel

/-- A store of so many lots. -/
def stored (n : Nat) : State := { hallOpen with lots := (List.range n).map fun i => rose (i + 1) .entered }

theorem witness_LotEntered :
    Ready hallOpen ∧ Ready (stored 1023) ∧ Ready (stored 1024) ∧ lotFault (roseFields 4215) = none ∧
    (roseFields 4215).quality = some .a1 ∧ (stored 1023).lot 4215 = none ∧ (stored 1023).lots.length < 1024 ∧
    lotFault { roseFields 4215 with priceStep := some 10000 } = some 12 ∧ lotFault (roseFields 4230) = none ∧
    (hallOpen.lot 4230).isSome ∧ (stored 1024).lot 4215 = none ∧ 1024 ≤ (stored 1024).lots.length := by decide +kernel

theorem witness_LotAmendedAndRemoved :
    Ready hallOpen ∧ hallOpen.lot 4211 = some (rose 4211 .queued) ∧ (rose 4211 .queued).packsSold = 0 ∧
    lotFault (assembled { noChange 4211 with reservePrice := some 999 } (rose 4211 .queued)) = none ∧
    lotFault (assembled { noChange 4211 with reservePrice := some 1000 } (rose 4211 .queued)) = some 11 ∧
    hallOpen.lot 4240 = some { rose 4240 .soldOut with packsSold := 10, packsRemaining := 0 } ∧
    hallOpen.lot (noChange 1).number = none := by decide +kernel

theorem witness_LotAmendedAndRemoved_remove :
    Ready hallOpen ∧ hallOpen.lot 4230 = some (rose 4230 .entered) ∧ hallOpen.lot 4220 = some (rose 4220 .ready) ∧
    hallOpen.lot 1 = none := by decide +kernel

theorem witness_QueriesAnswered :
    Ready hallOpen ∧ (hallOpen.lane 0).gapEnds = some 25000000 ∧ (hallOpen.lane 3).gapEnds = none ∧
    hallOpen.lot 4220 = some (rose 4220 .ready) ∧
    nextKey Lot.number 4240 hallOpen.lots = some (rose 4250 .queued) ∧ hallOpen.lot 4251 = none ∧
    nextKey Lot.number 4250 hallOpen.lots = none ∧ clockNumbered 1 = some 0 ∧ clockNumbered 4 = some 3 ∧
    laneTrainFault 3 47 = none ∧ clockNumbered 3 = some 2 ∧
    ((hallOpen.lane 2).trains.find? fun t => t.number = 47) =
      some { number := 47, state := .announced, trolleys := [trolley 521 false [4250]] } ∧
    laneTrainFault 3 9999 = none ∧ ((hallOpen.lane 2).trains.find? fun t => t.number = 9999) = none ∧
    deskNumbered 480 = some 479 ∧ rowNumbered 30 = some 29 ∧ hallOpen.buyer 2317 = some buyer2317 ∧
    nextKey Buyer.number 2317 hallOpen.ledger.buyers = none ∧
    nextKey Buyer.number 880 hallOpen.ledger.buyers = some buyer2317 ∧ hallOpen.buyer 1 = none ∧
    hallOpen.invoice 1202 = some closedBill ∧ hallOpen.invoice 999999 = none ∧
    inRangeOpt 1 9999 (some 515) = true := by decide +kernel

/-- An announcement of one trolley for lane 4. -/
def oneTrolley (train : Nat) (lots : List Nat) : TrainAnnouncement :=
  { lane := 4, train := train, trolleys := [{ tag := 601, lots := lots }] }

/-- The hall with so many trains on lane 4. -/
def queued (n : Nat) : State :=
  onLane 3 (fun l => { l with
    trains := (List.range n).map fun i => { number := i + 1, state := .announced, trolleys := [] } }) hallOpen

theorem witness_TrainAnnounced :
    Ready hallOpen ∧ Ready (queued 7) ∧ Ready (queued 8) ∧ clockNumbered (oneTrolley 50 [4230]).lane = some 3 ∧
    announceFault (oneTrolley 50 [4230, 4230]) = some 7 ∧ announceFault (oneTrolley 50 [4230]) = none ∧
    announceFault (oneTrolley 7 [4230]) = none ∧
    (((queued 7).lane 3).trains.any fun t => t.number = 7) = true ∧
    (((queued 8).lane 3).trains.any fun t => t.number = 50) = false ∧ 8 ≤ ((queued 8).lane 3).trains.length ∧
    (((queued 7).lane 3).trains.any fun t => t.number = 50) = false ∧ ((queued 7).lane 3).trains.length < 8 ∧
    announceFault (oneTrolley 50 [1]) = none ∧ announceLotFault (queued 7) [1] = some (.notFound, 1) ∧
    announceLotFault (queued 7) ((oneTrolley 50 [4230]).trolleys.flatMap TrolleyEntry.lots) = none := by decide +kernel

theorem witness_TrainAnnounced_queued :
    announceFault (oneTrolley 50 [4230]) = none ∧ (oneTrolley 50 [4230]).trolleys[0]? = some { tag := 601, lots := [4230] } ∧
    ([4230] : List Nat)[0]? = some 4230 ∧ hallOpen.lot 4230 = some (rose 4230 .entered) ∧
    4220 ∉ (oneTrolley 50 [4230]).trolleys.flatMap TrolleyEntry.lots := by decide +kernel

theorem witness_TrainCancelledAndLaneSet :
    Ready hallOpen ∧ clockNumbered 3 = some 2 ∧ clockNumbered 1 = some 0 ∧ laneTrainFault 3 47 = none ∧
    ((hallOpen.lane 2).trains.find? fun t => t.number = 47) =
      some { number := 47, state := .announced, trolleys := [trolley 521 false [4250]] } ∧
    laneTrainFault 1 45 = none ∧
    ((hallOpen.lane 0).trains.find? fun t => t.number = 45) =
      some { number := 45, state := .arriving, trolleys := [trolley 501 true [4210], trolley 502 false [4211]] } ∧
    laneTrainFault 3 9999 = none ∧ ((hallOpen.lane 2).trains.find? fun t => t.number = 9999) = none := by decide +kernel

/-- A hall whose first gate is BLOCKED with passage open. -/
def gateBlocked : State := onLane 0 (fun l => { l with blocked := true, passageOpen := true }) hallOpen

theorem witness_GateAndPassages :
    hallOpen.hall.main = .present ∧ (hallOpen.lane 0).blocked = false ∧ (hallOpen.lane 0).counter + 1 < (hallOpen.lane 0).count ∧
    (let s := onLane 0 (fun l => { l with counter := 4 }) hallOpen;
      s.hall.main = .present ∧ (s.lane 0).blocked = false ∧ (s.lane 0).count ≤ (s.lane 0).counter + 1) ∧
    (let s := onLane 1 (fun l => { l with blocked := true, passageOpen := true }) hallOpen;
      s.hall.main = .present ∧ (s.lane 1).blocked = true ∧ (s.lane 1).passageOpen = true ∧
        countingTrain (s.lane 1).trains = none) := by decide +kernel

theorem witness_GateAndPassages_counted :
    gateBlocked.hall.main = .present ∧ (gateBlocked.lane 0).blocked = true ∧ (gateBlocked.lane 0).passageOpen = true ∧
    countingTrain (gateBlocked.lane 0).trains =
      some { number := 45, state := .arriving, trolleys := [trolley 501 true [4210], trolley 502 false [4211]] } ∧
    some 4211 ∈ firstUncounted [trolley 501 true [4210], trolley 502 false [4211]] ∧
    some 4210 ∉ firstUncounted [trolley 501 true [4210], trolley 502 false [4211]] := by decide +kernel

theorem witness_GapExpires :
    hallOpen.hall.main = .present ∧ (hallOpen.lane 0).gapEnds = some 25000000 ∧
    ((hallOpen.lane 0).trains.find? fun t => t.state = .arriving) =
      some { number := 45, state := .arriving, trolleys := [trolley 501 true [4210], trolley 502 false [4211]] } ∧
    hallOpen.lot 4211 = some (rose 4211 .queued) ∧ hallOpen.hlp.enables.supply = true ∧
    hallOpen.hlp.reports.length < 64 ∧
    (let s := onLane 0 (fun l => { l with
        trains := [{ number := 45, state := .arriving, trolleys := [trolley 501 true [4240], trolley 502 false [4211]] },
          { number := 48, state := .announced, trolleys := [trolley 503 false [4250]] }] }) hallOpen;
      s.hall.main = .present ∧ (s.lane 0).gapEnds = some 25000000 ∧
        ((s.lane 0).trains.find? fun t => t.state = .arriving) =
          some { number := 45, state := .arriving, trolleys := [trolley 501 true [4240], trolley 502 false [4211]] } ∧
        s.hlp.enables.supply = true ∧ ((after (.gapExpiry 0) s).lane 0).trains.map Train.number = [48]) := by
  decide +kernel

theorem witness_ClockSetStored :
    Ready hallOpen ∧ Ready hallSetup ∧ clockNumbered (noSettings 4).clock = some 3 ∧ hallOpen.hall.key ≠ .setup ∧
    hallSetup.hall.key = .setup ∧ clockSetFault { noSettings 4 with pause := some 5001 } = some 9 ∧
    clockSetFault { noSettings 4 with pause := some 5000 } = none ∧ (hallSetup.clock 3).state = .idle ∧
    (let s := onHall (fun h => { h with key := .setup }) hallOpen;
      Ready s ∧ s.hall.key = .setup ∧ clockNumbered (noSettings 1).clock = some 0 ∧ clockSetFault (noSettings 1) = none ∧
        (s.clock 0).state ≠ .idle ∧ (s.clock 0).state ≠ .closed) := by decide +kernel

theorem witness_ClockHoldHolds :
    Ready hallOpen ∧ clockNumbered 1 = some 0 ∧ (hallOpen.clock 0).state = .running ∧
    Ready (clock1In .sold) ∧ ((clock1In .sold).clock 0).state = .sold ∧
    Ready (clock1In (.loaded .restart)) ∧ ((clock1In (.loaded .restart)).clock 0).state = .loaded .restart ∧
    clockNumbered 2 = some 1 ∧ (hallOpen.clock 1).state = .idle := by decide +kernel

/-- Clock 1 HELD while a SALE-VOID of its line is in progress. -/
def voiding : State := busyWith (.host 9 (.saleVoid 440) (some 0) .go) (clock1In .held)

theorem witness_ClockResumeRuns :
    clockNumbered 1 = some 0 ∧
    (let s := clock1In .held;
      Ready s ∧ (s.clock 0).state = .held ∧ voidRuns s 0 = false ∧ s.hall.key = .sale ∧ (s.board 0).online = true ∧
        s.hall.timeSet = true ∧ pendingOf 0 s.bus.ticks < 4) ∧
    (let s := onHall (fun h => { h with timeSet := false }) (clock1In .held);
      Ready s ∧ (s.clock 0).state = .held ∧ voidRuns s 0 = false ∧ s.hall.key = .sale ∧ (s.board 0).online = true ∧
        s.hall.timeSet = false) ∧
    (let s := onHall (fun h => { h with key := .locked }) (clock1In .held);
      Ready s ∧ (s.clock 0).state = .held ∧ voidRuns s 0 = false ∧ s.hall.key ≠ .sale) ∧
    Ready voiding ∧ (voiding.clock 0).state = .held ∧ voidRuns voiding 0 = true ∧
    Ready hallOpen ∧ (hallOpen.clock 0).state ≠ .held := by decide +kernel

/-- Lot 4,210 as it stands in the hall. -/
def lot4210 : Lot := { rose 4210 .onClock with packsSold := 3, packsRemaining := 7 }

theorem witness_ClockWithdrawEnds :
    clockNumbered 1 = some 0 ∧
    (let s := clock1In .held;
      Ready s ∧ (s.clock 0).state = .held ∧ voidRuns s 0 = false ∧ (s.clock 0).lot = some lot4210.number ∧
        s.lot lot4210.number = some lot4210 ∧ (s.clock 0).startPrice = some 1000 ∧ (s.clock 0).reservation = true) ∧
    (let s := onClock 0 (fun c => { c with reservation := false }) (clock1In .sold);
      Ready s ∧ (s.clock 0).state = .sold ∧ (s.clock 0).lot = some lot4210.number ∧
        s.lot lot4210.number = some lot4210 ∧ (s.clock 0).startPrice = some 1000) ∧
    Ready (clock1In .stopping) ∧ ((clock1In .stopping).clock 0).state = .stopping ∧
    Ready voiding ∧ (voiding.clock 0).state = .held ∧ voidRuns voiding 0 = true ∧
    Ready hallSetup ∧ (hallSetup.clock 0).state = .idle := by decide +kernel

/-- The hall a hundredth before a time of day, with clock 2 in LOADED NEW and the alarm given. -/
def closingAt (hour minute : Nat) (alarm : Alarm) : State :=
  onHall (fun h => { h with
    calendar := { h.calendar with hour := hour, minute := minute, second := 59, hundredth := 99 }, alarm := alarm })
    (after (.takeLot 1) hallOpen)

/-- The first hundredth of an hour and minute of the hall's day. -/
def startOf (hour minute : Nat) : Stamp :=
  { year := 2031, month := 3, day := 14, hour := hour, minute := minute, second := 0, hundredth := 0 }

theorem carries_to_17_30 (a : Alarm) : CarriesTo (closingAt 17 29 a).hall.calendar (startOf 17 30) :=
  ⟨rfl, rfl, .inl ⟨by show 29 < 59; decide, rfl⟩⟩

theorem carries_to_17_00 (a : Alarm) : CarriesTo (closingAt 16 59 a).hall.calendar (startOf 17 0) :=
  ⟨rfl, rfl, .inr (.inl ⟨rfl, by show 16 < 23; decide, rfl⟩)⟩

/-- A new day: from 14 to 15 March. -/
theorem carries_to_midnight (a : Alarm) :
    CarriesTo (closingAt 23 59 a).hall.calendar { startOf 0 0 with day := 15 } :=
  ⟨rfl, rfl, .inr (.inr ⟨31, rfl, rfl, rfl, .inl ⟨by show 14 < 31; decide, rfl⟩⟩)⟩

theorem witness_TradingClosedAndReopened :
    clockNumbered 1 = some 0 ∧ Ready (clock1In .closed) ∧ ((clock1In .closed).clock 0).state = .closed ∧
    Ready hallOpen ∧ (hallOpen.clock 0).state ≠ .closed ∧
    (let s := closingAt 17 29 { hour := 17, hourOn := true, minute := 30, minuteOn := true };
      s.hall.main = .present ∧ s.hall.timeSet = true ∧ s.hlp.enables.hall = true ∧ s.hlp.reports.length < 64 ∧
        (s.clock 0).state = .running ∧ (s.clock 1).state = .loaded .new ∧ (s.clock 1).lot = some 4220 ∧
        s.lot 4220 = some (rose 4220 .onClock) ∧ (s.clock 2).state = .idle) := by decide +kernel

theorem witness_TradingClosedAndReopened_alarm :
    AlarmMeets { hour := 17, hourOn := true, minute := 30, minuteOn := true } (startOf 17 30) ∧
    AlarmMeets { hour := 17, hourOn := true, minute := 30, minuteOn := false } (startOf 17 0) ∧
    AlarmMeets { hour := 9, hourOn := false, minute := 0, minuteOn := true } { startOf 0 0 with day := 15 } ∧
    AlarmMeets { hour := 0, hourOn := true, minute := 0, minuteOn := true } { startOf 0 0 with day := 15 } :=
  ⟨.inl ⟨rfl, rfl, rfl⟩, .inl ⟨rfl, rfl, rfl⟩, .inr ⟨rfl, rfl, rfl⟩, .inl ⟨rfl, rfl, rfl⟩⟩

theorem witness_ClockZeroIsAllFour :
    Ready hallOpen ∧ clockNumbered 4 = some 3 ∧ clockSetFault (noSettings 0) = none ∧ (noSettings 0).clock = 0 ∧
    Ready hallSetup ∧ hallSetup.hall.key = .setup ∧
    laneSetFault { lane := 0, count := some 15, gapTime := some 60 } = none := by decide +kernel

theorem witness_LotTaken :
    hallOpen.hall.main = .present ∧ candidate hallOpen 1 = some (rose 4220 .ready) ∧ (hallOpen.clock 1).state = .idle ∧
    (hallOpen.clock 1).closing = false ∧ hallOpen.hlp.link = .linked := by decide +kernel

/-- Clock 2 in LOADED NEW with its preview running. -/
def previewing : State := after (.takeLot 1) hallOpen

/-- A journal with no place free. -/
def fullJournal (s : State) : State :=
  s.setJournal { s.ledger.journal with lastWritten := s.ledger.journal.lastReleased + 8192 }

theorem witness_PreviewEnds :
    previewing.hall.main = .present ∧ (previewing.clock 1).state = .loaded .new ∧
    (previewing.clock 1).previewEnds = some 6500000 ∧ previewing.hall.key = .sale ∧ (previewing.board 1).online = true ∧
    previewing.hall.timeSet = true ∧ previewing.hlp.link = .linked ∧ dayCloseRuns previewing = false ∧
    grantable previewing = true ∧ pendingOf 1 previewing.bus.ticks < 4 ∧
    (let s := fullJournal previewing;
      s.hall.main = .present ∧ (s.clock 1).state = .loaded .new ∧ (s.clock 1).previewEnds = some 6500000 ∧
        s.hall.key = .sale ∧ (s.board 1).online = true ∧ s.hall.timeSet = true ∧ s.hlp.link = .linked ∧
        dayCloseRuns s = false ∧ grantable s = false) ∧
    (let s := onHall (fun h => { h with key := .setup }) previewing;
      s.hall.main = .present ∧ (s.clock 1).state = .loaded .new ∧ (s.clock 1).previewEnds = some 6500000 ∧
        s.hall.key ≠ .sale) := by decide +kernel

theorem witness_StepAdvancesOrWithdraws :
    let s := onClock 0 (fun c => { c with k := 146 }) hallOpen
    s.hall.main = .present ∧ (s.clock 0).state = .running ∧ (s.clock 0).stepTimer = .running 5050000 ∧
    s.currentLot 0 = some lot4210 ∧ (s.clock 0).startPrice = some 1000 ∧
    lot4210.reservePrice + ((s.clock 0).k + 1) * stepSizeOf lot4210 (s.clock 0).params ≤ 1000 ∧
    pendingOf 0 s.bus.ticks < 4 := by decide +kernel

theorem witness_StepAdvancesOrWithdraws_reserve :
    let s := onClock 0 (fun c => { c with k := 147 }) hallOpen
    s.hall.main = .present ∧ (s.clock 0).state = .running ∧ (s.clock 0).stepTimer = .running 5050000 ∧
    (s.clock 0).reservation = true ∧ (s.clock 0).lot = some lot4210.number ∧ s.lot lot4210.number = some lot4210 ∧
    (s.clock 0).startPrice = some 1000 ∧
    1000 < lot4210.reservePrice + ((s.clock 0).k + 1) * stepSizeOf lot4210 (s.clock 0).params ∧
    s.ledger.journal.lastReleased ≤ s.ledger.journal.lastWritten := by decide +kernel

/-- Clock 1 in STOPPING with one press. -/
def stopping : State :=
  onClock 0 (fun c => { c with
    state := .stopping, stepTimer := .halted 40000, windowEnds := some 5006000, collection := [press 0 3100 120 0] }) hallOpen

theorem witness_WindowEndsInDeciding :
    stopping.hall.main = .present ∧ (stopping.clock 0).state = .stopping ∧ (stopping.clock 0).windowEnds = some 5006000 ∧
    (stopping.clock 0).collection = [press 0 3100 120 0] ∧ (stopping.clock 0).lot = some 4210 ∧
    stopping.ledger.arbiter.inProgress = none ∧ NothingWaits stopping ∧ stopping.hlp.resetting = none ∧
    (let s := busyWith (.host 9 .dayClose none .go) stopping;
      s.hall.main = .present ∧ (s.clock 0).state = .stopping ∧ (s.clock 0).windowEnds = some 5006000 ∧
        s.ledger.arbiter.inProgress = some (.host 9 .dayClose none .go)) := by decide +kernel

/-- Clock 1 in SOLD at 520, its pause running. -/
def sold : State :=
  onClock 0 (fun c => { c with
    state := .sold, stepTimer := .halted 40000, pauseEnds := some 5800000, lastSalePrice := some 520,
    reservation := false }) hallOpen

theorem witness_PauseEndsInRestart :
    sold.hall.main = .present ∧ (sold.clock 0).state = .sold ∧ (sold.clock 0).pauseEnds = some 5800000 ∧
    sold.currentLot 0 = some lot4210 ∧ (sold.clock 0).lastSalePrice = some 520 ∧ dayCloseRuns sold = false ∧
    grantable sold = true ∧ (sold.clock 0).holdPending = none ∧ sold.hall.key = .sale ∧ (sold.board 0).online = true ∧
    sold.hall.timeSet = true ∧ pendingOf 0 sold.bus.ticks < 4 ∧
    (let s := onClock 0 (fun c => { c with holdPending := some .key }) sold;
      s.hall.main = .present ∧ (s.clock 0).state = .sold ∧ (s.clock 0).pauseEnds = some 5800000 ∧
        s.currentLot 0 = some lot4210 ∧ (s.clock 0).lastSalePrice = some 520 ∧ dayCloseRuns s = false ∧
        grantable s = true ∧ (s.clock 0).holdPending = some .key) ∧
    (let s := fullJournal sold;
      s.hall.main = .present ∧ (s.clock 0).state = .sold ∧ (s.clock 0).pauseEnds = some 5800000 ∧
        s.currentLot 0 = some lot4210 ∧ (s.clock 0).lastSalePrice = some 520 ∧ dayCloseRuns s = false ∧
        grantable s = false) := by decide +kernel

theorem witness_PressAgeAndOrder : 3 ≤ 3 ∧ 255 ≤ 258 ∧ 258 - 255 ≤ 3 ∧ pressStep 258 (255 % 256) 3 = some 255 := by
  decide

theorem witness_CommitFitsCredit_quantity :
    affordable (debitOf 520 50 85) 68900 2 3 = some 2 ∧ affordable (debitOf 520 50 85) 52441 2 3 = none := by decide

theorem witness_CommitFitsCredit : judgeCommit deciding 0 saleRequest = .accepted saleFigures := by decide +kernel

/-- Desk 1 bound to an account that is as given. -/
def boundTo (f : Buyer → Buyer) : State :=
  { deciding with ledger := { deciding.ledger with buyers := [f buyer2317] } }

/-- A buyer as check 4 finds it, and 4,096 invoices held. -/
def invoicesFull : State :=
  let s := boundTo fun b => { b with openInvoice := none }
  { s with ledger := { s.ledger with invoices := (List.range 4096).map fun i => { closedBill with number := i + 1 } } }

/-- A state for each check of R138 that refuses, in their order; 3 packs at 520 of which 2 fit, and none (3.8.3). -/
theorem witness_CommitFitsCredit_refusals :
    (deciding.desk 1).binding.bind deciding.buyer = none ∧
    (let f := fun (b : Buyer) => { b with flags := { b.flags with blocked := true } };
      ((boundTo f).desk 0).binding.bind (boundTo f).buyer = some (f buyer2317) ∧ (f buyer2317).flags.blocked = true) ∧
    (let f := fun (b : Buyer) => { b with flags := { b.flags with permit := b.flags.permit.set 0 false } };
      ((boundTo f).desk 0).binding.bind (boundTo f).buyer = some (f buyer2317) ∧
        (f buyer2317).flags.blocked = false ∧ (f buyer2317).flags.permit.get 0 = false) ∧
    ((invoicesFull.desk 0).binding.bind invoicesFull.buyer = some { buyer2317 with openInvoice := none } ∧
      4096 ≤ invoicesFull.ledger.invoices.length) ∧
    (let f := fun (b : Buyer) => { b with limit := b.committed + 52442 };
      ((boundTo f).desk 0).binding.bind (boundTo f).buyer = some (f buyer2317) ∧
        (f buyer2317).flags.permit.get 0 = true ∧ (f buyer2317).openInvoice ≠ none ∧
        (boundTo f).lot 4210 = some lot4210 ∧ ((boundTo f).clock 0).startPrice = some 1000 ∧
        debitOf 520 50 85 2 ≤ (f buyer2317).limit - (f buyer2317).committed) ∧
    (let f := fun (b : Buyer) => { b with limit := b.committed + 52441 };
      ((boundTo f).desk 0).binding.bind (boundTo f).buyer = some (f buyer2317) ∧
        (f buyer2317).flags.permit.get 0 = true ∧
        ∀ n, 2 ≤ n → n ≤ 3 → (f buyer2317).limit - (f buyer2317).committed < debitOf 520 50 85 n) := by
  refine ⟨by decide +kernel, by decide +kernel, by decide +kernel, by decide +kernel, by decide +kernel,
    by decide +kernel, by decide +kernel, ?_⟩
  intro n two three
  obtain rfl | rfl : n = 2 ∨ n = 3 := by omega
  all_goals decide +kernel

/-- R138: the checks are made in their order, and 2 of 3 packs are sold where 3 do not fit (3.8.3). -/
theorem test_commit_judged_in_order :
    judgeCommit (boundTo fun b => { b with flags := { blocked := true, permit := Vector.replicate 4 false } }) 0
      saleRequest = .refused .blocked ∧
    judgeCommit (boundTo fun b => { b with limit := b.committed + 68900 }) 0 saleRequest = .accepted
      { saleFigures with packs := 2, amount := 52000, levy := 442, debit := 52442 } := by decide +kernel

theorem witness_PressAgeAndOrder_order :
    [press 0 1000 12 0, press 1 1000 12 1, press 2 500 13 2].Pairwise
      (fun a b => a.step < b.step ∨ (a.step = b.step ∧ a.offset ≤ b.offset)) := by decide

theorem witness_DeskReleased :
    Ready hallOpen ∧ deskNumbered 1 = some 0 ∧ (hallOpen.desk 0).binding = some 2317 ∧ deskNumbered 480 = some 479 ∧
    (hallOpen.desk 479).binding = none := by decide +kernel

theorem witness_BusTransmissions :
    hallOpen.hall.main = .present ∧ hallOpen.bus.lineHeld = false ∧ hallOpen.bus.activity = .idle ∧
    hallOpen.bus.poll = some (pollOf hallOpen) ∧
    (let s := onBus (fun b => { b with activity := .sending, ticks := [{ clock := 0, run := 6, tag := 120 }] }) hallOpen;
      s.hall.main = .present ∧ s.bus.lineHeld = false ∧ s.bus.ticks = [{ clock := 0, run := 6, tag := 120 }] ∧
        s.bus.activity = .sending) ∧
    (let s := onLane 1 (fun l => { l with trains := [] }) hallQuiet;
      s.hall.main = .present ∧ s.bus.activity = .idle ∧ s.bus.lineHeld = false ∧ s.bus.ticks = [] ∧
        s.bus.poll = none ∧ s.pending = [] ∧ dueCommands s = []) ∧
    (let s := onBus (fun b => { b with poll := none, lineHeld := true }) hallOpen;
      s.hall.main = .present ∧ s.bus.poll = none ∧ s.bus.lineHeld = true) := by decide +kernel

/-- The hall with row 1 polled. -/
def polled : State := after .pollSent hallOpen

theorem witness_RepliesCounted :
    polled.hall.main = .present ∧ polled.bus.activity = .awaiting (pollOf hallOpen) 5002000 ∧
    goodReply (pollOf hallOpen) { row := 1, batch := 0, events := [] } = true ∧
    goodReply (pollOf hallOpen) { row := 1, batch := 5, events := [.signOff 16] } = true ∧
    goodReply (pollOf hallOpen) { row := 1, batch := 6, events := [.signOff 17] } = false ∧
    (polled.row (pollOf hallOpen).row).lastBatch = 5 := by decide +kernel

/-- A new batch of several events: a desk taken over by another buyer; a press and its buyer's sign-off; two presses. -/
def severalEvents (l : List DeskEvent) : RowReply := { row := 1, batch := 6, events := l }

theorem witness_RepliesCounted_several :
    polled.hall.main = .present ∧ polled.bus.activity = .awaiting (pollOf hallOpen) 5002000 ∧
    6 ≠ (polled.row (pollOf hallOpen).row).lastBatch ∧ polled.bus.nextArrival < 4294967296 ∧
    goodReply (pollOf hallOpen)
      (severalEvents [.signOff (numberOf (0 : DeskId)), .signOn (numberOf (0 : DeskId)) 515]) = true ∧
    polled.buyer 515 = some (buyer 515 1 70000) ∧ (buyer 515 1 70000).flags.blocked = false ∧
    (polled.clock 0).state = .running ∧ (polled.clock 0).stepTimer = .running 5050000 ∧
    (polled.clock 0).params.window ≠ 0 ∧ (polled.clock 0).run = 6 ∧
    pressStep (polled.clock 0).k 118 (polled.clock 0).params.ageLimit = some 118 ∧
    pressStep (polled.clock 0).k 120 (polled.clock 0).params.ageLimit = some 120 ∧
    goodReply (pollOf hallOpen)
      (severalEvents [.press (numberOf (0 : DeskId)) (numberOf (0 : ClockId)) 6 118 1200 2,
        .signOff (numberOf (0 : DeskId))]) = true ∧
    goodReply (pollOf hallOpen)
      (severalEvents [.press (numberOf (0 : DeskId)) (numberOf (0 : ClockId)) 6 120 1200 2,
        .press (numberOf (15 : DeskId)) (numberOf (0 : ClockId)) 6 118 900 4]) = true := by decide +kernel

/-- R93 and R48: the events are taken in order, and the second press, a step earlier, stands first by its key. -/
theorem test_several_events :
    let t := after (.rowReplyGood (severalEvents [.press 1 1 6 120 1200 2, .press 16 1 6 118 900 4, .signOff 1])) polled
    (t.clock 0).collection.map (fun q => (q.desk, q.arrival)) = [(15, 1), (0, 0)] ∧ (t.desk 0).binding = none ∧
    t.bus.nextArrival = 2 ∧ (t.row 0).lastBatch = 6 ∧ (t.row 0).framesGood = 1 := by decide +kernel

theorem witness_FirstPressStops :
    polled.hall.main = .present ∧ polled.bus.activity = .awaiting (pollOf hallOpen) 5002000 ∧
    (polled.clock 0).state = .running ∧ (polled.clock 0).stepTimer = .running 5050000 ∧
    (polled.clock 0).params.window ≠ 0 ∧
    pressStep (polled.clock 0).k 118 (polled.clock 0).params.ageLimit = some 118 ∧
    goodReply (pollOf hallOpen)
      { row := numberOf (pollOf hallOpen).row, batch := 6,
        events := [.press (numberOf (0 : DeskId)) (numberOf (0 : ClockId)) (polled.clock 0).run 118 1200 2] } = true ∧
    6 ≠ (polled.row (pollOf hallOpen).row).lastBatch := by decide +kernel

/-- A press of desk 1 on clock 1 at a step tag, in a batch of its own. -/
def pressReply (run tag : Nat) : RowReply :=
  { row := numberOf (pollOf hallOpen).row, batch := 6,
    events := [.press (numberOf (0 : DeskId)) (numberOf (0 : ClockId)) run tag 1200 2] }

/-- Row 1 polled, with clock 1 in STOPPING and a collection. -/
def gathering (l : List Press) : State :=
  onClock 0 (fun c => { c with state := .stopping, stepTimer := .halted 40000, collection := l }) polled

/-- Sixteen presses of other desks at a step. -/
def sixteen (step : Nat) : List Press := (List.range 16).map fun i => press (Fin.ofNat 480 (385 + i)) (1000 * (i + 1)) step i

theorem witness_PressesJudged :
    goodReply (pollOf hallOpen) (pressReply 6 120) = true ∧ goodReply (pollOf hallOpen) (pressReply 7 120) = true ∧
    6 ≠ (polled.row (pollOf hallOpen).row).lastBatch ∧
    (let s := onClock 0 (fun c => { c with params := { c.params with window := 0 } }) polled;
      s.hall.main = .present ∧ s.bus.activity = .awaiting (pollOf hallOpen) 5002000 ∧ (s.clock 0).state = .running ∧
        (s.clock 0).stepTimer = .running 5050000 ∧ (s.clock 0).params.window = 0 ∧ (s.clock 0).run = 6 ∧
        pressStep (s.clock 0).k 120 (s.clock 0).params.ageLimit = some 120 ∧ (s.clock 0).lot = some 4210 ∧
        s.ledger.arbiter.inProgress = none ∧ NothingWaits s ∧ s.hlp.resetting = none) ∧
    (let s := onClock 0 (fun c => { c with state := .deciding }) polled;
      s.hall.main = .present ∧ s.bus.activity = .awaiting (pollOf hallOpen) 5002000 ∧ (s.clock 0).state ≠ .running ∧
        (s.clock 0).state ≠ .stopping) ∧
    7 ≠ (polled.clock 0).run ∧ pressStep (polled.clock 0).k 117 (polled.clock 0).params.ageLimit = none ∧
    ((gathering []).clock 0).state = .stopping ∧ (gathering []).bus.activity = .awaiting (pollOf hallOpen) 5002000 ∧
    (∃ q ∈ ((gathering [press 0 900 120 0]).clock 0).collection, q.desk = 0) ∧
    (∀ q ∈ ((gathering (sixteen 120)).clock 0).collection, q.desk ≠ 0) ∧
    ((gathering (sixteen 120)).clock 0).collection = (sixteen 120).take 15 ++ [press 400 16000 120 15] ∧
    16 ≤ ((gathering (sixteen 120)).clock 0).collection.length ∧
    ((gathering (sixteen 119)).clock 0).collection = (sixteen 119).take 15 ++ [press 400 16000 119 15] ∧
    ¬ (120 < 119 ∨ (120 = 119 ∧ 1200 < 16000)) := by decide +kernel

/-- R112 and R111 on such a reply: window 0 offers the press at once, and a press too old is refused LATE without a lamp. -/
theorem test_press_outcomes :
    let s := after (.rowReplyGood (pressReply 6 120))
      (onClock 0 (fun c => { c with params := { c.params with window := 0 } }) polled)
    let t := after (.rowReplyGood (pressReply 6 117)) polled
    (s.clock 0).state = .deciding ∧ s.ledger.arbiter.inProgress.isSome ∧ (t.row 0).pressesLate = 1 ∧
    (t.desk 0).lastRefusal = some { reason := .late, clock := some 0, lot := some 4210 } ∧
    (t.desk 0).refused = .dark := by decide +kernel

/-- The good reply of row 1 that holds one event. -/
def oneEvent (e : DeskEvent) : RowReply := { row := 1, batch := 6, events := [e] }

theorem witness_SignOnBinds :
    polled.hall.main = .present ∧ polled.bus.activity = .awaiting (pollOf hallOpen) 5002000 ∧
    6 ≠ (polled.row (pollOf hallOpen).row).lastBatch ∧ numberOf (pollOf hallOpen).row = 1 ∧
    goodReply (pollOf hallOpen) (oneEvent (.signOn (numberOf (1 : DeskId)) 515)) = true ∧
    goodReply (pollOf hallOpen) (oneEvent (.signOn (numberOf (0 : DeskId)) 515)) = true ∧
    goodReply (pollOf hallOpen) (oneEvent (.signOn (numberOf (0 : DeskId)) 2317)) = true ∧
    goodReply (pollOf hallOpen) (oneEvent (.signOn (numberOf (0 : DeskId)) 9999)) = true ∧
    goodReply (pollOf hallOpen) (oneEvent (.signOn (numberOf (1 : DeskId)) 880)) = true ∧
    goodReply (pollOf hallOpen) (oneEvent (.signOff (numberOf (0 : DeskId)))) = true ∧
    polled.buyer 515 = some (buyer 515 1 70000) ∧ (polled.desk 1).binding = none ∧
    (buyer 515 1 70000).flags.blocked = false ∧ (polled.desk 0).binding = some 2317 ∧
    polled.buyer 2317 = some buyer2317 ∧ buyer2317.flags.blocked = false ∧ polled.buyer 9999 = none ∧
    (polled.buyer 880).map (fun a => a.flags.blocked) = some true := by decide +kernel

/-- Eight requests wait at the arbiter behind one in progress. -/
def crowded (n : Nat) : State :=
  let s := busyWith (.host 9 .dayClose none .go) hallOpen
  s.setArbiter { s.ledger.arbiter with requests := List.replicate n (9, .buyerRemove 880) }

theorem witness_LedgerRequestArrives :
    Ready hallOpen ∧ ledgerKeyRefused hallOpen.hall.key (.tariffSet 7 2000) = true ∧
    ledgerKeyRefused hallOpen.hall.key (.buyerRemove 10000) = false ∧ ledgerFault (.buyerRemove 10000) = some 1 ∧
    ledgerKeyRefused hallOpen.hall.key (.buyerRemove 9999) = false ∧ ledgerFault (.buyerRemove 9999) = none ∧
    hallOpen.ledger.arbiter.inProgress = none ∧ NothingWaits hallOpen ∧
    Ready (crowded 7) ∧ (crowded 7).ledger.arbiter.inProgress = some (.host 9 .dayClose none .go) ∧
    (crowded 7).ledger.arbiter.requests.length < 8 ∧
    ledgerKeyRefused (crowded 7).hall.key (.buyerRemove 9999) = false ∧
    Ready (crowded 8) ∧ 8 ≤ (crowded 8).ledger.arbiter.requests.length ∧
    ledgerKeyRefused (crowded 8).hall.key (.buyerRemove 9999) = false := by decide +kernel

/-- What each completion statement asks of the state besides its operation. -/
abbrev MayComplete (s : State) : Prop := s.hall.main = .present ∧ NothingWaits s ∧ s.hlp.resetting = none

/-- The hall with a host ledger request in progress. -/
def serving (r : LedgerRequest) (v : Service) : State := busyWith (.host 9 r none v) hallOpen

/-- A state and a request for each check. -/
theorem witness_RequestsJudged :
    (hallOpen.buyer 515).isSome ∧ hallOpen.buyer 601 = none ∧ hallOpen.ledger.buyers.length < 2048 ∧
    hallOpen.buyer 2317 = some buyer2317 ∧ 131104 < buyer2317.committed ∧ buyer2317.openInvoice = some 1201 ∧
    (∃ i ∈ hallOpen.ledger.invoices, i.buyer = 515 ∧ i.state = .closed) ∧
    hallOpen.buyer 515 = some (buyer 515 1 70000) ∧ (buyer 515 1 70000).openInvoice = none ∧
    (hallOpen.buyer 880).map Buyer.boundDesks = some 0 ∧ (∀ i ∈ hallOpen.ledger.invoices, i.buyer ≠ 880) ∧
    hallOpen.invoice 1 = none ∧ hallOpen.invoice 1201 = some openBill ∧ openBill.state = .opened ∧
    hallOpen.invoice 1202 = some closedBill ∧ closedBill.state = .closed ∧
    (∀ c, (hallSetup.clock c).state = .idle ∨ (hallSetup.clock c).state = .closed) ∧
    (hallOpen.clock 0).state = .running ∧ hallOpen.line 1 = none ∧ hallOpen.line 440 = some saleLine ∧
    (hallOpen.clock saleLine.clock).state ≠ .held ∧
    (let s := clock1In .held;
      s.line 440 = some saleLine ∧ saleLine.kind = .sale ∧ saleLine.voided = false ∧ (s.clock 0).state = .held ∧
        (s.clock 0).lot = some saleLine.lot ∧ s.ledger.journal.lotMark.get 0 = some 440 ∧
        saleLine.invoice = some 1201 ∧ s.invoice 1201 = some openBill ∧ openBill.firstLine ≤ saleLine.sequence) ∧
    judgeRequest (clock1In .held) (.saleVoid 440) = .go ∧
    judgeRequest (fullJournal (clock1In .held)) (.saleVoid 440) = .refuse .journalFull .empty := by decide +kernel

theorem witness_AccountOperationsComplete :
    let enter : LedgerRequest := .buyerEnter { number := 601, name := none, feeClass := 7, limit := 0 }
    let fl : BuyerFlags := { blocked := true, permit := Vector.replicate 4 true }
    let flags : LedgerRequest := .buyerFlags { number := 2317, action := some .toggle, flags := fl }
    MayComplete (serving enter .go) ∧ (serving enter .go).ledger.arbiter.inProgress = some (.host 9 enter none .go) ∧
    MayComplete (serving flags .go) ∧ (serving flags .go).ledger.arbiter.inProgress = some (.host 9 flags none .go) ∧
    (serving flags .go).buyer 2317 = some buyer2317 ∧
    MayComplete (serving (.buyerLimit 2317 131105) .go) ∧
    (serving (.buyerLimit 2317 131105) .go).ledger.arbiter.inProgress =
      some (.host 9 (.buyerLimit 2317 131105) none .go) ∧
    MayComplete (serving (.buyerRemove 515) .go) ∧
    (serving (.buyerRemove 515) .go).ledger.arbiter.inProgress = some (.host 9 (.buyerRemove 515) none .go) ∧
    (serving (.buyerRemove 515) .go).buyer 515 = some (buyer 515 1 70000) ∧ (buyer 515 1 70000).boundDesks = 0 ∧
    MayComplete (serving (.tariffSet 7 2000) .go) ∧
    (serving (.tariffSet 7 2000) .go).ledger.arbiter.inProgress = some (.host 9 (.tariffSet 7 2000) none .go) ∧
    MayComplete (serving (.paymentPost 1) (.refuse .notFound .empty)) ∧
    (serving (.paymentPost 1) (.refuse .notFound .empty)).ledger.arbiter.inProgress =
      some (.host 9 (.paymentPost 1) none (.refuse .notFound .empty)) := by decide +kernel

/-- A BUYER-REMOVE whose account has had a desk bound since its service (R131), and a DAY-CLOSE and a SALE-VOID that were
judged refused at theirs. -/
theorem witness_AccountOperationsComplete_refused :
    MayComplete (serving (.buyerRemove 2317) .go) ∧
    (serving (.buyerRemove 2317) .go).ledger.arbiter.inProgress = some (.host 9 (.buyerRemove 2317) none .go) ∧
    (serving (.buyerRemove 2317) .go).buyer 2317 = some buyer2317 ∧ buyer2317.boundDesks ≠ 0 ∧
    (let s := serving .dayClose (.refuse .state (.clockAtFault 0));
      MayComplete s ∧ s.ledger.journal.deferred = [] ∧
        s.ledger.arbiter.inProgress = some (.host 9 .dayClose none (.refuse .state (.clockAtFault 0)))) ∧
    (let s := serving (.saleVoid 440) (.refuse .state .empty);
      MayComplete s ∧
        s.ledger.arbiter.inProgress = some (.host 9 (.saleVoid 440) none (.refuse .state .empty))) := by decide +kernel

theorem witness_InvoiceOperationsComplete :
    MayComplete (serving (.paymentPost 1202) .go) ∧
    (serving (.paymentPost 1202) .go).ledger.arbiter.inProgress = some (.host 9 (.paymentPost 1202) none .go) ∧
    (serving (.paymentPost 1202) .go).invoice 1202 = some closedBill ∧ closedBill.total = some 100 ∧
    (serving (.paymentPost 1202) .go).buyer closedBill.buyer = some (buyer 515 1 70000) ∧
    MayComplete (serving (.invoiceClose (.invoice 1201)) .go) ∧
    (serving (.invoiceClose (.invoice 1201)) .go).ledger.arbiter.inProgress =
      some (.host 9 (.invoiceClose (.invoice 1201)) none .go) ∧
    (serving (.invoiceClose (.invoice 1201)) .go).invoice 1201 = some openBill ∧ openBill.state = .opened ∧
    (serving (.invoiceClose (.invoice 1201)) .go).buyer openBill.buyer = some buyer2317 ∧
    buyer2317.openInvoice = some 1201 ∧
    (serving (.invoiceClose (.buyer 2317)) .go).ledger.arbiter.inProgress =
      some (.host 9 (.invoiceClose (.buyer 2317)) none .go) ∧
    MayComplete (serving .dayClose .go) ∧
    (serving .dayClose .go).ledger.arbiter.inProgress = some (.host 9 .dayClose none .go) ∧
    (serving .dayClose .go).ledger.journal.deferred = [] ∧
    (serving .dayClose .go).ledger.invoices.Pairwise (fun i j => i.number ≠ j.number) := by decide +kernel

/-- Clocks 2 and 3 LOADED and deferred behind a DAY-CLOSE. -/
def deferredTwo : State :=
  let wait := fun (x : Clock) => { x with state := .loaded .new, previewEnds := none, reservation := false }
  let s := busyWith (.host 9 .dayClose none .go) (onClock 1 wait (onClock 2 wait hallOpen))
  s.setJournal { s.ledger.journal with deferred := [2, 1] }

theorem witness_DayCloseDefers :
    (let s := busyWith (.host 9 .dayClose none .go) previewing;
      s.hall.main = .present ∧ s.ledger.arbiter.inProgress = some (.host 9 .dayClose none .go) ∧
        (s.clock 1).state = .loaded .new ∧ (s.clock 1).previewEnds = some 6500000 ∧ s.hall.key = .sale ∧
        (s.board 1).online = true ∧ s.hall.timeSet = true ∧ s.hlp.link = .linked) ∧
    (let s := busyWith (.host 9 .dayClose none .go) sold;
      s.hall.main = .present ∧ (s.clock 0).state = .sold ∧ (s.clock 0).pauseEnds = some 5800000 ∧
        s.currentLot 0 = some lot4210 ∧ (s.clock 0).lastSalePrice = some 520) ∧
    MayComplete deferredTwo ∧ deferredTwo.ledger.arbiter.inProgress = some (.host 9 .dayClose none .go) ∧
    deferredTwo.ledger.journal.deferred = [2, 1] ∧ deferredTwo.hall.key = .sale ∧ deferredTwo.hall.timeSet = true ∧
    deferredTwo.hlp.link = .linked ∧
    (∀ x : ClockId, (x = 2 ∨ x = 1) → (deferredTwo.board x).online = true ∧
      (deferredTwo.clock x).reservation = false ∧ (deferredTwo.clock x).state = .loaded .new ∧
      (deferredTwo.clock x).previewEnds = none) ∧
    deferredTwo.ledger.journal.lastWritten + reservationsHeld deferredTwo + 1 < 4294967295 ∧
    deferredTwo.ledger.journal.lastWritten - deferredTwo.ledger.journal.lastReleased +
      reservationsHeld deferredTwo < 8191 ∧
    (let s := deferredTwo.setJournal { deferredTwo.ledger.journal with
        lastWritten := deferredTwo.ledger.journal.lastReleased + 8190 };
      s.ledger.journal.lastWritten - s.ledger.journal.lastReleased + reservationsHeld s = 8191) := by decide +kernel

/-- R152: with one place free the clock that asked first is granted and the other has its reservation asked. -/
theorem test_deferred_order :
    let t := after .ledgerOperationComplete (deferredTwo.setJournal { deferredTwo.ledger.journal with
      lastWritten := deferredTwo.ledger.journal.lastReleased + 8190 })
    (t.clock 2).state = .running ∧ (t.clock 1).state = .loaded .new ∧ (t.clock 1).asked = true ∧
    t.ledger.journal.deferred = [] := by decide +kernel

/-- An invoice before its first line, with the sequence that line will have. -/
def newBill (number buyer first : Nat) : Invoice :=
  { number := number, buyer := buyer, state := .opened, lineCount := 0, firstLine := first, lastLine := first,
    goods := 0, levies := 0, debits := 0, residue := none, total := none }

/-- The commit of `deciding` with other figures, and two more presses behind its own. -/
def selling (f : SaleFigures) : State :=
  busyWith (.commit 0 saleRequest (.accepted f)) (onClock 0 (fun c => { c with
    collection := [press 0 3100 120 0, press 1 3200 120 1, press 20 3300 120 2] }) deciding)

/-- What SaleCommitAccepted asks of a state and of the account and the lot it finds. -/
abbrev SellsTo (s : State) (f : SaleFigures) (b : Buyer) : Prop :=
  MayComplete s ∧ s.ledger.arbiter.inProgress = some (.commit 0 saleRequest (.accepted f)) ∧
  s.lot saleRequest.lot = some lot4210 ∧ s.buyer f.buyer = some b

/-- A sale on the open invoice; one that opens the next invoice, and one for which that number is held and skipped; one
that ends the lot. -/
theorem witness_SaleCommitAccepted :
    (SellsTo (selling saleFigures) saleFigures buyer2317 ∧ SaleInvoice (selling saleFigures) buyer2317 1201 openBill ∧
      lot4210.minTake ≤ lot4210.packsRemaining - saleFigures.packs ∧
      (∀ x, ((selling saleFigures).row x).pressesRefused ≤ 65535) ∧
      (selling saleFigures).hlp.enables.sales = true ∧ (selling saleFigures).hlp.reports.length < 64) ∧
    (let f : SaleFigures := { saleFigures with buyer := 515 };
      SellsTo (selling f) f (buyer 515 1 70000) ∧
        SaleInvoice (selling f) (buyer 515 1 70000) 1203 (newBill 1203 515 441) ∧
      (let s := { selling f with ledger := { (selling f).ledger with nextInvoice := 1201 } };
        SellsTo s f (buyer 515 1 70000) ∧ SaleInvoice s (buyer 515 1 70000) 1203 (newBill 1203 515 441))) ∧
    (let f : SaleFigures := { saleFigures with packs := 6 };
      SellsTo (selling f) f buyer2317 ∧ SaleInvoice (selling f) buyer2317 1201 openBill ∧
        lot4210.packsRemaining - f.packs < lot4210.minTake ∧ ((selling f).clock 0).lot = some saleRequest.lot) := by
  refine ⟨⟨by decide +kernel, .inl (by decide +kernel), by decide +kernel⟩,
    ⟨by decide +kernel, .inr ⟨by decide +kernel, by decide +kernel, ⟨0, by decide +kernel⟩, by decide +kernel⟩,
      by decide +kernel, .inr ⟨by decide +kernel, by decide +kernel, ⟨2, by decide +kernel⟩, by decide +kernel⟩⟩,
    by decide +kernel, .inl (by decide +kernel), by decide +kernel⟩

/-- R118, R139 and R160: the other presses are answered OUTBID without a lamp, and a new invoice takes the first number
that is not held. -/
theorem test_sale_outbids_and_numbers :
    let s := selling { saleFigures with buyer := 515 }
    let t := after .saleCommitComplete { s with ledger := { s.ledger with nextInvoice := 1201 } }
    (t.desk 1).lastRefusal = some { reason := .outbid, clock := some 0, lot := some 4210 } ∧
    (t.desk 1).refused = .dark ∧ (t.row 0).pressesRefused = 1 ∧ (t.row 1).pressesRefused = 1 ∧
    (t.invoice 1203).map Invoice.firstLine = some 441 ∧ t.ledger.nextInvoice = 1204 := by decide +kernel

/-- The same commit refused, with so many more presses behind it. -/
def refusing (more : List Press) : State :=
  busyWith (.commit 0 saleRequest (.refused .blocked))
    (onClock 0 (fun c => { c with collection := press 0 3100 120 0 :: more }) deciding)

theorem witness_SaleCommitRefused :
    MayComplete (refusing []) ∧
    (refusing []).ledger.arbiter.inProgress = some (.commit 0 saleRequest (.refused .blocked)) ∧
    ((refusing []).clock 0).collection = [press 0 3100 120 0] ∧ ((refusing []).clock 0).holdPending = none ∧
    MayComplete (refusing [press 1 3200 120 1]) ∧
    (refusing [press 1 3200 120 1]).ledger.arbiter.inProgress = some (.commit 0 saleRequest (.refused .blocked)) ∧
    ((refusing [press 1 3200 120 1]).clock 0).collection = [press 0 3100 120 0, press 1 3200 120 1] ∧
    ((refusing [press 1 3200 120 1]).clock 0).lot = some 4210 ∧
    (let s := onClock 0 (fun c => { c with holdPending := some .key }) (refusing []);
      MayComplete s ∧ s.ledger.arbiter.inProgress = some (.commit 0 saleRequest (.refused .blocked)) ∧
        (s.clock 0).collection = [press 0 3100 120 0] ∧ (s.clock 0).holdPending = some .key) := by decide +kernel

theorem witness_SaleVoidGivesBack :
    MayComplete voiding ∧ voiding.ledger.arbiter.inProgress = some (.host 9 (.saleVoid 440) (some 0) .go) ∧
    voiding.line 440 = some saleLine ∧ grantable voiding = true ∧ saleLine.buyer = some 2317 ∧
    saleLine.invoice = some 1201 ∧ voiding.lot saleLine.lot = some lot4210 ∧ voiding.buyer 2317 = some buyer2317 ∧
    voiding.invoice 1201 = some openBill ∧ 440 ≤ voiding.ledger.journal.lastWritten ∧
    MayComplete (fullJournal voiding) ∧ (fullJournal voiding).line 440 = some saleLine ∧
    grantable (fullJournal voiding) = false ∧
    (fullJournal voiding).ledger.arbiter.inProgress = some (.host 9 (.saleVoid 440) (some 0) .go) ∧
    MayComplete (serving (.saleVoid 1) .go) ∧
    (serving (.saleVoid 1) .go).ledger.arbiter.inProgress = some (.host 9 (.saleVoid 1) none .go) ∧
    (serving (.saleVoid 1) .go).line 1 = none := by decide +kernel

/-- A commit of a clock's head press, as one waits. -/
def waitingFor (lot desk : Nat) : CommitRequest := { lot := lot, desk := Fin.ofNat 480 desk, packs := 1, step := 12 }

/-- 7.9.1 at the completion of clock 3's first commit: clocks 1 and 4 wait, clock 3 has a second candidate, H2 waits and
the clock last served is 3. -/
def arbiterBusy : State :=
  let s := onClock 2 (fun c => { c with
    state := .deciding, lot := some 4230, startPrice := some 1000
    collection := [press 64 100 12 0, press 65 200 12 1] }) hallOpen
  s.setArbiter {
    inProgress := some (.commit 2 (waitingFor 4230 64) (.refused .blocked))
    commits := #v[some (waitingFor 4210 1), none, none, some (waitingFor 4240 96)]
    requests := [(10, .paymentPost 1202)], lastServed := 2 }

/-- The same arbiter with no commit waiting. -/
def requestWaits : State :=
  arbiterBusy.setArbiter { arbiterBusy.ledger.arbiter with commits := Vector.replicate 4 none }

theorem witness_ArbiterChooses :
    let op : Operation := .commit 2 (waitingFor 4230 64) (.refused .blocked)
    arbiterBusy.hall.main = .present ∧ arbiterBusy.hlp.resetting = none ∧
    arbiterBusy.ledger.arbiter.inProgress = some op ∧ arbiterBusy.ledger.arbiter.commits.get 2 = none ∧
    (3 : ClockId) = arbiterBusy.ledger.arbiter.lastServed + 1 + 0 ∧
    arbiterBusy.ledger.arbiter.commits.get 3 = some (waitingFor 4240 96) ∧ (∀ j : ClockId, ¬ j < 0) ∧
    (arbiterBusy.clock 2).collection = [press 64 100 12 0, press 65 200 12 1] ∧ (arbiterBusy.clock 2).lot = some 4230 ∧
    requestWaits.hall.main = .present ∧ requestWaits.hlp.resetting = none ∧
    requestWaits.ledger.arbiter.inProgress = some op ∧ (∀ d, requestWaits.ledger.arbiter.commits.get d = none) ∧
    requestWaits.ledger.arbiter.requests = [(10, .paymentPost 1202)] := by decide +kernel

/-- 7.9.1: clock 4 is served before clock 1, and clock 3's next candidate joins after the choice. -/
theorem test_arbiter_order :
    let t := after .saleCommitComplete arbiterBusy
    t.ledger.arbiter.lastServed = 3 ∧ t.ledger.arbiter.commits.get 0 = some (waitingFor 4210 1) ∧
    t.ledger.arbiter.commits.get 2 = some (waitingFor 4230 65) ∧ t.ledger.arbiter.commits.get 3 = none ∧
    t.ledger.arbiter.requests = [(10, .paymentPost 1202)] := by decide +kernel

theorem witness_OperationCompletesBeforeStart :
    let op : Operation := .commit 0 saleRequest (.accepted saleFigures)
    (let s := after .mainSupplyAboveThreshold (after .mainSupplyFail deciding);
      s.hall.main = .failed ∧ s.ledger.arbiter.inProgress = some op ∧ s.hall.mainReturns = some 5200000) ∧
    Ready deciding ∧ deciding.ledger.arbiter.inProgress = some op ∧
    (let s := after (.controllerReset 3) deciding;
      s.hall.main = .present ∧ s.hlp.resetting = some (.waiting 3) ∧ s.ledger.arbiter.inProgress = some op) ∧
    (let s := after (.controllerReset 3) (serving (.buyerRemove 880) .go);
      s.hall.main = .present ∧ s.hlp.resetting = some (.waiting 3) ∧
        s.ledger.arbiter.inProgress = some (.host 9 (.buyerRemove 880) none .go)) := by decide +kernel

/-- R145 and R202: the sale in progress at a fail is there at the start; the reset answers behind the request in progress. -/
theorem test_operation_before_start :
    let t := after (.mainSupplyReturn .ok) (after .mainSupplyAboveThreshold (after .mainSupplyFail deciding))
    let u := afterAll [.controllerReset 3, .ledgerOperationComplete] (serving (.buyerRemove 880) .go)
    t.ledger.journal.lastWritten = 441 ∧ (t.lot 4210).map Lot.packsSold = some 6 ∧
    (t.lot 4210).map Lot.state = some .ready ∧ u.hlp.replies.map Reply.kind = [149, 169] := by decide +kernel

theorem witness_JournalReadAndReleased :
    Ready hallOpen ∧ journalReadFault 440 8 = none ∧ hallOpen.ledger.journal.lastReleased < 440 ∧
    journalReadFault 439 1 = none ∧ 439 ≤ hallOpen.ledger.journal.lastReleased ∧
    journalReadFault 440 9 = some 2 ∧ hallOpen.ledger.journal.lastWritten < 441 ∧
    (439 : Nat) ≠ 0 ∧ 439 ≤ hallOpen.ledger.journal.lastWritten ∧
    440 ≤ hallOpen.ledger.journal.lastWritten ∧
    (∀ c, (hallOpen.clock c).state ≠ .loaded .new ∧ (hallOpen.clock c).state ≠ .loaded .restart) := by decide +kernel

/-- Clock 2 LOADED with its reservation asked of a journal that is full. -/
def starved (x : ClockState) (s : State) : State :=
  fullJournal (onClock 1 (fun c => { c with state := x, previewEnds := none, reservation := false, asked := true }) s)

/-- What the rise asks of the state and of clock 2. -/
abbrev RiseReaches (s : State) : Prop :=
  Ready s ∧ 441 ≤ s.ledger.journal.lastWritten ∧ s.ledger.journal.lastReleased < 441 ∧ (s.clock 1).asked = true ∧
  (s.clock 1).reservation = false ∧
  (∀ d, d ≠ 1 → (s.clock d).state ≠ .loaded .new ∧ (s.clock d).state ≠ .loaded .restart) ∧ dayCloseRuns s = false ∧
  s.ledger.journal.lastWritten - 441 + reservationsHeld s < 8192 ∧
  s.ledger.journal.lastWritten + reservationsHeld s < 4294967295

/-- A LOADED clock of each kind that runs at the rise. -/
theorem witness_JournalReadAndReleased_runs :
    (let s := starved (.loaded .new) previewing;
      RiseReaches s ∧ (s.clock 1).state = .loaded .new ∧ (s.clock 1).previewEnds = none ∧ s.hall.key = .sale ∧
        (s.board 1).online = true ∧ s.hall.timeSet = true) ∧
    (let s := starved (.loaded .restart) previewing;
      RiseReaches s ∧ (s.clock 1).state = .loaded .restart ∧ (s.clock 1).holdPending = none ∧ s.hall.key = .sale ∧
        (s.board 1).online = true ∧ s.hall.timeSet = true) := by
  constructor <;> decide +kernel

/-- One of each kind that does not, for the key. -/
theorem witness_JournalReadAndReleased_waits :
    (let s := starved (.loaded .new) (onHall (fun h => { h with key := .setup }) previewing);
      RiseReaches s ∧ (s.clock 1).state = .loaded .new ∧ s.hall.key ≠ .sale) ∧
    (let s := starved (.loaded .restart) (onHall (fun h => { h with key := .setup }) previewing);
      RiseReaches s ∧ (s.clock 1).state = .loaded .restart ∧ (s.clock 1).holdPending = none ∧
        s.hall.key ≠ .sale) := by
  constructor <;> decide +kernel

/-- R147 and R64: the rise lets the asked clock run, with the reply's free space from before its grant. -/
theorem test_rise_runs_clock :
    let s := starved (.loaded .new) previewing
    let t := after (.journalRelease 9 441) s
    (t.clock 1).state = .running ∧ (t.clock 1).reservation = true ∧ (t.clock 1).asked = false ∧
    answer t = some (158, .ok, .linesFreed 2 441 1) := by decide +kernel

theorem witness_BoardWindowsAndAnswers :
    clockNumbered 4 = some 3 ∧ Ready hallOpen ∧
    (let s := onBoard 0 (fun b => { b with snapshotChanged := true }) hallOpen;
      s.hall.main = .present ∧ (s.board 0).online = true ∧ (s.board 0).activity = .idle ∧
        (s.board 0).snapshotChanged = true) ∧
    (let s := onBoard 0 (fun b => { b with windowAt := 5980000 }) hallOpen;
      s.hall.main = .present ∧ (s.board 0).online = true ∧ (s.board 0).snapshotChanged = false ∧
        (s.board 0).builtAt + 1000000 ≤ max s.timebase (s.board 0).windowAt) ∧
    max hallOpen.timebase (hallOpen.board 0).windowAt < (hallOpen.board 0).builtAt + 1000000 ∧
    (let s := onBoard 0 (fun b => { b with online := false }) hallOpen;
      s.hall.main = .present ∧ (s.board 0).online = false ∧ (s.board 0).activity = .idle) ∧
    (let s := onBoard 0 (fun b => { b with snapshotChanged := true, activity := .sending (.probe 1) }) hallOpen;
      s.hall.main = .present ∧ (s.board 0).online = true ∧ (s.board 0).activity ≠ .idle ∧
        (s.board 0).snapshotChanged = true) := by decide +kernel

theorem witness_BoardWindowsAndAnswers_answers :
    (let s := onBoard 0 (fun b => { b with activity := .sending (.probe 1) }) hallOpen;
      s.hall.main = .present ∧ (s.board 0).activity = .sending (.probe 1)) ∧
    (let s := onBoard 0 (fun b => { b with activity := .awaiting (.probe 255) 5010000, misses := 1 }) hallOpen;
      s.hall.main = .present ∧ (s.board 0).activity = .awaiting (.probe 255) 5010000 ∧ (s.board 0).online = true ∧
        (s.board 0).updatePending = false ∧ 0 ≠ (BoardFrame.probe 255).number ∧ (s.board 0).misses < 2) ∧
    (let s := onBoard 0 (fun b => { b with
        activity := .awaiting (.probe 255) 5010000, frameNumber := 255, misses := 1, updatePending := true }) hallOpen;
      s.hall.main = .present ∧ (s.board 0).activity = .awaiting (.probe 255) 5010000 ∧ (s.board 0).online = true ∧
        (s.board 0).updatePending = true ∧ (s.board 0).misses < 2) := by decide +kernel

theorem witness_BoardLostAndFound :
    (let s := onBoard 0 (fun b => { b with activity := .awaiting (.probe 62) 5010000, misses := 2 }) hallOpen;
      s.hall.main = .present ∧ (s.board 0).activity = .awaiting (.probe 62) 5010000 ∧ (s.board 0).online = true ∧
        (s.board 0).misses = 2 ∧ (s.clock 0).state = .running) ∧
    (let s := onClock 1 (fun c => { c with state := .held }) probed;
      s.hall.main = .present ∧ (s.board 1).activity = .awaiting (.probe 64) 5010000 ∧ (s.board 1).online = false ∧
        (s.clock 1).state = .held) := by decide +kernel

/-- Clock 2 LOADED while its board awaits the answer that brings it back. -/
def loadedDark (x : ClockState) : State :=
  onClock 1 (fun c => { c with state := x, previewEnds := none, reservation := x = .loaded .restart })
    (onBoard 1 (fun _ => probed.board 1) previewing)

/-- A LOADED clock of each kind that runs at its board's return, and one of each that does not. -/
theorem witness_BoardLostAndFound_loaded :
    let s := loadedDark (.loaded .new)
    let r := loadedDark (.loaded .restart)
    (s.hall.main = .present ∧ (s.board 1).activity = .awaiting (.probe 64) 5010000 ∧ (s.board 1).online = false ∧
      (s.clock 1).state = .loaded .new ∧ (s.clock 1).previewEnds = none ∧ s.hall.key = .sale ∧ s.hall.timeSet = true ∧
      s.hlp.link = .linked ∧ dayCloseRuns s = false ∧ grantable s = true) ∧
    (r.hall.main = .present ∧ (r.board 1).activity = .awaiting (.probe 64) 5010000 ∧ (r.board 1).online = false ∧
      (r.clock 1).state = .loaded .restart ∧ (r.clock 1).reservation = true ∧ (r.clock 1).holdPending = none ∧
      r.hall.key = .sale ∧ r.hall.timeSet = true) ∧
    (let s := onLink (fun h => { h with link := .hostLost }) s;
      (s.board 1).activity = .awaiting (.probe 64) 5010000 ∧ (s.clock 1).state = .loaded .new ∧ s.hlp.link ≠ .linked) ∧
    (let r := onHall (fun h => { h with timeSet := false }) r;
      (r.board 1).activity = .awaiting (.probe 64) 5010000 ∧ (r.clock 1).state = .loaded .restart ∧
        (r.clock 1).holdPending = none ∧ r.hall.timeSet = false) := by decide +kernel

/-- A valid time of day. -/
def hallTime : Stamp := { year := 2099, month := 12, day := 31, hour := 23, minute := 59, second := 59, hundredth := 99 }

theorem witness_HallTimeSet :
    Ready hallOpen ∧ hallOpen.hall.key ≠ .setup ∧ Ready hallSetup ∧ hallSetup.hall.key = .setup ∧
    timeFault hallTime = none ∧ (∀ c, (hallSetup.clock c).state = .idle) ∧
    timeFault { hallTime with day := 32 } = some 3 := by decide +kernel

/-- The calendar of a hall at a date, a hundredth before midnight. -/
def lastOf (year month day : Nat) : Stamp := { hallTime with year := year, month := month, day := day }

theorem witness_CalendarAdvances :
    hallOpen.hall.calendar.hundredth < 99 ∧
    (let s := onHall (fun h => { h with calendar := lastOf 2096 2 28, timeSet := false }) hallOpen;
      s.hall.timeSet = false ∧ s.hall.calendar.year % 4 = 0 ∧ s.hall.calendar.day < 29) ∧
    (let s := onHall (fun h => { h with calendar := lastOf 2098 12 31 }) hallDark;
      s.hall.main = .failed ∧ s.hall.calendar.day = 31 ∧ s.hall.calendar.month = 12 ∧ s.hall.calendar.year < 2099) ∧
    (let s := onHall (fun h => { h with calendar := hallTime }) hallOpen;
      s.hall.calendar = lastOf 2099 12 31 ∧ s.hall.main = .present ∧ s.hall.timeSet = true ∧
        (s.clock 0).state = .running ∧ (s.clock 1).state = .idle) ∧
    (onHall (fun h => { h with calendar := hallTime }) hallDark).hall.main = .failed := by decide +kernel

/-- An alarm enabled that the minute entered does not match, and the last day of February and of a year. -/
theorem witness_CalendarAdvances_carries :
    (let a : Alarm := { hour := 17, hourOn := true, minute := 31, minuteOn := true };
      CarriesTo (closingAt 17 29 a).hall.calendar (startOf 17 30) ∧ ¬ AlarmMeets a (startOf 17 30)) ∧
    CarriesTo (lastOf 2096 2 29) { startOf 0 0 with year := 2096, day := 1 } ∧
    CarriesTo (lastOf 2098 12 31) { startOf 0 0 with year := 2099, month := 1, day := 1 } := by
  refine ⟨⟨carries_to_17_30 _, by simp [AlarmMeets, startOf]⟩, ?_, ?_⟩ <;> simp [CarriesTo, lastOf, hallTime, startOf]

theorem witness_KeyQualified :
    hallOpen.hall.main = .present ∧ sampledKey true false = hallOpen.hall.key ∧
    sampledKey false true ≠ hallOpen.hall.key ∧ sampledKey false true ≠ hallOpen.hall.keyRaw ∧
    (let s := onHall (fun h => { h with keyRaw := .setup, keyCounter := 18 }) hallOpen;
      s.hall.main = .present ∧ sampledKey false true ≠ s.hall.key ∧ sampledKey false true = s.hall.keyRaw ∧
        s.hall.keyCounter < 19) ∧
    (let s := onHall (fun h => { h with keyRaw := .setup, keyCounter := 19 }) hallOpen;
      s.hall.main = .present ∧ sampledKey false true ≠ s.hall.key ∧ sampledKey false true = s.hall.keyRaw ∧
        s.hall.keyCounter = 19) ∧
    (let s := clock1In .stopping;
      s.hall.main = .present ∧ s.hall.key = .sale ∧ (s.clock 0).state = .stopping) ∧
    hallOpen.hall.key = .sale ∧ KeyPosition.setup ≠ .sale ∧ (hallOpen.clock 0).state = .running ∧
    (hallOpen.clock 1).state = .idle ∧ hallSetup.hall.key ≠ .sale ∧ KeyPosition.locked ≠ hallSetup.hall.key ∧
    (let s := onClock 1 (fun c => { c with previewEnds := none }) (onHall (fun h => { h with key := .locked }) previewing);
      s.hall.main = .present ∧ s.hall.key ≠ .sale ∧ (s.clock 1).state = .loaded .new ∧
        (s.clock 1).previewEnds = none ∧ (s.board 1).online = true ∧ s.hall.timeSet = true ∧ s.hlp.link = .linked ∧
        dayCloseRuns s = false ∧ grantable s = true ∧ (∀ d, d ≠ 1 → (s.clock d).state ≠ .loaded .new) ∧
        s.hlp.enables.equipment = true) ∧
    (let s := onClock 0 (fun c => { c with state := .loaded .restart })
        (onHall (fun h => { h with key := .locked }) hallOpen);
      s.hall.key ≠ .sale ∧ (s.clock 0).state = .loaded .restart ∧ (s.clock 0).reservation = true ∧
        (s.clock 0).holdPending = none ∧ (s.board 0).online = true) := by decide +kernel

theorem witness_SupplyEvents :
    hallOpen.hall.main = .present ∧ hallOpen.hall.backup = .ok ∧ hallDark.hall.main = .failed ∧
    hallDark.hall.mainReturns = none ∧ hallDark.hall.backup = .ok ∧
    (let s := after (.backupChange .low) hallDark; s.hall.main = .failed ∧ s.hall.backup = .low) ∧
    (let s := after (.backupChange .low) hallOpen; s.hall.main = .present ∧ s.hall.backup = .low) := by decide +kernel

theorem witness_WarmStarts :
    let s := after .mainSupplyAboveThreshold hallDark
    s.hall.main = .failed ∧ s.hall.mainReturns = some 5200000 ∧ s.hall.retainedValid = true ∧
    s.ledger.arbiter.inProgress = none ∧ s.lot 4210 = some lot4210 ∧
    (hallOpen.hall.retainedValid = true ∧ hallOpen.ledger.arbiter.inProgress = none ∧
      hallOpen.hall.main = .present) ∧
    (let s := onHall (fun h => { h with retainedValid := false }) (after .mainSupplyAboveThreshold hallDark);
      s.hall.main = .failed ∧ s.hall.mainReturns = some 5200000 ∧ s.hall.retainedValid = false) ∧
    (let s := after (.controllerReset 9) hallOpen;
      s.hall.main = .present ∧ s.hlp.replies.map Reply.after = [.warmStart] ∧ s.ledger.arbiter.inProgress = none) := by
  decide +kernel

theorem witness_LinkRequests :
    Ready hallOpen ∧ hallOpen.hall.key ≠ .setup ∧ Ready hallSetup ∧ hallSetup.hall.key = .setup ∧
    goodRate 115201 = false ∧ hallOpen.ledger.arbiter.inProgress = none := by decide +kernel

theorem witness_FramesReceived :
    hallOpen.hall.main = .present ∧ hallOpen.hlp.receiver = .hunting ∧
    readHostFrame [0xA5, 0, 0, 1, 9, 0, 0] = none ∧
    (let l : List LineByte := { value := 0xA5, stopError := true } :: clean identifyBytes.tail;
      l.map LineByte.value = writeHostFrame { kind := 1, tag := 9, body := [] } ∧ ∃ b ∈ l, b.stopError = true) ∧
    (let s := after .startByteReceived hallOpen;
      s.hall.main = .present ∧ s.hlp.receiver = .receiving [0xA5] false 5001000) ∧
    (let s := after (.startByteReceived (clean (identifyBytes.take 6))) hallOpen;
      s.hlp.receiver = .receiving (identifyBytes.take 6) false 5001000 ∧
        ∃ b, identifyBytes.take 6 ++ [b] = writeHostFrame { kind := 1, tag := 9, body := [] }) ∧
    (let s := onLink (fun h => { h with held := some (1, .identify) }) hallOpen;
      s.hall.main = .present ∧ s.hlp.held = some (1, .identify) ∧ s.hlp.link = .linked) ∧
    (let s := onLink (fun h => { h with replies := List.replicate 16 (plainReply 1 129 .ok .empty) }) hallOpen;
      s.hall.main = .present ∧ s.hlp.link = .linked ∧ s.hlp.held = none ∧ s.hlp.resetting = none ∧
        16 ≤ placesUsed s) := by decide +kernel

theorem witness_ReplySentAndHostLost :
    Ready hallOpen ∧
    (let s := onLink (fun h => { h with replies := [plainReply 1 129 .ok .empty] }) hallOpen;
      s.hall.main = .present ∧ s.hlp.held = none ∧ s.hlp.replies = [plainReply 1 129 .ok .empty] ∧
        (plainReply 1 129 .ok .empty).after = .nothing) ∧
    (let r : Reply := { plainReply 1 168 .ok .empty with after := .newRate 921600 };
      let s := onLink (fun h => { h with replies := [r] }) hallOpen;
      s.hall.main = .present ∧ s.hlp.held = none ∧ s.hlp.replies = [r] ∧ r.after = .newRate 921600) ∧
    (let s := onLink (fun h => { h with
        replies := List.replicate 16 (plainReply 1 129 .ok .empty), held := some (7, .hallTimeRead) }) hallOpen;
      s.hall.main = .present ∧ s.hlp.held = some (7, .hallTimeRead) ∧ placesUsed s ≤ 16 ∧
        s.hlp.replies.head? = some (plainReply 1 129 .ok .empty)) ∧
    (hallOpen.hlp.supervisionEnds = some 8000000 ∧ (hallOpen.clock 0).state = .running ∧
      hallOpen.hlp.enables.hall = true) ∧
    (hallSetup.hall.main = .present ∧ hallSetup.hlp.supervisionEnds = some 8000000 ∧
      ∀ c, (hallSetup.clock c).state = .idle) := by decide +kernel

/-- The hall with the host lost, its link left as it was otherwise. -/
def hostAway (s : State) : State := onLink (fun h => { h with link := .hostLost, supervisionEnds := none }) s

theorem witness_HostRestored :
    (let s := hostAway hallOpen;
      s.hall.main = .present ∧ s.hlp.link = .hostLost ∧ s.hlp.enables.hall = true ∧
        ∀ c, (s.clock c).state ≠ .loaded .new ∧ (s.clock c).state ≠ .loaded .restart) ∧
    (let s := onLink (fun h => { h with held := some (1, .identify) }) (hostAway hallOpen);
      s.hall.main = .present ∧ s.hlp.link = .hostLost ∧ s.hlp.held = some (1, .identify)) ∧
    (let s := hostAway (onClock 1 (fun c => { c with previewEnds := none }) previewing);
      s.hall.main = .present ∧ s.hlp.link = .hostLost ∧ s.hlp.held = none ∧ s.hlp.resetting = none ∧
        placesUsed s < 16 ∧ (s.clock 1).state = .loaded .new ∧ (s.clock 1).previewEnds = none ∧ s.hall.key = .sale ∧
        (s.board 1).online = true ∧ s.hall.timeSet = true ∧ dayCloseRuns s = false ∧ grantable s = true ∧
        ∀ d, d ≠ 1 → (s.clock d).state ≠ .loaded .new ∧ (s.clock d).state ≠ .loaded .restart) := by decide +kernel

theorem witness_FramesReadBack :
    RowReply.fits {
      row := 255, batch := 255
      events := [.press 65535 255 255 255 65535 65535, .signOn 65535 65535, .signOff 0, .signOff 65535] } = true := by
  decide

theorem witness_FramesReadBack_line : LineFits saleLine := by
  refine ⟨by decide, by decide, by decide, by decide, by decide, by decide, by decide, by decide, by decide, by decide,
    ?_, ?_, ?_, by decide, by decide, by decide, by decide, by decide, by decide, by decide⟩ <;>
  · intro n h
    cases h
    try decide

theorem witness_FramesReadBack_host :
    let f : HostFrame := { kind := 255, tag := 9, body := List.replicate 512 0 }
    f.kind < 256 ∧ f.body.length ≤ 512 := by decide +kernel

end Sys2Proof.Tests
end

section
/-! The lot requests and the queries on a part that is ready for them: what each `do…` of LotRequests, ClockRequests,
TableRequests and HallRequests answers in each of its cases, and the reply and state that follow. -/

set_option Elab.async false

namespace Sys2Proof.Machine

open Sys2Proof.Safety

variable {s t : State} {status : Status} {body : ReplyBody}

/-! ## From an answer to the state after the command -/

/-- The command of a request is the arrival of its frame. -/
theorem exec_requestCommand (tag : Byte) (r : Request) (s : State) :
    exec (requestCommand tag r) s = .next (hostRequest tag r s) := by
  cases r with
  | ledger r => cases r <;> rfl
  | _ => rfl

/-- A ready part that is sent a request replies with the answer of the request's owner on the framed state. -/
theorem exec_of_answer (h : Ready s) (tag : Byte) (r : Request) {a : Answer} (ha : a = ⟨t, status, body⟩)
    (hd : dispatchRequest tag r (framed s) = finish tag r .nothing a) :
    exec (requestCommand tag r) s = .next (replied tag r.replyKind status body t) := by
  rw [exec_requestCommand, hostRequest_ready s h, hd, finish_eq, ha]

/-! ## Numbers out of range -/

/-- A clock number 1 to 4 is not the 0 that names all four. -/
theorem clockNumbered_ne_zero {n : Nat} {c : ClockId} (h : clockNumbered n = some c) : n ≠ 0 := by
  have := clockNumbered_range h
  omega

theorem clockNumbered_eq_none {n : Nat} (h : n = 0 ∨ 4 < n) : clockNumbered n = none := by
  simp [clockNumbered]; omega

theorem rowNumbered_eq_none {n : Nat} (h : 30 < n) : rowNumbered n = none := by
  simp [rowNumbered]; omega

theorem deskNumbered_eq_none {n : Nat} (h : n = 0 ∨ 480 < n) : deskNumbered n = none := by
  simp [deskNumbered]; omega

theorem inRange_eq_true {lo hi n : Nat} (h : lo ≤ n ∧ n ≤ hi) : inRange lo hi n = true := by simp [inRange, h]

theorem inRange_eq_false {lo hi n : Nat} (h : n < lo ∨ hi < n) : inRange lo hi n = false := by
  simp [inRange]; omega

theorem faultFrom_eq_none_iff {pos : Nat} {l : List Bool} : faultFrom pos l = none ↔ ∀ b ∈ l, b = true := by
  induction l generalizing pos with
  | nil => simp [faultFrom]
  | cons b l ih => cases b <;> simp [faultFrom, ih]

theorem firstFault_eq_none_iff {l : List Bool} : firstFault l = none ↔ ∀ b ∈ l, b = true := faultFrom_eq_none_iff

/-! ## LOT-ENTER (R10, R11) -/

theorem doLotEnter_badField {a : LotFields} {pos : Nat} (h : lotFault a = some pos) :
    doLotEnter a s = ⟨s, .badField, .field pos⟩ := by simp [doLotEnter, h, badField]

theorem newLot_of_quality {a : LotFields} {q : QualityClass} (h : a.quality = some q) : newLot a = some
    { number := a.number, grower := a.grower, product := a.product, quality := q, stemLength := a.stemLength,
      text := storedText a.text, unitsPerPack := a.unitsPerPack, packsOffered := a.packsOffered, packsSold := 0,
      packsRemaining := a.packsOffered, minTake := a.minTake, startPrice := a.startPrice,
      reservePrice := a.reservePrice, priceStep := a.priceStep, state := .entered, position := none } := by
  simp [newLot, h]

/-- A record without a field at fault has one of the three quality classes, so a record can be made of it. -/
theorem newLot_isSome_of_no_fault {a : LotFields} (h : lotFault a = none) : ∃ l, newLot a = some l := by
  have hq : a.quality.isSome = true := firstFault_eq_none_iff.1 h _ (by simp)
  obtain ⟨q, hq⟩ := Option.isSome_iff_exists.1 hq
  exact ⟨_, newLot_of_quality hq⟩

theorem doLotEnter_exists {a : LotFields} (h : lotFault a = none) (hn : (s.lot a.number).isSome) :
    doLotEnter a s = ⟨s, .exists_, .empty⟩ := by
  obtain ⟨l, hl⟩ := newLot_isSome_of_no_fault h
  simp [doLotEnter, h, hl, hn, refuse]

theorem doLotEnter_full {a : LotFields} (h : lotFault a = none) (hn : s.lot a.number = none)
    (hfull : 1024 ≤ s.lots.length) : doLotEnter a s = ⟨s, .full, .empty⟩ := by
  obtain ⟨l, hl⟩ := newLot_isSome_of_no_fault h
  simp [doLotEnter, h, hl, hn, refuse, Config.lotSlots, hfull]

theorem doLotEnter_ok {a : LotFields} {l : Lot} (h : lotFault a = none) (hl : newLot a = some l)
    (hn : s.lot a.number = none) (hroom : s.lots.length < 1024) :
    doLotEnter a s = ⟨{ s with lots := insertKey Lot.number l s.lots }, .ok, .occupied (s.lots.length + 1)⟩ := by
  simp [doLotEnter, h, hl, hn, accept, Config.lotSlots, Nat.not_le.2 hroom]

/-! ## LOT-AMEND (R12, R13) and LOT-REMOVE (R14) -/

theorem amendable_iff {l : Lot} :
    amendable l = true ↔ (l.state = .entered ∨ l.state = .queued ∨ l.state = .ready) ∧ l.packsSold = 0 := by
  simp [amendable, or_assoc]

theorem removable_iff {l : Lot} : removable l = true ↔
    l.state = .entered ∨ l.state = .soldOut ∨ l.state = .done ∨ l.state = .unsold ∨ l.state = .missing := by
  cases h : l.state <;> simp [removable, LotState.isEnded, h]

theorem doLotAmend_notFound {a : LotAmendment} (h : s.lot a.number = none) :
    doLotAmend a s = ⟨s, .notFound, .empty⟩ := by simp [doLotAmend, h, refuse]

theorem doLotAmend_state {a : LotAmendment} {l : Lot} (h : s.lot a.number = some l) (hl : amendable l = false) :
    doLotAmend a s = ⟨s, .state, .empty⟩ := by simp [doLotAmend, h, hl, refuse]

theorem doLotAmend_badField {a : LotAmendment} {l : Lot} {pos : Nat} (h : s.lot a.number = some l)
    (hl : amendable l = true) (hf : lotFault (assembled a l) = some pos) :
    doLotAmend a s = ⟨s, .badField, .field pos⟩ := by simp [doLotAmend, h, hl, hf, badField]

theorem doLotAmend_ok {a : LotAmendment} {l : Lot} (h : s.lot a.number = some l) (hl : amendable l = true)
    (hf : lotFault (assembled a l) = none) :
    doLotAmend a s = ⟨s.modLot a.number (amendLot a (assembled a l)), .ok, .empty⟩ := by
  simp [doLotAmend, h, hl, hf, accept]

theorem doLotRemove_notFound {n : Nat} (h : s.lot n = none) : doLotRemove n s = ⟨s, .notFound, .empty⟩ := by
  simp [doLotRemove, h, refuse]

theorem doLotRemove_state {n : Nat} {l : Lot} (h : s.lot n = some l) (hl : removable l = false) :
    doLotRemove n s = ⟨s, .state, .empty⟩ := by simp [doLotRemove, h, hl, refuse]

theorem doLotRemove_ok {n : Nat} {l : Lot} (h : s.lot n = some l) (hl : removable l = true) :
    doLotRemove n s = ⟨{ s with lots := dropKey Lot.number n s.lots, lanes := mapCells (vacate n) s.lanes }, .ok,
      .occupied (dropKey Lot.number n s.lots).length⟩ := by simp [doLotRemove, h, hl, accept]

/-! ## The statements of LOT-ENTER, LOT-AMEND and LOT-REMOVE -/

/-- Settles O12: one clause for each stage of R10. -/
theorem lotEntered : Obligations.LotEntered := by
  unfold Obligations.LotEntered
  refine ⟨fun tag a q s hs hf hq hn hroom => ?_, fun tag a s hs => ⟨fun pos hf => ?_, fun hf hn => ?_, fun hf hn hfull => ?_⟩⟩
  · exact exec_of_answer hs tag (.lotEnter a) (doLotEnter_ok (s := framed s) hf (newLot_of_quality hq) hn hroom) rfl
  · exact exec_of_answer hs tag (.lotEnter a) (doLotEnter_badField (s := framed s) hf) rfl
  · exact exec_of_answer hs tag (.lotEnter a) (doLotEnter_exists (s := framed s) hf hn) rfl
  · exact exec_of_answer hs tag (.lotEnter a) (doLotEnter_full (s := framed s) hf hn hfull) rfl

/-- Settles O13: the cases of R12 by `amendable` and the assembled record, those of R14 by `removable`. -/
theorem lotAmendedAndRemoved : Obligations.LotAmendedAndRemoved := by
  unfold Obligations.LotAmendedAndRemoved
  refine ⟨fun tag a l s hs hl => ⟨fun hst hp hf => ?_, fun hst => ?_, fun pos hst hp hf => ?_⟩,
    fun tag a s hs hn => ?_, fun tag n s hs => ⟨fun l hl hst => ?_, fun l hl hst => ?_, fun hn => ?_⟩⟩
  · exact ⟨exec_of_answer hs tag (.lotAmend a) (doLotAmend_ok (s := framed s) hl (amendable_iff.2 ⟨hst, hp⟩) hf) rfl, rfl, rfl, rfl, rfl, rfl⟩
  · have hno : amendable l = false := by
      rw [Bool.eq_false_iff, ne_eq, amendable_iff]
      tauto
    exact exec_of_answer hs tag (.lotAmend a) (doLotAmend_state (s := framed s) hl hno) rfl
  · exact exec_of_answer hs tag (.lotAmend a) (doLotAmend_badField (s := framed s) hl (amendable_iff.2 ⟨hst, hp⟩) hf) rfl
  · exact exec_of_answer hs tag (.lotAmend a) (doLotAmend_notFound (s := framed s) hn) rfl
  · exact exec_of_answer hs tag (.lotRemove n) (doLotRemove_ok (s := framed s) hl (removable_iff.2 hst)) rfl
  · have hno : removable l = false := by
      rw [Bool.eq_false_iff, ne_eq, removable_iff]
      rcases hst with h | h | h <;> simp [h]
    exact exec_of_answer hs tag (.lotRemove n) (doLotRemove_state (s := framed s) hl hno) rfl
  · exact exec_of_answer hs tag (.lotRemove n) (doLotRemove_notFound (s := framed s) hn) rfl

/-! ## Pictures and figures of a framed state -/

@[simp] theorem lanePicture_framed (c : ClockId) : lanePicture (framed s) c = lanePicture s c := rfl
@[simp] theorem trainPicture_framed (x : Train) : trainPicture (framed s) x = trainPicture s x := rfl
@[simp] theorem clockPicture_framed (c : ClockId) : clockPicture (framed s) c = clockPicture s c := rfl
@[simp] theorem rowPicture_framed (r : RowId) : rowPicture (framed s) r = rowPicture s r := rfl
@[simp] theorem busPicture_framed : busPicture (framed s) = busPicture s := rfl
@[simp] theorem boardPicture_framed (c : ClockId) : boardPicture (framed s) c = boardPicture s c := rfl
@[simp] theorem closedInvoices_framed (n : Nat) : closedInvoices (framed s) n = closedInvoices s n := rfl
@[simp] theorem invoiceFigures_framed : invoiceFigures (framed s) = invoiceFigures s := rfl

/-! ## Query forms in and out of range -/

theorem laneTrainFault_lane {n train : Nat} (h : n = 0 ∨ 4 < n) : laneTrainFault n train = some 1 := by
  simp [laneTrainFault, firstFault, faultFrom, inRange_eq_false (lo := 1) (hi := 4) (n := n) (by omega)]

theorem laneTrainFault_train {n train : Nat} (h : 1 ≤ n ∧ n ≤ 4) (ht : train = 0 ∨ 9999 < train) :
    laneTrainFault n train = some 2 := by
  simp [laneTrainFault, firstFault, faultFrom, inRange_eq_true h,
    inRange_eq_false (lo := 1) (hi := 9999) (n := train) (by omega)]

theorem invoiceQueryFault_number {n : Nat} (h : 1 ≤ n ∧ n ≤ 999999) : invoiceQueryFault (.byNumber n) = none := by
  simp [invoiceQueryFault, firstFault, faultFrom, inRange_eq_true h]

theorem invoiceQueryFault_number_out {n : Nat} (h : n = 0 ∨ 999999 < n) :
    invoiceQueryFault (.byNumber n) = some 1 := by
  simp [invoiceQueryFault, firstFault, faultFrom, inRange_eq_false (lo := 1) (hi := 999999) (n := n) (by omega)]

theorem invoiceQueryFault_next {n : Nat} {buyer : Option Nat} {state : Option InvoiceState} (h : n ≤ 999999)
    (hb : inRangeOpt 1 9999 buyer = true) : invoiceQueryFault (.nextAfter n buyer state) = none := by
  simp [invoiceQueryFault, firstFault, faultFrom, h, hb]

theorem invoiceQueryFault_next_out {n : Nat} {buyer : Option Nat} {state : Option InvoiceState} (h : 999999 < n) :
    invoiceQueryFault (.nextAfter n buyer state) = some 1 := by
  simp [invoiceQueryFault, firstFault, faultFrom, Nat.not_le.2 h]

theorem invoiceQueryFault_next_buyer {n b : Nat} {state : Option InvoiceState} (h : n ≤ 999999)
    (hb : b = 0 ∨ 9999 < b) : invoiceQueryFault (.nextAfter n (some b) state) = some 2 := by
  simp [invoiceQueryFault, firstFault, faultFrom, h, inRangeOpt,
    inRange_eq_false (lo := 1) (hi := 9999) (n := b) (by omega)]

/-- An INVOICE-QUERY with a field at fault answers with its position and the figures (R164, R196). -/
theorem doInvoiceQuery_badField {q : InvoiceQuery} {pos : Nat} (h : invoiceQueryFault q = some pos) :
    doInvoiceQuery q s = ⟨s, .badField, .invoiceField pos (invoiceFigures s)⟩ := by
  simp [doInvoiceQuery, h, refuse]

/-- An INVOICE-QUERY in range answers with the invoice its form finds, or without one NOT_FOUND (R164). -/
theorem doInvoiceQuery_answer {q : InvoiceQuery} (h : invoiceQueryFault q = none) {found : Option Invoice}
    (hf : (match q with
      | .byNumber n => s.invoice n
      | .nextAfter n buyer state =>
        s.ledger.invoices.find? fun i => n < i.number && invoiceMatches buyer state i) = found) :
    doInvoiceQuery q s =
      ⟨s, if found.isSome then .ok else .notFound, .invoice found (invoiceFigures s)⟩ := by
  subst hf
  cases q <;> simp only [doInvoiceQuery, h, accept, refuse] <;> split <;> rfl

/-! ## The statement of the queries -/

/-- Settles O14: for each query the answer of its owner on the framed state, which shows what `s` holds. -/
theorem queriesAnswered : Obligations.QueriesAnswered := by
  unfold Obligations.QueriesAnswered
  intro tag f s hs hf
  have hf : invoiceFigures (framed s) = f := hf.symm
  refine ⟨fun n l h => ?_, fun n l h => ?_, fun n h => ?_, fun n h => ?_, fun n c h => ⟨?_, fun hg => ?_, fun ends hg => ?_⟩,
    fun n c train x h1 h2 h3 => ?_, fun n c train h1 h2 h3 => ?_, fun n c h => ?_, fun n d h => ?_, fun n r h => ?_, ?_,
    fun n b h => ?_, fun n b h => ?_, fun n h => ?_, fun n h => ?_, fun n i h1 h2 h => ?_, fun n h1 h2 h => ?_,
    fun n buyer state h1 h2 => ?_, fun n h => ?_, fun n buyer state h => ?_, fun n b state h1 h2 => ?_,
    fun n train h => ⟨?_, ?_⟩, fun n train h1 h2 h3 => ?_, fun n h => ⟨?_, ?_⟩, fun n h => ?_, fun n h => ?_,
    fun n c h => ?_, ?_⟩
  · exact exec_of_answer hs tag (.lotQuery (.byNumber n)) (by simp [doLotQuery, accept, h]) rfl
  · exact exec_of_answer hs tag (.lotQuery (.nextAfter n)) (by simp [doLotQuery, accept, h]) rfl
  · exact exec_of_answer hs tag (.lotQuery (.byNumber n)) (by simp [doLotQuery, refuse, h]) rfl
  · exact exec_of_answer hs tag (.lotQuery (.nextAfter n)) (by simp [doLotQuery, refuse, h]) rfl
  · exact exec_of_answer hs tag (.laneQuery (.lane n)) (by simp [doLaneQuery, accept, h]) rfl
  · simp [lanePicture, hg]
  · simp [lanePicture, hg, inMs, State.left]
  · exact exec_of_answer hs tag (.laneQuery (.train n train)) (by simp [doLaneQuery, accept, h1, h2, h3]) rfl
  · exact exec_of_answer hs tag (.laneQuery (.train n train)) (by simp [doLaneQuery, refuse, h1, h2, h3]) rfl
  · exact exec_of_answer hs tag (.clockQuery n) (by simp [doClockQuery, accept, h, clockNumbered_ne_zero h]) rfl
  · exact exec_of_answer hs tag (.deskQuery (.desk n)) (by simp [doDeskQuery, accept, h]) rfl
  · exact exec_of_answer hs tag (.deskQuery (.row n)) (by simp [doDeskQuery, accept, h, rowNumbered_ne h]) rfl
  · exact exec_of_answer hs tag (.deskQuery (.row 0)) (by simp [doDeskQuery, accept]) rfl
  · exact exec_of_answer hs tag (.buyerQuery (.byNumber n)) (by simp [doBuyerQuery, accept, availableCredit, h]) rfl
  · exact exec_of_answer hs tag (.buyerQuery (.nextAfter n)) (by simp [doBuyerQuery, accept, availableCredit, h]) rfl
  · exact exec_of_answer hs tag (.buyerQuery (.byNumber n)) (by simp [doBuyerQuery, refuse, h]) rfl
  · exact exec_of_answer hs tag (.buyerQuery (.nextAfter n)) (by simp [doBuyerQuery, refuse, h]) rfl
  · subst hf
    exact exec_of_answer hs tag (.invoiceQuery (.byNumber n))
      (doInvoiceQuery_answer (s := framed s) (invoiceQueryFault_number ⟨h1, h2⟩) h) rfl
  · subst hf
    exact exec_of_answer hs tag (.invoiceQuery (.byNumber n))
      (doInvoiceQuery_answer (s := framed s) (invoiceQueryFault_number ⟨h1, h2⟩) h) rfl
  · subst hf
    exact exec_of_answer hs tag (.invoiceQuery (.nextAfter n buyer state))
      (doInvoiceQuery_answer (invoiceQueryFault_next h1 h2) rfl) rfl
  · subst hf
    exact exec_of_answer hs tag (.invoiceQuery (.byNumber n)) (doInvoiceQuery_badField (invoiceQueryFault_number_out h)) rfl
  · subst hf
    exact exec_of_answer hs tag (.invoiceQuery (.nextAfter n buyer state))
      (doInvoiceQuery_badField (invoiceQueryFault_next_out h)) rfl
  · subst hf
    exact exec_of_answer hs tag (.invoiceQuery (.nextAfter n (some b) state))
      (doInvoiceQuery_badField (invoiceQueryFault_next_buyer h1 h2)) rfl
  · exact exec_of_answer hs tag (.laneQuery (.lane n)) (by simp [doLaneQuery, badField, clockNumbered_eq_none h]) rfl
  · exact exec_of_answer hs tag (.laneQuery (.train n train)) (by simp [doLaneQuery, badField, laneTrainFault_lane h]) rfl
  · exact exec_of_answer hs tag (.laneQuery (.train n train))
      (by simp [doLaneQuery, badField, laneTrainFault_train ⟨h1, h2⟩ h3]) rfl
  · exact exec_of_answer hs tag (.clockQuery n)
      (by simp [doClockQuery, badField, clockNumbered_eq_none (.inr h), show n ≠ 0 by omega]) rfl
  · exact exec_of_answer hs tag (.boardQuery n)
      (by simp [doBoardQuery, badField, clockNumbered_eq_none (.inr h), show n ≠ 0 by omega]) rfl
  · exact exec_of_answer hs tag (.deskQuery (.desk n)) (by simp [doDeskQuery, badField, deskNumbered_eq_none h]) rfl
  · exact exec_of_answer hs tag (.deskQuery (.row n))
      (by simp [doDeskQuery, badField, rowNumbered_eq_none h, show n ≠ 0 by omega]) rfl
  · exact exec_of_answer hs tag (.boardQuery n) (by simp [doBoardQuery, accept, h, clockNumbered_ne_zero h]) rfl
  · exact exec_of_answer hs tag .hallTimeRead rfl rfl

end Sys2Proof.Machine
end

section
/-! What LotsKept (R3) reads of a state: each lot's number and state, the names on the manifests, and each clock's
current lot. The three parts of the invariant, and what keeps each of them. -/

set_option Elab.async false

namespace Sys2Proof.Machine

open Sys2Proof.Safety

variable {s t : State} {c : ClockId} {n : Nat}

/-! ## Tables -/

theorem findKey_eq_none_iff {α : Type} {key : α → Nat} {l : List α} :
    findKey key n l = none ↔ ∀ x ∈ l, key x ≠ n := by
  simp [findKey]

/-- In a table without two equal keys, reading at a key finds the one record that has it. -/
theorem findKey_eq_some_iff {α : Type} {key : α → Nat} {l : List α} (h : (l.map key).Nodup) {x : α} :
    findKey key n l = some x ↔ x ∈ l ∧ key x = n := by
  refine ⟨fun hx => ⟨findKey_mem key hx, findKey_key key hx⟩, fun ⟨hx, hn⟩ => ?_⟩
  cases hy : findKey key n l with
  | none => exact absurd hn (findKey_eq_none_iff.1 hy x hx)
  | some y =>
    rw [List.inj_on_of_nodup_map h (findKey_mem key hy) hx ((findKey_key key hy).trans hn.symm)]

theorem findKey_insertKey_ne {α : Type} {key : α → Nat} {x : α} {l : List α} (h : key x ≠ n) :
    findKey key n (insertKey key x l) = findKey key n l := by
  induction l with
  | nil => simp [insertKey, findKey, h]
  | cons y l ih =>
    simp only [insertKey]
    split
    · simp [findKey, h]
    · simp only [findKey, List.find?_cons] at ih ⊢
      rw [ih]

theorem findKey_insertKey_self {α : Type} {key : α → Nat} {x : α} {l : List α} (h : findKey key (key x) l = none) :
    findKey key (key x) (insertKey key x l) = some x := by
  induction l with
  | nil => simp [insertKey, findKey]
  | cons y l ih =>
    simp only [insertKey]
    split
    · simp [findKey]
    · simp only [findKey, List.find?_cons] at h ih ⊢
      split at h
      · cases h
      · exact ih h

theorem findKey_dropKey_ne {α : Type} {key : α → Nat} {m : Nat} {l : List α} (h : n ≠ m) :
    findKey key n (dropKey key m l) = findKey key n l := by
  simp only [findKey, dropKey, List.find?_filter]
  congr 1
  funext x
  by_cases hx : key x = n <;> simp [hx, h]

theorem findKey_map {α : Type} {key : α → Nat} {f : α → α} (hf : ∀ x, key (f x) = key x) (l : List α) :
    findKey key n (l.map f) = (findKey key n l).map f := by
  induction l with
  | nil => rfl
  | cons x l ih =>
    simp only [findKey, List.map_cons, List.find?_cons, hf] at ih ⊢
    split <;> simp [ih]

theorem modKey_map_key {α : Type} {key : α → Nat} {f : α → α} (hf : ∀ x, key (f x) = key x) (l : List α) :
    (modKey key n f l).map key = l.map key := by
  simp only [modKey, List.map_map]
  refine List.map_congr_left fun x _ => ?_
  simp only [Function.comp]
  split <;> simp [hf]

theorem insertKey_perm {α : Type} {key : α → Nat} (x : α) (l : List α) :
    (insertKey key x l).Perm (x :: l) := by
  induction l with
  | nil => exact .refl _
  | cons y l ih =>
    simp only [insertKey]
    split
    · exact .refl _
    · exact (ih.cons y).trans (.swap x y l)

/-! ## The state of a lot -/

/-- The state of the lot with a number, none where no slot holds it (R3). -/
def State.lotState (s : State) (n : Nat) : Option LotState := (s.lot n).map Lot.state

/-- The numbers of the Lot Store's slots (1.1). -/
def State.lotNumbers (s : State) : List Nat := s.lots.map Lot.number

theorem State.lot_number {l : Lot} (h : s.lot n = some l) : l.number = n := findKey_key Lot.number h

theorem State.lotState_of_lot {l : Lot} (h : s.lot n = some l) : s.lotState n = some l.state := by
  simp [State.lotState, h]

theorem State.lotState_eq_some {x : LotState} : s.lotState n = some x ↔ ∃ l, s.lot n = some l ∧ l.state = x := by
  simp [State.lotState]

theorem lotState_congr (h : t.lots = s.lots) (n : Nat) : t.lotState n = s.lotState n := by
  simp [State.lotState, State.lot, h]

theorem lotNumbers_congr (h : t.lots = s.lots) : t.lotNumbers = s.lotNumbers := by simp [State.lotNumbers, h]

theorem lotNumbers_modLot {f : Lot → Lot} (hf : ∀ l, (f l).number = l.number) :
    (s.modLot n f).lotNumbers = s.lotNumbers := modKey_map_key hf s.lots

theorem lotState_modLot {f : Lot → Lot} (hf : ∀ l, (f l).number = l.number) (m : Nat) :
    (s.modLot n f).lotState m = if m = n then (s.lot n).map fun l => (f l).state else s.lotState m := by
  split
  · next h => subst h; simp [State.lotState, State.modLot_lot_self s f hf, Function.comp_def]
  · next h => simp [State.lotState, State.modLot_lot_ne s f hf h]

/-- A change of a lot that keeps its state changes no lot's state. -/
theorem lotState_modLot_same {f : Lot → Lot} (hf : ∀ l, (f l).number = l.number) (hst : ∀ l, (f l).state = l.state)
    (m : Nat) : (s.modLot n f).lotState m = s.lotState m := by
  rw [lotState_modLot hf]
  split
  · next h => simp [h, hst, State.lotState]
  · rfl

theorem modLots_nil (f : Lot → Lot) : modLots f [] s = s := rfl

theorem modLots_cons (f : Lot → Lot) (p : Option Nat) (l : List (Option Nat)) :
    modLots f (p :: l) s = modLots f l (match p with | some n => s.modLot n f | none => s) := by
  cases p <;> rfl

theorem lotNumbers_modLots {f : Lot → Lot} (hf : ∀ l, (f l).number = l.number) (l : List (Option Nat)) :
    (modLots f l s).lotNumbers = s.lotNumbers := by
  induction l generalizing s with
  | nil => rfl
  | cons p l ih =>
    rw [modLots_cons, ih]
    cases p
    · rfl
    · exact lotNumbers_modLot hf

/-- Where `f` changes a lot's state by `g`, once or several times alike, `modLots f` changes by `g` the states of the lots
on the places listed and no other. -/
theorem lotState_modLots {f : Lot → Lot} {g : LotState → LotState} (hf : ∀ l, (f l).number = l.number)
    (hfg : ∀ l, (f l).state = g l.state) (hgg : ∀ x, g (g x) = g x) (l : List (Option Nat)) (m : Nat) :
    (modLots f l s).lotState m = if some m ∈ l then (s.lotState m).map g else s.lotState m := by
  induction l generalizing s with
  | nil => simp [modLots_nil]
  | cons p l ih =>
    rw [modLots_cons, ih]
    cases p with
    | none => simp
    | some k =>
      rw [lotState_modLot hf]
      by_cases hk : m = k
      · subst hk
        have hm : ((s.lot m).map fun l => (f l).state) = (s.lotState m).map g := by
          simp [State.lotState, hfg, Function.comp_def]
        simp [hm, Function.comp_def, hgg]
      · simp [hk]

theorem modLots_setLane (f : Lot → Lot) (l : List (Option Nat)) (x : Lane) :
    modLots f l (s.setLane c x) = (modLots f l s).setLane c x := by
  induction l generalizing s with
  | nil => rfl
  | cons p l ih =>
    rw [modLots_cons, modLots_cons, ← ih]
    cases p <;> rfl

/-! ## The names on the manifests -/

/-- The lots a train's places name. -/
def trainNames (x : Train) : List Nat := (placesOf x).filterMap id

/-- The lots that the manifests of a lane name (R20). -/
def laneNames (s : State) (c : ClockId) : List Nat := (s.lane c).trains.flatMap trainNames

/-- A lot that an ANNOUNCED train names. -/
def InAnnounced (s : State) (n : Nat) : Prop :=
  ∃ c, ∃ x ∈ (s.lane c).trains, x.state = .announced ∧ n ∈ trainNames x

theorem mem_trainNames {x : Train} : n ∈ trainNames x ↔ some n ∈ placesOf x := by simp [trainNames]

theorem mem_laneNames : n ∈ laneNames s c ↔ ∃ x ∈ (s.lane c).trains, n ∈ trainNames x := by simp [laneNames]

theorem mem_allClocks (c : ClockId) : c ∈ allClocks := by revert c; decide

theorem filterMap_allPlaces : (allPlaces s).filterMap id = allClocks.flatMap (laneNames s) := by
  simp only [allPlaces, List.filterMap_flatMap]
  rfl

theorem some_mem_allPlaces : some n ∈ allPlaces s ↔ ∃ c, n ∈ laneNames s c := by
  have h : some n ∈ allPlaces s ↔ n ∈ (allPlaces s).filterMap id := by simp
  rw [h, filterMap_allPlaces]
  simp [mem_allClocks]

/-- No lot is named twice exactly when no lane names one twice and no two lanes name the same. -/
theorem names_nodup_iff : ((allPlaces s).filterMap id).Nodup ↔
    (∀ c, (laneNames s c).Nodup) ∧ ∀ c d, c ≠ d → (laneNames s c).Disjoint (laneNames s d) := by
  have symm : Std.Symm (Function.onFun List.Disjoint (laneNames s)) := ⟨fun _ _ h => h.symm⟩
  rw [filterMap_allPlaces, List.nodup_flatMap]
  constructor
  · rintro ⟨h1, h2⟩
    exact ⟨fun c => h1 c (mem_allClocks c), fun c d hcd => h2.forall (mem_allClocks c) (mem_allClocks d) hcd⟩
  · rintro ⟨h1, h2⟩
    exact ⟨fun c _ => h1 c, (show allClocks.Nodup by decide).imp fun hcd => h2 _ _ hcd⟩

/-! ## The three parts of LotsKept -/

/-- A clock in IDLE or CLOSED, which has no current lot (R57). -/
abbrev Bare (x : Clock) : Prop := x.state = .idle ∨ x.state = .closed

/-- The clocks' part of LotsKept: the ON_CLOCK lots are the clocks' current lots, each of one clock. -/
structure ClocksHold (s : State) : Prop where
  held : ∀ c n, (s.clock c).lot = some n → s.lotState n = some .onClock
  onClock : ∀ n, s.lotState n = some .onClock → ∃ c, (s.clock c).lot = some n
  once : ∀ c d n, (s.clock c).lot = some n → (s.clock d).lot = some n → c = d
  bare : ∀ c, Bare (s.clock c) → (s.clock c).lot = none

/-- The manifests' part of LotsKept. -/
structure ManifestsHold (s : State) : Prop where
  trains : ∀ c, (s.lane c).trains.Pairwise fun x y => x.number ≠ y.number
  placed : ∀ c, ∀ n ∈ laneNames s c, ∃ x, s.lotState n = some x ∧ x ≠ .entered
  nodup : ∀ c, (laneNames s c).Nodup
  disjoint : ∀ c d, c ≠ d → (laneNames s c).Disjoint (laneNames s d)
  announced : ∀ n, InAnnounced s n → s.lotState n = some .queued

theorem mem_lots_iff (h : s.lotNumbers.Nodup) {l : Lot} : l ∈ s.lots ↔ s.lot l.number = some l := by
  simp [State.lot, findKey_eq_some_iff h]

theorem lotsKept_iff : LotsKept s ↔ s.lotNumbers.Nodup ∧ ClocksHold s ∧ ManifestsHold s := by
  constructor
  · intro h
    have unique : s.lotNumbers.Nodup := List.pairwise_map.2 h.unique
    obtain ⟨nodup, disjoint⟩ := names_nodup_iff.1 h.apart
    have placed : ∀ c, ∀ n ∈ laneNames s c, ∃ l, s.lot n = some l ∧ l.state ≠ .entered := fun c n hn =>
      h.placed _ (some_mem_allPlaces.2 ⟨c, hn⟩) n rfl
    refine ⟨unique, ⟨fun c n hn => ?_, fun n hn => ?_, fun c d n hc hd => ?_, h.bare⟩,
      ⟨h.trains, fun c n hn => ?_, nodup, disjoint, fun n hn => ?_⟩⟩
    · obtain ⟨l, hl, hst⟩ := h.held c n hn
      exact State.lotState_eq_some.2 ⟨l, hl, hst⟩
    · obtain ⟨l, hl, hst⟩ := State.lotState_eq_some.1 hn
      obtain ⟨c, hc⟩ := h.onClock l (findKey_mem _ hl) hst
      exact ⟨c, by rw [hc, State.lot_number hl]⟩
    · by_contra hcd
      rcases h.once c d hcd with hn | hne
      · simp [hc] at hn
      · exact hne (hc.trans hd.symm)
    · obtain ⟨l, hl, hst⟩ := placed c n hn
      exact ⟨l.state, State.lotState_of_lot hl, hst⟩
    · obtain ⟨c, x, hx, hxs, hxn⟩ := hn
      obtain ⟨l, hl, -⟩ := placed c n (mem_laneNames.2 ⟨x, hx, hxn⟩)
      rw [State.lotState_of_lot hl, h.announced c x hx hxs _ (mem_trainNames.1 hxn) n rfl l hl]
  · rintro ⟨unique, hc, hm⟩
    refine ⟨List.pairwise_map.1 unique, fun c n hn => ?_, fun l hl hst => ?_, fun c d hcd => ?_, hc.bare, hm.trains,
      fun p hp n hn => ?_, names_nodup_iff.2 ⟨hm.nodup, hm.disjoint⟩, fun c x hx hxs p hp n hn l hl => ?_⟩
    · exact State.lotState_eq_some.1 (hc.held c n hn)
    · exact hc.onClock _ (State.lotState_eq_some.2 ⟨l, (mem_lots_iff unique).1 hl, hst⟩)
    · cases hn : (s.clock c).lot with
      | none => exact .inl rfl
      | some n => exact .inr fun e => hcd (hc.once c d n hn e.symm)
    · cases hn
      obtain ⟨c, hn⟩ := some_mem_allPlaces.1 hp
      obtain ⟨x, hx, hne⟩ := hm.placed c n hn
      obtain ⟨l, hl, rfl⟩ := State.lotState_eq_some.1 hx
      exact ⟨l, hl, hne⟩
    · cases hn
      have hq := hm.announced n ⟨c, x, hx, hxs, mem_trainNames.2 hp⟩
      rw [State.lotState_of_lot hl] at hq
      exact Option.some.inj hq

end Sys2Proof.Machine
end

section
/-! The moves that keep LotsKept: nothing it reads changes, a clock takes or gives up a lot, the trains of a lane change. -/

set_option Elab.async false

namespace Sys2Proof.Machine

open Sys2Proof.Safety

variable {s t : State} {c : ClockId} {n : Nat}

/-! ## The clocks' part -/

theorem ClocksHold.of_same (h : ClocksHold s)
    (hon : ∀ n, t.lotState n = some .onClock ↔ s.lotState n = some .onClock)
    (hclk : ∀ c, (t.clock c).lot = (s.clock c).lot ∧ (Bare (t.clock c) → Bare (s.clock c) ∨ (s.clock c).lot = none)) : ClocksHold t where
  held c n hn := (hon n).2 (h.held c n ((hclk c).1 ▸ hn))
  onClock n hn := by
    obtain ⟨c, hc⟩ := h.onClock n ((hon n).1 hn)
    exact ⟨c, (hclk c).1.trans hc⟩
  once c d n hc hd := h.once c d n ((hclk c).1 ▸ hc) ((hclk d).1 ▸ hd)
  bare c hb := (hclk c).1.trans (((hclk c).2 hb).elim (h.bare c) id)

/-- A clock without a lot takes one that is not ON_CLOCK (R62). -/
theorem ClocksHold.take (h : ClocksHold s) (hnone : (s.clock c).lot = none) (hfree : s.lotState n ≠ some .onClock)
    (hon : ∀ m, t.lotState m = some .onClock ↔ m = n ∨ s.lotState m = some .onClock)
    (hc : (t.clock c).lot = some n) (hbusy : ¬ Bare (t.clock c)) (hd : ∀ d, d ≠ c → t.clock d = s.clock d) :
    ClocksHold t := by
  have other : ∀ d m, d ≠ c → (t.clock d).lot = some m → (s.clock d).lot = some m ∧ m ≠ n := fun d m hdc hm => by
    rw [hd d hdc] at hm
    exact ⟨hm, fun e => hfree (e ▸ h.held d m hm)⟩
  refine ⟨fun d m hm => (hon m).2 ?_, fun m hm => ?_, fun d e m hdm hem => ?_, fun d hb => ?_⟩
  · by_cases hdc : d = c
    · subst hdc; exact .inl (Option.some.inj (hm.symm.trans hc))
    · exact .inr (h.held d m (other d m hdc hm).1)
  · rcases (hon m).1 hm with rfl | hm
    · exact ⟨c, hc⟩
    · obtain ⟨d, hdm⟩ := h.onClock m hm
      have hdc : d ≠ c := fun e => by simp [e, hnone] at hdm
      exact ⟨d, by rw [hd d hdc, hdm]⟩
  · by_cases hdc : d = c <;> by_cases hec : e = c
    · exact hdc.trans hec.symm
    · subst hdc; exact absurd (Option.some.inj (hdm.symm.trans hc)) (other e m hec hem).2
    · subst hec; exact absurd (Option.some.inj (hem.symm.trans hc)) (other d m hdc hdm).2
    · exact h.once d e m (other d m hdc hdm).1 (other e m hec hem).1
  · by_cases hdc : d = c
    · subst hdc; exact absurd hb hbusy
    · rw [hd d hdc] at hb ⊢; exact h.bare d hb

/-- A clock gives up its lot, which leaves ON_CLOCK (R71, R77). -/
theorem ClocksHold.release (h : ClocksHold s) (hn : (s.clock c).lot = some n)
    (hon : ∀ m, t.lotState m = some .onClock ↔ m ≠ n ∧ s.lotState m = some .onClock)
    (hc : (t.clock c).lot = none) (hd : ∀ d, d ≠ c → t.clock d = s.clock d) : ClocksHold t := by
  have other : ∀ d m, (t.clock d).lot = some m → d ≠ c ∧ (s.clock d).lot = some m := fun d m hm => by
    have hdc : d ≠ c := fun e => by simp [e, hc] at hm
    exact ⟨hdc, by rwa [hd d hdc] at hm⟩
  refine ⟨fun d m hm => (hon m).2 ?_, fun m hm => ?_, fun d e m hdm hem => ?_, fun d hb => ?_⟩
  · obtain ⟨hdc, hm⟩ := other d m hm
    exact ⟨fun e => hdc (h.once d c n (e ▸ hm) hn), h.held d m hm⟩
  · obtain ⟨hmn, hm⟩ := (hon m).1 hm
    obtain ⟨d, hdm⟩ := h.onClock m hm
    have hdc : d ≠ c := fun e => hmn (Option.some.inj (hdm.symm.trans (e ▸ hn)))
    exact ⟨d, by rw [hd d hdc, hdm]⟩
  · exact h.once d e m (other d m hdm).2 (other e m hem).2
  · by_cases hdc : d = c
    · rw [hdc, hc]
    · rw [hd d hdc] at hb ⊢; exact h.bare d hb

/-! ## The manifests' part -/

/-- Two trains that name the same lot are one train of one lane (R7, R22). -/
theorem ManifestsHold.train_unique (h : ManifestsHold s) {d : ClockId} {x y : Train} (hx : x ∈ (s.lane c).trains)
    (hy : y ∈ (s.lane d).trains) (hnx : n ∈ trainNames x) (hny : n ∈ trainNames y) : c = d ∧ x = y := by
  have hcd : c = d := by
    by_contra hcd
    exact h.disjoint c d hcd (mem_laneNames.2 ⟨x, hx, hnx⟩) (mem_laneNames.2 ⟨y, hy, hny⟩)
  subst hcd
  refine ⟨rfl, by_contra fun hxy => ?_⟩
  have apart := (List.nodup_flatMap.1 (h.nodup c)).2
  have symm : Std.Symm (Function.onFun List.Disjoint trainNames) := ⟨fun _ _ h => h.symm⟩
  exact apart.forall hx hy hxy hnx hny

/-- Trains leave their lanes, or places become vacant; what stays named is not ENTERED, and of an ANNOUNCED train
QUEUED. -/
theorem ManifestsHold.of_sublist (h : ManifestsHold s)
    (htr : ∀ c, (t.lane c).trains.Pairwise fun x y => x.number ≠ y.number)
    (hsub : ∀ c, (laneNames t c).Sublist (laneNames s c))
    (hst : ∀ c, ∀ n ∈ laneNames t c, t.lotState n = s.lotState n ∨ ∃ x, t.lotState n = some x ∧ x ≠ .entered)
    (hann : ∀ n, InAnnounced t n → t.lotState n = some .queued) : ManifestsHold t where
  trains := htr
  placed c n hn := by
    rcases hst c n hn with e | hx
    · rw [e]; exact h.placed c n ((hsub c).subset hn)
    · exact hx
  nodup c := (h.nodup c).sublist (hsub c)
  disjoint c d hcd _ hn hm := h.disjoint c d hcd ((hsub c).subset hn) ((hsub d).subset hm)
  announced := hann

theorem laneNames_congr (h : (t.lane c).trains = (s.lane c).trains) : laneNames t c = laneNames s c := by
  simp [laneNames, h]

theorem inAnnounced_congr (h : ∀ c, (t.lane c).trains = (s.lane c).trains) : InAnnounced t n ↔ InAnnounced s n := by
  simp [InAnnounced, h]

/-- The trains stay, and a lot they name changes its state only where no ANNOUNCED train names it, and not to ENTERED. -/
theorem ManifestsHold.of_same_places (h : ManifestsHold s) (htr : ∀ c, (t.lane c).trains = (s.lane c).trains)
    (hst : ∀ c, ∀ n ∈ laneNames s c, t.lotState n = s.lotState n ∨
      s.lotState n ≠ some .queued ∧ ∃ x, t.lotState n = some x ∧ x ≠ .entered) : ManifestsHold t := by
  have names : ∀ c, laneNames t c = laneNames s c := fun c => laneNames_congr (htr c)
  refine h.of_sublist (fun c => htr c ▸ h.trains c) (fun c => by rw [names])
    (fun c n hn => (hst c n (names c ▸ hn)).imp_right And.right) fun n hn => ?_
  have hn := (inAnnounced_congr htr).1 hn
  have hq := h.announced n hn
  obtain ⟨c, x, hx, -, hnx⟩ := hn
  rcases hst c n (mem_laneNames.2 ⟨x, hx, hnx⟩) with e | ⟨hne, -⟩
  · rw [e, hq]
  · exact absurd hq hne

/-! ## Moves of the state -/

/-- Nothing that LotsKept reads has changed, but for the kind of state of a clock that is not, or no longer, bare. -/
theorem lotsKept_of_same (h : LotsKept s) (hnum : t.lotNumbers = s.lotNumbers)
    (hst : ∀ n, t.lotState n = s.lotState n) (htr : ∀ c, (t.lane c).trains = (s.lane c).trains)
    (hclk : ∀ c, (t.clock c).lot = (s.clock c).lot ∧ (Bare (t.clock c) → Bare (s.clock c) ∨ (s.clock c).lot = none)) : LotsKept t := by
  obtain ⟨hu, hc, hm⟩ := lotsKept_iff.1 h
  exact lotsKept_iff.2 ⟨hnum ▸ hu, hc.of_same (fun n => by rw [hst]) hclk, hm.of_same_places htr fun _ n _ => .inl (hst n)⟩

/-- Lots, lanes and clocks have not changed. -/
theorem lotsKept_congr (h : LotsKept s) (hlots : t.lots = s.lots := by simp) (hlanes : t.lanes = s.lanes := by simp)
    (hclocks : t.clocks = s.clocks := by simp) : LotsKept t :=
  lotsKept_of_same h (lotNumbers_congr hlots) (lotState_congr hlots) (fun c => by simp [State.lane, hlanes])
    fun c => by simpa [State.clock, hclocks] using .inl

/-- A field of the state is written that is neither lots, lanes nor clocks. -/
theorem lotsKept_elsewhere (h : LotsKept s) (hlots : t.lots = s.lots := by rfl) (hlanes : t.lanes = s.lanes := by rfl)
    (hclocks : t.clocks = s.clocks := by rfl) : LotsKept t := lotsKept_congr h hlots hlanes hclocks

/-- A clock changes its state or its other fields but not its lot, and becomes bare only if it was, or without a lot. -/
theorem lotsKept_setClock (h : LotsKept s) {x : Clock}
    (hbare : Bare x → Bare (s.clock c) ∨ (s.clock c).lot = none := by exact Or.inl)
    (hlot : x.lot = (s.clock c).lot := by rfl) : LotsKept (s.setClock c x) := by
  refine lotsKept_of_same h rfl (fun _ => rfl) (fun _ => rfl) fun d => ?_
  by_cases hd : d = c
  · subst hd; simpa using ⟨hlot, hbare⟩
  · simpa [State.setClock_clock_ne _ _ _ _ hd] using .inl

/-- A lane changes in other fields than its trains. -/
theorem lotsKept_setLane (h : LotsKept s) {x : Lane} (hx : x.trains = (s.lane c).trains := by rfl) :
    LotsKept (s.setLane c x) := by
  refine lotsKept_of_same h rfl (fun _ => rfl) (fun d => ?_) fun _ => ⟨rfl, .inl⟩
  by_cases hd : d = c
  · subst hd; simpa using hx
  · simp [State.setLane_lane_ne _ _ _ _ hd]

/-- A lot changes in other fields than its number and state. -/
theorem lotsKept_modLot (h : LotsKept s) {f : Lot → Lot} (hf : ∀ l, (f l).number = l.number := by intro; rfl)
    (hst : ∀ l, (f l).state = l.state := by intro; rfl) : LotsKept (s.modLot n f) :=
  lotsKept_of_same h (lotNumbers_modLot hf) (lotState_modLot_same hf hst) (fun _ => rfl) fun _ => ⟨rfl, .inl⟩

/-- A clock without a lot takes a READY one, which becomes ON_CLOCK (R62). -/
theorem lotsKept_take (h : LotsKept s) {f : Lot → Lot} (hf : ∀ l, (f l).number = l.number)
    (hst : ∀ l, (f l).state = .onClock) (hready : s.lotState n = some .ready) (hnone : (s.clock c).lot = none)
    (hlots : t.lots = (s.modLot n f).lots) (hlanes : t.lanes = s.lanes) (hc : (t.clock c).lot = some n)
    (hbusy : ¬ Bare (t.clock c)) (hd : ∀ d, d ≠ c → t.clock d = s.clock d) : LotsKept t := by
  obtain ⟨hu, hclk, hm⟩ := lotsKept_iff.1 h
  obtain ⟨l, hl, -⟩ := State.lotState_eq_some.1 hready
  have st : ∀ m, t.lotState m = if m = n then some .onClock else s.lotState m := fun m => by
    rw [lotState_congr hlots, lotState_modLot hf, hl]
    simp [hst]
  refine lotsKept_iff.2 ⟨?_, hclk.take hnone (by simp [hready]) (fun m => ?_) hc hbusy hd,
    hm.of_same_places (fun c => by simp [State.lane, hlanes]) fun _ m _ => ?_⟩
  · rwa [lotNumbers_congr hlots, lotNumbers_modLot hf]
  · rw [st]; split <;> simp_all
  · rw [st]; split <;> simp_all

/-- A clock gives up its lot, whose state becomes one that is neither ON_CLOCK nor ENTERED (R71, R77). -/
theorem lotsKept_release (h : LotsKept s) {f : Lot → Lot} (hn : (s.clock c).lot = some n)
    (hf : ∀ l, (f l).number = l.number) (hst : ∀ l, (f l).state ≠ .onClock ∧ (f l).state ≠ .entered)
    (hlots : t.lots = (s.modLot n f).lots) (hlanes : t.lanes = s.lanes) (hc : (t.clock c).lot = none)
    (hd : ∀ d, d ≠ c → t.clock d = s.clock d) : LotsKept t := by
  obtain ⟨hu, hclk, hm⟩ := lotsKept_iff.1 h
  obtain ⟨l, hl, hlst⟩ := State.lotState_eq_some.1 (hclk.held c n hn)
  have st : ∀ m, t.lotState m = if m = n then some (f l).state else s.lotState m := fun m => by
    rw [lotState_congr hlots, lotState_modLot hf, hl]
    rfl
  refine lotsKept_iff.2 ⟨?_, hclk.release hn (fun m => ?_) hc hd,
    hm.of_same_places (fun c => by simp [State.lane, hlanes]) fun _ m _ => ?_⟩
  · rwa [lotNumbers_congr hlots, lotNumbers_modLot hf]
  · rw [st]; split <;> simp_all
  · rw [st]
    split
    · next e => exact .inr ⟨by simp [e, State.lotState_of_lot hl, hlst], _, rfl, (hst l).2⟩
    · exact .inl rfl

/-! ## Operations that reach neither lots, lanes nor clocks -/

theorem lotsKept_raise (h : LotsKept s) {b : ReportBody} : LotsKept (raise b s) := lotsKept_congr h

theorem lotsKept_placeReply (h : LotsKept s) {r : Reply} : LotsKept (placeReply r s) := lotsKept_congr h

theorem lotsKept_askUpdate (h : LotsKept s) : LotsKept (askUpdate c s) := lotsKept_congr h

theorem lotsKept_markChanged (h : LotsKept s) : LotsKept (markChanged c s) := lotsKept_congr h

theorem lotsKept_handTick (h : LotsKept s) : LotsKept (handTick c s) := lotsKept_congr h

theorem lotsKept_reach (h : LotsKept s) {t : Nat} : LotsKept (s.reach t) := lotsKept_congr h

theorem lotsKept_setBoard (h : LotsKept s) {x : Board} : LotsKept (s.setBoard c x) := lotsKept_congr h

theorem lotsKept_sendDisplay (h : LotsKept s) : LotsKept (sendDisplay c s) := lotsKept_congr h

theorem lotsKept_setRow (h : LotsKept s) {r : RowId} {x : Row} : LotsKept (s.setRow r x) := lotsKept_congr h

theorem lotsKept_setJournal (h : LotsKept s) {j : Journal} : LotsKept (s.setJournal j) := lotsKept_congr h

theorem lotsKept_setArbiter (h : LotsKept s) {a : Arbiter} : LotsKept (s.setArbiter a) := lotsKept_congr h

theorem lotsKept_setLotMark (h : LotsKept s) {m : Option Nat} : LotsKept (setLotMark c m s) := lotsKept_congr h

/-! ## Operations made on every clock, or under a guard -/

theorem lotsKept_eachClock {f : ClockId → State → State} (hf : ∀ c s, LotsKept s → LotsKept (f c s))
    (h : LotsKept s) : LotsKept (eachClock f s) := hf 3 _ (hf 2 _ (hf 1 _ (hf 0 _ h)))

theorem lotsKept_foldl {α : Type} {f : State → α → State} (hf : ∀ a s, LotsKept s → LotsKept (f s a)) (l : List α)
    (h : LotsKept s) : LotsKept (l.foldl f s) := List.foldlRecOn l f h fun s hs a _ => hf a s hs

theorem lotsKept_whenPowered (h : LotsKept s) (ht : LotsKept t) : LotsKept (whenPowered s t) := by
  unfold whenPowered
  split
  · exact ht
  · exact h

end Sys2Proof.Machine
end

section
/-! LotsKept through the moves of the Feed Lane Sequencer and the Lot Store: passages, the gap timer, departures, an
announcement and a cancel, LOT-ENTER and LOT-REMOVE. -/

set_option Elab.async false

namespace Sys2Proof.Machine

open Sys2Proof.Safety

variable {s t : State} {c : ClockId} {n : Nat}

/-! ## The names of a lane after its trains change -/

theorem laneNames_setLane_self (x : Lane) : laneNames (s.setLane c x) c = x.trains.flatMap trainNames := by
  simp [laneNames]

theorem laneNames_setLane_ne (x : Lane) {d : ClockId} (h : d ≠ c) : laneNames (s.setLane c x) d = laneNames s d := by
  simp [laneNames, State.setLane_lane_ne _ _ _ _ h]

/-- The trains of one lane change and each lane's trains stay apart by number. -/
theorem trains_pairwise_setLane (h : ManifestsHold s) {x : Lane} (hx : x.trains.Pairwise fun y z => y.number ≠ z.number)
    (d : ClockId) : ((s.setLane c x).lane d).trains.Pairwise fun y z => y.number ≠ z.number := by
  by_cases hd : d = c
  · subst hd; simpa using hx
  · rw [State.setLane_lane_ne _ _ _ _ hd]; exact h.trains d

/-- A train that is ANNOUNCED after a lane's trains have changed stands in that lane's new queue, or stood elsewhere. -/
theorem inAnnounced_setLane {x : Lane} (h : InAnnounced (s.setLane c x) n) :
    (∃ y ∈ x.trains, y.state = .announced ∧ n ∈ trainNames y) ∨
      ∃ d, d ≠ c ∧ ∃ y ∈ (s.lane d).trains, y.state = .announced ∧ n ∈ trainNames y := by
  obtain ⟨d, y, hy, hst, hn⟩ := h
  by_cases hd : d = c
  · subst hd; exact .inl ⟨y, by simpa using hy, hst, hn⟩
  · rw [State.setLane_lane_ne _ _ _ _ hd] at hy; exact .inr ⟨d, hd, y, hy, hst, hn⟩

/-! ## Passages and the gap timer (R26 to R29) -/

theorem mem_replaceTrain {x' : Train} {q : List Train} {y : Train} (h : y ∈ replaceTrain x' q) :
    y = x' ∨ y ∈ q ∧ y.number ≠ x'.number := by
  obtain ⟨z, hz, rfl⟩ := List.mem_map.1 h
  split
  · exact .inl rfl
  · next hne => exact .inr ⟨hz, hne⟩

theorem replaceTrain_pairwise {x' : Train} {q : List Train} (h : q.Pairwise fun x y => x.number ≠ y.number) :
    (replaceTrain x' q).Pairwise fun x y => x.number ≠ y.number := by
  have num : ∀ y : Train, (if y.number = x'.number then x' else y).number = y.number := fun y => by
    split <;> simp_all
  exact List.pairwise_map.2 (h.imp fun hne => by rwa [num, num])

/-- Replacing a train by one of the same places changes no name of the queue. -/
theorem replaceTrain_names {x x' : Train} {q : List Train} (hq : q.Pairwise fun x y => x.number ≠ y.number)
    (hx : x ∈ q) (hnum : x'.number = x.number) (hpl : placesOf x' = placesOf x) :
    (replaceTrain x' q).flatMap trainNames = q.flatMap trainNames := by
  have inj := List.inj_on_of_nodup_map (List.pairwise_map.2 hq : (q.map Train.number).Nodup)
  rw [replaceTrain, List.flatMap_map]
  refine List.flatMap_congr fun y hy => ?_
  split
  · next e =>
    rw [inj hy hx (e.trans hnum)]
    simp [trainNames, hpl]
  · rfl

/-- The state a lot leaves QUEUED for, and any other state kept (R4). -/
def leaveQueue (x y : LotState) : LotState := if y = .queued then x else y

/-- A train of a lane is counted further or becomes SHORT, so that it is no longer ANNOUNCED, and some of its QUEUED lots
become READY or MISSING (R4, R26, R29). -/
theorem lotsKept_trainMoves (h : LotsKept s) {x x' : Train} {z : LotState} {f : Lot → Lot} {places : List (Option Nat)}
    {lane : Lane} (hx : x ∈ (s.lane c).trains) (hnum : x'.number = x.number) (hpl : placesOf x' = placesOf x)
    (hann : x'.state ≠ .announced) (hsub : ∀ n, some n ∈ places → some n ∈ placesOf x)
    (hf : ∀ l, (f l).number = l.number) (hst : ∀ l, (f l).state = leaveQueue z l.state)
    (hz : z ≠ .entered ∧ z ≠ .queued ∧ z ≠ .onClock)
    (hlane : lane.trains = replaceTrain x' (s.lane c).trains) : LotsKept ((modLots f places s).setLane c lane) := by
  obtain ⟨hu, hc, hm⟩ := lotsKept_iff.1 h
  rw [← modLots_setLane]
  have st : ∀ m, (modLots f places (s.setLane c lane)).lotState m =
      if some m ∈ places then (s.lotState m).map (leaveQueue z) else s.lotState m :=
    lotState_modLots hf hst (fun y => by simp [leaveQueue]; split <;> simp_all) places
  have lanes : ∀ d, (modLots f places (s.setLane c lane)).lane d = (s.setLane c lane).lane d := by simp
  have names : ∀ d, laneNames (modLots f places (s.setLane c lane)) d = laneNames s d := fun d => by
    rw [laneNames_congr (s := s.setLane c lane) (by rw [lanes])]
    by_cases hd : d = c
    · subst hd
      rw [laneNames_setLane_self, hlane]
      exact replaceTrain_names (hm.trains d) hx hnum hpl
    · exact laneNames_setLane_ne _ hd
  refine lotsKept_iff.2 ⟨?_, hc.of_same (fun m => ?_) (fun _ => ⟨by simp, by simpa using .inl⟩), hm.of_sublist (fun d => ?_) (fun d => by rw [names])
    (fun d m hm' => ?_) fun m hm' => ?_⟩
  · rwa [lotNumbers_modLots hf]
  · rw [st]
    split
    · cases hs : s.lotState m with
      | none => simp
      | some y => by_cases hy : y = .queued <;> simp [leaveQueue, hy, hz.2.2]
    · rfl
  · rw [lanes]
    exact trains_pairwise_setLane hm (hlane ▸ replaceTrain_pairwise (hm.trains c)) d
  · rw [names] at hm'
    obtain ⟨y, hy, hne⟩ := hm.placed d m hm'
    rw [st, hy]
    split
    · refine .inr ⟨leaveQueue z y, rfl, ?_⟩
      by_cases hq : y = .queued <;> simp [leaveQueue, hq, hz.1, hne]
    · exact .inl rfl
  · have hm' : InAnnounced (s.setLane c lane) m := (inAnnounced_congr (fun d => by rw [lanes])).1 hm'
    have old : ∃ d, ∃ y ∈ (s.lane d).trains, y.state = .announced ∧ m ∈ trainNames y ∧ y ≠ x := by
      rcases inAnnounced_setLane hm' with ⟨y, hy, hys, hyn⟩ | ⟨d, hd, y, hy, hys, hyn⟩
      · rcases mem_replaceTrain (hlane ▸ hy) with rfl | ⟨hy, hne⟩
        · exact absurd hys hann
        · exact ⟨c, y, hy, hys, hyn, fun e => hne (by rw [e, hnum])⟩
      · exact ⟨d, y, hy, hys, hyn, fun e => hd (hm.train_unique hy hx hyn (e ▸ hyn)).1⟩
    obtain ⟨d, y, hy, hys, hyn, hne⟩ := old
    have out : some m ∉ places := fun hp =>
      hne (hm.train_unique hy hx hyn (mem_trainNames.2 (hsub m hp))).2
    rw [st, if_neg out, hm.announced m ⟨d, y, hy, hys, hyn⟩]

theorem countFirst_places (l : List Trolley) : (countFirst l).flatMap Trolley.places = l.flatMap Trolley.places := by
  induction l with
  | nil => rfl
  | cons x l ih =>
    simp only [countFirst]
    split <;> simp [ih]

theorem firstUncounted_subset {l : List Trolley} {p : Option Nat} (h : p ∈ firstUncounted l) :
    p ∈ l.flatMap Trolley.places := by
  induction l with
  | nil => simp [firstUncounted] at h
  | cons x l ih =>
    simp only [firstUncounted] at h
    simp only [List.flatMap_cons, List.mem_append]
    split at h
    · exact .inr (ih h)
    · exact .inl h

theorem makeReady_state (l : Lot) : (makeReady l).state = leaveQueue .ready l.state := by
  simp [makeReady, leaveQueue]; split <;> rfl

theorem makeReady_number (l : Lot) : (makeReady l).number = l.number := by simp [makeReady]; split <;> rfl

theorem makeMissing_state (l : Lot) : (makeMissing l).state = leaveQueue .missing l.state := by
  simp [makeMissing, leaveQueue]; split <;> rfl

theorem makeMissing_number (l : Lot) : (makeMissing l).number = l.number := by simp [makeMissing]; split <;> rfl

theorem lotsKept_passage (h : LotsKept s) : LotsKept (passage c s) := by
  simp only [passage]
  split
  · exact lotsKept_raise (lotsKept_setLane h)
  · next x hx =>
    have hmem : x ∈ (s.lane c).trains := List.mem_of_find?_eq_some hx
    have move : ∀ (st : TrainState) (lane : Lane), st ≠ .announced →
        lane.trains = replaceTrain { x with trolleys := countFirst x.trolleys, state := st } (s.lane c).trains →
        LotsKept ((modLots makeReady (firstUncounted x.trolleys) s).setLane c lane) := fun st lane hst hlane =>
      lotsKept_trainMoves (x' := { x with trolleys := countFirst x.trolleys, state := st }) h hmem rfl (countFirst_places x.trolleys) hst (fun n => firstUncounted_subset) makeReady_number
        makeReady_state (by decide) hlane
    split
    · exact lotsKept_raise (move .arrived _ (by decide) rfl)
    · exact move .arriving _ (by decide) rfl

theorem lotsKept_gateChanges (h : LotsKept s) : LotsKept (gateChanges c s) := by
  simp only [gateChanges]
  split
  · split
    · exact lotsKept_passage (lotsKept_setLane h)
    · exact lotsKept_setLane h
  · exact lotsKept_setLane h

/-! ## Departures (R32) -/

theorem lotsKept_departHead (h : LotsKept s) {x : Train} : LotsKept (departHead c x s) := by
  have drop : LotsKept (s.setLane c { s.lane c with trains := (s.lane c).trains.tail }) := by
    obtain ⟨hu, hc, hm⟩ := lotsKept_iff.1 h
    refine lotsKept_iff.2 ⟨hu, hc.of_same (fun _ => .rfl) fun _ => ⟨rfl, .inl⟩,
      hm.of_sublist (trains_pairwise_setLane hm (hm.trains c).tail) (fun d => ?_) (fun _ _ _ => .inl rfl) fun n hn => ?_⟩
    · by_cases hd : d = c
      · subst hd
        rw [laneNames_setLane_self]
        exact (List.tail_sublist _).flatMap _
      · rw [laneNames_setLane_ne _ hd]
    · refine hm.announced n ?_
      rcases inAnnounced_setLane hn with ⟨y, hy, hys, hyn⟩ | ⟨d, -, y, hy, hys, hyn⟩
      · exact ⟨c, y, List.mem_of_mem_tail hy, hys, hyn⟩
      · exact ⟨d, y, hy, hys, hyn⟩
  have lose : LotsKept (modLots losePosition (placesOf x)
      (s.setLane c { s.lane c with trains := (s.lane c).trains.tail })) :=
    lotsKept_of_same drop (lotNumbers_modLots (f := losePosition) (fun _ => rfl) _)
      (fun n => by simp [lotState_modLots (f := losePosition) (g := id) (fun _ => rfl) (fun _ => rfl) (fun _ => rfl)])
      (fun _ => by simp) fun _ => ⟨by simp, by simpa using .inl⟩
  exact lotsKept_congr lose (by simp [departHead]) (by simp [departHead]) (by simp [departHead])

theorem lotsKept_departFrom (h : LotsKept s) {l : List Train} : LotsKept (departFrom c l s) := by
  induction l generalizing s with
  | nil => exact h
  | cons x l ih =>
    simp only [departFrom]
    split
    · exact ih (lotsKept_departHead h)
    · exact h

theorem lotsKept_testDepartures (h : LotsKept s) : LotsKept (testDepartures c s) := lotsKept_departFrom h

theorem lotsKept_gapRunsOut (h : LotsKept s) : LotsKept (gapRunsOut c s) := by
  simp only [gapRunsOut]
  split
  · exact lotsKept_setLane h
  · next x hx =>
    refine lotsKept_testDepartures (lotsKept_raise ?_)
    rw [modLots_setLane]
    refine lotsKept_trainMoves (x' := { x with state := .short }) h (List.mem_of_find?_eq_some hx) rfl rfl (by simp)
      (fun n hn => ?_) makeMissing_number makeMissing_state (by decide) rfl
    obtain ⟨y, hy, hn⟩ := List.mem_flatMap.1 hn
    exact List.mem_flatMap.2 ⟨y, List.mem_of_mem_filter hy, hn⟩

end Sys2Proof.Machine
end

section
/-! LotsKept through the requests of the Lot Store and the Feed Lane Sequencer (1.5, 2.2). -/

set_option Elab.async false

namespace Sys2Proof.Machine

open Sys2Proof.Safety

variable {s t : State} {c : ClockId} {n : Nat}

/-! ## TRAIN-ANNOUNCE (R22, R23) -/

theorem lotChecks_nodup {seen l : List Nat} (h : ∀ b ∈ lotChecks seen l, b = true) :
    l.Nodup ∧ ∀ n ∈ l, n ∉ seen := by
  induction l generalizing seen with
  | nil => simp
  | cons n l ih =>
    simp only [lotChecks, List.mem_cons, forall_eq_or_imp, Bool.and_eq_true, Bool.not_eq_true',
      List.contains_eq_mem, decide_eq_false_iff_not] at h
    obtain ⟨⟨-, hn⟩, hl⟩ := h
    obtain ⟨nodup, fresh⟩ := ih hl
    have hnl : n ∉ l := fun hm => fresh n hm List.mem_cons_self
    refine ⟨List.nodup_cons.2 ⟨hnl, nodup⟩, fun m hm => ?_⟩
    rcases List.mem_cons.1 hm with rfl | hm
    · exact hn
    · exact fun hs => fresh m hm (List.mem_cons_of_mem n hs)

theorem trolleyChecks_nodup {tags seen : List Nat} {q : List TrolleyEntry}
    (h : ∀ b ∈ trolleyChecks tags seen q, b = true) :
    (q.flatMap TrolleyEntry.lots).Nodup ∧ ∀ n ∈ q.flatMap TrolleyEntry.lots, n ∉ seen := by
  induction q generalizing tags seen with
  | nil => simp
  | cons x q ih =>
    simp only [trolleyChecks, List.mem_cons, List.mem_append] at h
    obtain ⟨nodup, fresh⟩ := lotChecks_nodup fun b hb => h b (.inr (.inr (.inl hb)))
    obtain ⟨nodups, freshs⟩ := ih fun b hb => h b (.inr (.inr (.inr hb)))
    simp only [List.mem_append, not_or] at freshs
    simp only [List.flatMap_cons, List.mem_append]
    exact ⟨nodup.append nodups fun n hn hm => (freshs n hm).1 hn,
      fun n hn => hn.elim (fresh n) fun hm => (freshs n hm).2⟩

/-- A manifest without a field at fault names no lot twice. -/
theorem announceFault_nodup {a : TrainAnnouncement} (h : announceFault a = none) :
    (a.trolleys.flatMap TrolleyEntry.lots).Nodup :=
  (trolleyChecks_nodup fun b hb => firstFault_eq_none_iff.1 h b (List.mem_append_right _ hb)).1

theorem announceLotFault_eq_none {l : List Nat} (h : announceLotFault s l = none) :
    ∀ n ∈ l, s.lotState n = some .entered := by
  induction l with
  | nil => simp
  | cons m l ih =>
    simp only [announceLotFault] at h
    split at h
    · cases h
    · next x hx =>
      split at h
      · next he =>
        intro n hn
        rcases List.mem_cons.1 hn with rfl | hn
        · rw [State.lotState_of_lot hx, he]
        · exact ih h n hn
      · cases h

/-- What the queueing of a list of lots does: their states become QUEUED, and no other part of LotsKept changes. -/
structure QueuedFrom (l : List Nat) (s t : State) : Prop where
  numbers : t.lotNumbers = s.lotNumbers
  states : ∀ m, t.lotState m = if m ∈ l then (s.lotState m).map fun _ => .queued else s.lotState m
  lanes : t.lanes = s.lanes
  clocks : t.clocks = s.clocks

theorem QueuedFrom.trans {k l : List Nat} {u : State} (h : QueuedFrom k s t) (h' : QueuedFrom l t u) :
    QueuedFrom (k ++ l) s u where
  numbers := h'.numbers.trans h.numbers
  states m := by
    rw [h'.states, h.states]
    by_cases hk : m ∈ k <;> by_cases hl : m ∈ l <;> simp [hk, hl, Function.comp_def]
  lanes := h'.lanes.trans h.lanes
  clocks := h'.clocks.trans h.clocks

theorem queuePlaces_queues (train trolley place : Nat) (l : List Nat) :
    QueuedFrom l s (queuePlaces c train trolley place l s) := by
  induction l generalizing s place with
  | nil => exact ⟨rfl, fun m => by simp [queuePlaces], rfl, rfl⟩
  | cons n l ih =>
    have one : QueuedFrom [n] s (s.modLot n fun l => { l with
        state := .queued, position := some { lane := c, train := train, trolley := trolley, place := place } }) := by
      refine ⟨lotNumbers_modLot fun _ => rfl, fun m => ?_, rfl, rfl⟩
      rw [lotState_modLot (by simp)]
      by_cases hm : m = n <;> simp [hm, State.lotState, Function.comp_def]
    exact one.trans (ih (place + 1))

theorem queueTrolleys_queues (train trolley : Nat) (q : List TrolleyEntry) :
    QueuedFrom (q.flatMap TrolleyEntry.lots) s (queueTrolleys c train trolley q s) := by
  induction q generalizing s trolley with
  | nil => exact ⟨rfl, fun m => by simp [queueTrolleys], rfl, rfl⟩
  | cons x q ih =>
    simp only [queueTrolleys, List.flatMap_cons]
    exact (queuePlaces_queues train trolley 1 x.lots).trans (ih (trolley + 1))

theorem trainNames_announcedTrain (a : TrainAnnouncement) :
    trainNames (announcedTrain a) = a.trolleys.flatMap TrolleyEntry.lots := by
  simp [trainNames, announcedTrain, placesOf, List.flatMap_map, List.filterMap_flatMap, List.filterMap_map]

/-- Where every lot of the list was ENTERED, each is QUEUED afterwards, whatever lane changed before. -/
theorem QueuedFrom.lotState_of_entered {l : List Nat} {x : Lane} (hq : QueuedFrom l (s.setLane c x) t)
    (hent : ∀ n ∈ l, s.lotState n = some .entered) (m : Nat) :
    t.lotState m = if m ∈ l then some .queued else s.lotState m := by
  rw [hq.states]
  split
  · next hml =>
    show (s.lotState m).map _ = _
    rw [hent m hml]; rfl
  · rfl

theorem QueuedFrom.lane {l : List Nat} (hq : QueuedFrom l s t) (d : ClockId) : t.lane d = s.lane d := by
  simp only [State.lane, hq.lanes]

theorem laneNames_announce {a : TrainAnnouncement} {x : Lane}
    (hx : x.trains = (s.lane c).trains ++ [announcedTrain a]) (d : ClockId) :
    laneNames (s.setLane c x) d = laneNames s d ++ if d = c then trainNames (announcedTrain a) else [] := by
  split
  · next e => subst e; rw [laneNames_setLane_self, hx]; simp [laneNames]
  · next e => rw [laneNames_setLane_ne _ e, List.append_nil]

/-- A train with a free number and ENTERED lots joins a lane's queue, its lots QUEUED: the names it brings stand at no
place yet, since the lots at a place are not ENTERED. -/
theorem ManifestsHold.announce (hm : ManifestsHold s) {a : TrainAnnouncement} {l : List Nat}
    (hl : trainNames (announcedTrain a) = l)
    (hfree : ∀ x ∈ (s.lane c).trains, x.number ≠ a.train) (hnodup : l.Nodup)
    (hent : ∀ n ∈ l, s.lotState n = some .entered) {x : Lane} (hx : x.trains = (s.lane c).trains ++ [announcedTrain a])
    (hq : QueuedFrom l (s.setLane c x) t) : ManifestsHold t := by
  have out : ∀ d, ∀ m ∈ laneNames s d, m ∉ l := fun d m hmd hml => by
    obtain ⟨y, hy, hne⟩ := hm.placed d m hmd
    rw [hent m hml] at hy
    exact hne (Option.some.inj hy).symm
  have names : ∀ d, laneNames t d = laneNames s d ++ if d = c then l else [] := fun d => by
    rw [laneNames_congr (s := s.setLane c x) (by rw [hq.lane]), laneNames_announce hx, hl]
  refine ⟨fun d => ?trains, fun d m hmd => ?placed, fun d => ?nodup, fun d e hde m hmd hme => ?disjoint,
    fun m hma => ?announced⟩
  case trains =>
    rw [hq.lane]
    refine trains_pairwise_setLane hm ?_ d
    rw [hx]
    exact List.pairwise_append.2 ⟨hm.trains c, List.pairwise_singleton _ _, by simpa [announcedTrain] using hfree⟩
  case placed =>
    rw [hq.lotState_of_entered hent]
    split
    · exact ⟨_, rfl, by simp⟩
    · next hml =>
      rw [names, List.mem_append] at hmd
      refine hm.placed d m (hmd.resolve_right fun hr => hml ?_)
      split at hr
      · exact hr
      · cases hr
  case nodup =>
    rw [names]
    split
    · exact (hm.nodup d).append hnodup fun m hmd => out d m hmd
    · simpa using hm.nodup d
  case disjoint =>
    rw [names, List.mem_append] at hmd hme
    rcases hmd with hmd | hmd <;> rcases hme with hme | hme
    · exact hm.disjoint d e hde hmd hme
    · split at hme
      · exact out d m hmd hme
      · cases hme
    · split at hmd
      · exact out e m hme hmd
      · cases hmd
    · split at hmd <;> split at hme <;> simp_all
  case announced =>
    rw [hq.lotState_of_entered hent]
    split
    · rfl
    · next hml =>
      refine hm.announced m ?_
      rcases inAnnounced_setLane ((inAnnounced_congr fun d => by rw [hq.lane]).1 hma) with
        ⟨y, hy, hys, hyn⟩ | ⟨d, -, y, hy, hys, hyn⟩
      · rw [hx, List.mem_append, List.mem_singleton] at hy
        rcases hy with hy | rfl
        · exact ⟨c, y, hy, hys, hyn⟩
        · exact absurd (hl ▸ hyn) hml
      · exact ⟨d, y, hy, hys, hyn⟩

theorem lotsKept_announce (h : LotsKept s) {a : TrainAnnouncement} {l : List Nat}
    (hl : trainNames (announcedTrain a) = l)
    (hfree : ∀ x ∈ (s.lane c).trains, x.number ≠ a.train) (hnodup : l.Nodup)
    (hent : ∀ n ∈ l, s.lotState n = some .entered) {x : Lane} (hx : x.trains = (s.lane c).trains ++ [announcedTrain a])
    (hq : QueuedFrom l (s.setLane c x) t) : LotsKept t := by
  obtain ⟨hu, hc, hm⟩ := lotsKept_iff.1 h
  refine lotsKept_iff.2 ⟨hq.numbers ▸ hu, hc.of_same (fun m => ?_) (fun d => ?_), hm.announce hl hfree hnodup hent hx hq⟩
  · rw [hq.lotState_of_entered hent]
    split
    · next hml => simp [hent m hml]
    · rfl
  · simpa [State.clock, hq.clocks] using .inl

theorem lotsKept_doTrainAnnounce (h : LotsKept s) {a : TrainAnnouncement} : LotsKept (doTrainAnnounce a s).state := by
  simp only [doTrainAnnounce]
  split
  · exact h
  · exact h
  · next d hf hd =>
    split
    · exact h
    · next hnum =>
      split
      · exact h
      · split
        · exact h
        · next hlots =>
          exact lotsKept_announce h (trainNames_announcedTrain a) (by simpa using hnum) (announceFault_nodup hf)
            (announceLotFault_eq_none hlots) rfl (queueTrolleys_queues _ _ _)

/-! ## TRAIN-CANCEL (R24) -/

/-- A lane's queue without its ANNOUNCED train `x`, whose lots go back to ENTERED. -/
theorem lotsKept_cancel (h : LotsKept s) {x : Train} (hx : x ∈ (s.lane c).trains) (hst : x.state = .announced)
    {lane : Lane} (hlane : lane.trains = (s.lane c).trains.filter fun y => y.number ≠ x.number) :
    LotsKept (modLots makeEntered (placesOf x) (s.setLane c lane)) := by
  obtain ⟨hu, hc, hm⟩ := lotsKept_iff.1 h
  have st : ∀ m, (modLots makeEntered (placesOf x) (s.setLane c lane)).lotState m =
      if m ∈ trainNames x then (s.lotState m).map fun _ => .entered else s.lotState m := fun m => by
    rw [lotState_modLots (f := makeEntered) (g := fun _ => .entered) (fun _ => rfl) (fun _ => rfl) (fun _ => rfl)]
    simp only [mem_trainNames]
    rfl
  have queued : ∀ m ∈ trainNames x, s.lotState m = some .queued := fun m hmx => hm.announced m ⟨c, x, hx, hst, hmx⟩
  have lanes : ∀ d, (modLots makeEntered (placesOf x) (s.setLane c lane)).lane d = (s.setLane c lane).lane d := by simp
  have kept : ∀ d, ∀ y ∈ ((s.setLane c lane).lane d).trains, y ∈ (s.lane d).trains ∧ ∀ m ∈ trainNames y, m ∉ trainNames x :=
      fun d y hy => by
    by_cases hd : d = c
    · subst hd
      simp only [State.setLane_lane_self, hlane, List.mem_filter, decide_eq_true_eq] at hy
      exact ⟨hy.1, fun m hmy hmx => hy.2 (by rw [(hm.train_unique hy.1 hx hmy hmx).2])⟩
    · rw [State.setLane_lane_ne _ _ _ _ hd] at hy
      exact ⟨hy, fun m hmy hmx => hd (hm.train_unique hy hx hmy hmx).1⟩
  refine lotsKept_iff.2 ⟨?_, hc.of_same (fun m => ?_) (fun _ => ⟨by simp, by simpa using .inl⟩), hm.of_sublist (fun d => ?_) (fun d => ?_)
    (fun d m hmd => .inl ?_) fun m hma => ?_⟩
  · rwa [lotNumbers_modLots (f := makeEntered) fun _ => rfl]
  · rw [st]
    split
    · next hmx => simp [queued m hmx]
    · rfl
  · rw [lanes]
    exact trains_pairwise_setLane hm (hlane ▸ (hm.trains c).filter _) d
  · rw [laneNames_congr (s := s.setLane c lane) (by rw [lanes])]
    by_cases hd : d = c
    · subst hd
      rw [laneNames_setLane_self, hlane]
      exact List.filter_sublist.flatMap _
    · rw [laneNames_setLane_ne _ hd]
  · obtain ⟨y, hy, hmy⟩ := mem_laneNames.1 hmd
    rw [st, if_neg ((kept d y (lanes d ▸ hy)).2 m hmy)]
  · obtain ⟨d, y, hy, hys, hmy⟩ := hma
    obtain ⟨hy, out⟩ := kept d y (lanes d ▸ hy)
    rw [st, if_neg (out m hmy), hm.announced m ⟨d, y, hy, hys, hmy⟩]

theorem lotsKept_doTrainCancel (h : LotsKept s) {lane train : Nat} : LotsKept (doTrainCancel lane train s).state := by
  simp only [doTrainCancel]
  split
  · exact h
  · exact h
  · split
    · exact h
    · next x hx =>
      split
      · next hst =>
        have hnum : x.number = train := by simpa using List.find?_some hx
        exact lotsKept_cancel h (List.mem_of_find?_eq_some hx) hst (hnum ▸ rfl)
      · exact h

/-! ## LOT-ENTER (R10, R11) -/

theorem newLot_number {a : LotFields} {l : Lot} (h : newLot a = some l) : l.number = a.number ∧ l.state = .entered := by
  obtain ⟨q, -, rfl⟩ := Option.map_eq_some_iff.1 h
  exact ⟨rfl, rfl⟩

/-- An ENTERED lot of a free number joins the store. -/
theorem lotsKept_enter (h : LotsKept s) {l : Lot} (hn : s.lot l.number = none) (hl : l.state = .entered)
    (hlots : t.lots = insertKey Lot.number l s.lots) (hlanes : t.lanes = s.lanes) (hclocks : t.clocks = s.clocks) :
    LotsKept t := by
  obtain ⟨hu, hc, hm⟩ := lotsKept_iff.1 h
  have st : ∀ m, t.lotState m = if m = l.number then some .entered else s.lotState m := fun m => by
    simp only [State.lotState, State.lot, hlots]
    split
    · next e => rw [e, findKey_insertKey_self hn, Option.map_some, hl]
    · next e => rw [findKey_insertKey_ne (Ne.symm e)]
  have none : s.lotState l.number = none := by simp [State.lotState, hn]
  refine lotsKept_iff.2 ⟨?_, hc.of_same (fun m => ?_) (fun c => by simpa [State.clock, hclocks] using .inl),
    hm.of_same_places (fun c => by simp [State.lane, hlanes]) fun c m hmc => ?_⟩
  · rw [State.lotNumbers, hlots, ((insertKey_perm l s.lots).map Lot.number).nodup_iff, List.map_cons, List.nodup_cons]
    refine ⟨fun hmem => ?_, hu⟩
    obtain ⟨x, hx, hxn⟩ := List.mem_map.1 hmem
    exact findKey_eq_none_iff.1 hn x hx hxn
  · rw [st]
    split
    · next e => simp [e, none]
    · rfl
  · obtain ⟨x, hx, -⟩ := hm.placed c m hmc
    exact .inl (by rw [st, if_neg fun e => by simp [e, none] at hx])

theorem lotsKept_doLotEnter (h : LotsKept s) {a : LotFields} : LotsKept (doLotEnter a s).state := by
  simp only [doLotEnter]
  split
  · exact h
  · exact h
  · next l _ hl =>
    obtain ⟨hnum, hst⟩ := newLot_number hl
    split
    · exact h
    · next hn =>
      split
      · exact h
      · exact lotsKept_enter h (hnum ▸ by simpa using hn) hst rfl rfl rfl

/-! ## LOT-AMEND (R13) and LOT-REMOVE (R14) -/

theorem lotsKept_doLotAmend (h : LotsKept s) {a : LotAmendment} : LotsKept (doLotAmend a s).state := by
  simp only [doLotAmend]
  split
  · exact h
  · split
    · split
      · exact h
      · exact lotsKept_modLot h
    · exact h

/-- A train with the places of one lot vacant, as `vacate` leaves it. -/
def vacateTrain (n : Nat) (x : Train) : Train :=
  { x with trolleys := x.trolleys.map fun y => { y with places := y.places.map fun p => if p = some n then none else p } }

theorem vacate_trains (x : Lane) : (vacate n x).trains = x.trains.map (vacateTrain n) := rfl

theorem trainNames_vacateTrain (x : Train) : trainNames (vacateTrain n x) = (trainNames x).filter (· ≠ n) := by
  have places : placesOf (vacateTrain n x) = (placesOf x).map fun p => if p = some n then none else p := by
    simp [placesOf, vacateTrain, List.flatMap_map, List.map_flatMap]
  rw [trainNames, places, trainNames, List.filterMap_map, List.filter_filterMap]
  refine List.filterMap_congr fun p _ => ?_
  cases p with
  | none => rfl
  | some m => by_cases hm : m = n <;> simp [hm, Option.filter]

theorem laneNames_vacate (h : (t.lane c).trains = (vacate n (s.lane c)).trains) :
    laneNames t c = (laneNames s c).filter (· ≠ n) := by
  simp only [laneNames, h, vacate_trains, List.flatMap_map, trainNames_vacateTrain, List.filter_flatMap]

/-- A lot that is not ON_CLOCK leaves the store, and its places become vacant. -/
theorem lotsKept_remove (h : LotsKept s) (hn : s.lotState n ≠ some .onClock) (hlots : t.lots = dropKey Lot.number n s.lots)
    (hlanes : ∀ c, (t.lane c).trains = (vacate n (s.lane c)).trains) (hclocks : t.clocks = s.clocks) : LotsKept t := by
  obtain ⟨hu, hc, hm⟩ := lotsKept_iff.1 h
  have st : ∀ m, m ≠ n → t.lotState m = s.lotState m := fun m hmn => by
    simp only [State.lotState, State.lot, hlots, findKey_dropKey_ne hmn]
  have gone : t.lotState n = none := by
    simp only [State.lotState, State.lot, hlots, Option.map_eq_none_iff, findKey_eq_none_iff, dropKey, List.mem_filter,
      decide_eq_true_eq]
    exact fun x hx => hx.2
  have names : ∀ c, ∀ m ∈ laneNames t c, m ≠ n := fun c m hmc => by
    rw [laneNames_vacate (hlanes c)] at hmc
    simpa using (List.mem_filter.1 hmc).2
  refine lotsKept_iff.2 ⟨?_, hc.of_same (fun m => ?_) (fun c => by simpa [State.clock, hclocks] using .inl),
    hm.of_sublist (fun c => ?_) (fun c => ?_) (fun c m hmc => .inl (st m (names c m hmc))) fun m hma => ?_⟩
  · rw [State.lotNumbers, hlots]
    exact hu.sublist (List.filter_sublist.map _)
  · by_cases hmn : m = n
    · simp [hmn, gone, hn]
    · rw [st m hmn]
  · rw [hlanes, vacate_trains]
    exact List.pairwise_map.2 (hm.trains c)
  · rw [laneNames_vacate (hlanes c)]
    exact List.filter_sublist
  · obtain ⟨c, x, hx, hxs, hmx⟩ := hma
    have hmn : m ≠ n := names c m (mem_laneNames.2 ⟨x, hx, hmx⟩)
    rw [hlanes, vacate_trains] at hx
    obtain ⟨y, hy, rfl⟩ := List.mem_map.1 hx
    rw [trainNames_vacateTrain] at hmx
    rw [st m hmn, hm.announced m ⟨c, y, hy, hxs, (List.mem_filter.1 hmx).1⟩]

theorem lotsKept_doLotRemove (h : LotsKept s) : LotsKept (doLotRemove n s).state := by
  simp only [doLotRemove]
  split
  · exact h
  · next l hl =>
    split
    · next hr =>
      refine lotsKept_remove h ?_ rfl (fun c => ?_) rfl
      · rw [State.lotState_of_lot hl]
        intro hst
        simp [removable_iff, Option.some.inj hst] at hr
      · simp [accept, State.lane]
    · exact h

/-! ## LANE-SET (R33) -/

theorem lotsKept_doLaneSet (h : LotsKept s) {a : LaneSettings} : LotsKept (doLaneSet a s).state := by
  simp only [doLaneSet]
  split
  · exact h
  · split
    · exact lotsKept_setLane h
    · exact lotsKept_of_same h rfl (fun _ => rfl) (fun c => by simp [accept, State.lane, setLaneValues]) fun _ => ⟨rfl, .inl⟩

end Sys2Proof.Machine
end

section
/-! LotsKept through the moves of the Clock Engine (chapter 4) and of the boards that reach it. -/

set_option Elab.async false

namespace Sys2Proof.Machine

open Sys2Proof.Safety

variable {s t : State} {c : ClockId} {n : Nat}

/-! ## Reservations and the run (R64 to R66) -/

theorem lotsKept_grant (h : LotsKept s) : LotsKept (grant c s) := lotsKept_setClock h

theorem lotsKept_askLater (h : LotsKept s) : LotsKept (askLater c s) := lotsKept_setClock h

theorem lotsKept_defer (h : LotsKept s) : LotsKept (defer c s) := lotsKept_congr h

theorem lotsKept_leaveLoaded (h : LotsKept s) : LotsKept (leaveLoaded c s) :=
  lotsKept_setJournal (lotsKept_setClock h)

theorem lotsKept_startStep (h : LotsKept s) : LotsKept (startStep c s) := lotsKept_setClock h

theorem lotsKept_runClock (h : LotsKept s) : LotsKept (runClock c s) :=
  lotsKept_markChanged (lotsKept_handTick (lotsKept_startStep
    (lotsKept_setClock (lotsKept_leaveLoaded h) (by simp [Bare]))))

theorem lotsKept_enterHeld (h : LotsKept s) {cause : HoldCause} : LotsKept (enterHeld c cause s) :=
  lotsKept_askUpdate (lotsKept_raise (lotsKept_setClock h (by simp [Bare])))

theorem lotsKept_testNew (h : LotsKept s) : LotsKept (testNew c s) := by
  simp only [testNew]
  split
  · split
    · exact lotsKept_defer h
    · split
      · exact lotsKept_runClock (lotsKept_grant h)
      · exact lotsKept_askLater h
  · exact h

theorem lotsKept_testRestart (h : LotsKept s) : LotsKept (testRestart c s) := by
  simp only [testRestart]
  split
  · exact lotsKept_enterHeld (lotsKept_leaveLoaded h)
  · split
    · exact lotsKept_runClock h
    · exact h

theorem lotsKept_askRestart (h : LotsKept s) : LotsKept (askRestart c s) := by
  simp only [askRestart]
  split
  · exact lotsKept_defer h
  · split
    · exact lotsKept_testRestart (lotsKept_grant h)
    · exact lotsKept_askLater h

/-! ## Tellings (R63, R64, R152) -/

theorem lotsKept_tellClock (h : LotsKept s) : LotsKept (tellClock c s) := by
  simp only [tellClock]
  split
  · exact lotsKept_testNew h
  · split
    · exact lotsKept_testRestart h
    · exact h
  · exact h

theorem lotsKept_tellSpace (h : LotsKept s) : LotsKept (tellSpace c s) := by
  simp only [tellSpace]
  split
  · exact lotsKept_testNew h
  · split
    · exact lotsKept_testRestart h
    · exact lotsKept_askRestart h
  · exact h

theorem lotsKept_releaseDeferred (h : LotsKept s) : LotsKept (releaseDeferred c s) := by
  simp only [releaseDeferred]
  split
  · exact lotsKept_testNew h
  · split
    · exact h
    · exact lotsKept_askRestart h
  · exact h

/-! ## Holds (R72) -/

theorem lotsKept_holdClock (h : LotsKept s) {cause : HoldCause} : LotsKept (holdClock c cause s) := by
  have pend : LotsKept (s.setClock c { s.clock c with
      holdPending := some ((s.clock c).holdPending.getD cause) }) := lotsKept_setClock h
  simp only [holdClock]
  split
  · exact lotsKept_enterHeld h
  · exact pend
  · exact pend
  · exact pend
  · exact h
  · exact h
  · exact h
  · exact h

/-! ## Taking and ending a lot (R62, R71) -/

/-- A clock that may take a lot is IDLE, and the lot is READY (R62). -/
theorem mayTake_spec {l : Lot} (h : mayTake s c = some l) :
    (s.clock c).state = .idle ∧ l.state = .ready ∧ s.lot l.number = some l := by
  unfold mayTake at h
  split at h
  · next x hx =>
    split at h
    · next hc =>
      obtain ⟨hidle, hready, -⟩ := hc
      cases h
      obtain ⟨p, -, hp⟩ := Option.bind_eq_some_iff.1 hx
      obtain ⟨n, -, hn⟩ := Option.bind_eq_some_iff.1 hp
      exact ⟨hidle, hready, State.lot_number hn ▸ hn⟩
    · cases h
  · cases h

theorem lotsKept_takeLot (h : LotsKept s) {l : Lot} (hl : mayTake s c = some l) : LotsKept (takeLot c l s) := by
  obtain ⟨hidle, hready, hlot⟩ := mayTake_spec hl
  have hn : s.lotState l.number = some .ready := by rw [State.lotState_of_lot hlot, hready]
  exact lotsKept_take (f := fun l => { l with state := .onClock }) h (fun _ => rfl) (fun _ => rfl) hn
    (h.bare c (.inl hidle)) (by simp [takeLot]) (by simp) (by simp [takeLot]) (by simp [takeLot, Bare])
    fun d hd => by simp [takeLot, State.setClock_clock_ne _ _ _ _ hd]

theorem currentLot_spec {l : Lot} (h : s.currentLot c = some l) :
    (s.clock c).lot = some l.number ∧ s.lot l.number = some l := by
  obtain ⟨n, hc, hn⟩ := Option.bind_eq_some_iff.1 h
  rw [State.lot_number hn]
  exact ⟨hc, hn⟩

theorem endStateOf_out (l : Lot) : endStateOf l ≠ .onClock ∧ endStateOf l ≠ .entered := by
  unfold endStateOf
  split
  · decide
  · split <;> decide

theorem leaveLoaded_clock_ne {d : ClockId} (h : d ≠ c) : (leaveLoaded c s).clock d = s.clock d :=
  State.setClock_clock_ne _ _ _ _ h

theorem leaveLoaded_clock_lot : ((leaveLoaded c s).clock c).lot = (s.clock c).lot := by simp [leaveLoaded]

/-- A clock that has left LOADED is emptied, its lot in a state that is neither ON_CLOCK nor ENTERED. -/
theorem lotsKept_emptyClock (h : LotsKept s) {f : Lot → Lot} (hn : (s.clock c).lot = some n)
    (hf : ∀ l, (f l).number = l.number) (hst : ∀ l, (f l).state ≠ .onClock ∧ (f l).state ≠ .entered) {x : Clock}
    {st : ClockState} : LotsKept ((leaveLoaded c (s.modLot n f)).setClock c (emptyClock x st)) :=
  lotsKept_release h hn hf hst (by simp) (by simp) (by simp [emptyClock]) fun d hd => by
    rw [State.setClock_clock_ne _ _ _ _ hd, leaveLoaded_clock_ne hd]; rfl

theorem lotsKept_endLot (h : LotsKept s) {cause : LotEndCause} : LotsKept (endLot c cause s) := by
  simp only [endLot]
  split
  · exact h
  · next l hl =>
    exact lotsKept_askUpdate (lotsKept_testDepartures (lotsKept_raise (lotsKept_raise (lotsKept_setLotMark
      (lotsKept_emptyClock (f := fun l => { l with state := endStateOf l }) h (currentLot_spec hl).1 (fun _ => rfl)
        endStateOf_out)))))

/-! ## Steps, pauses, trading close and reopening (R67, R70, R77, R78) -/

theorem lotsKept_writeNoSale (h : LotsKept s) {cause : NoSaleCause} : LotsKept (writeNoSale c cause s) := by
  simp only [writeNoSale]
  split
  · exact lotsKept_setClock (lotsKept_congr h)
  · exact h

theorem lotsKept_stepClock (h : LotsKept s) : LotsKept (stepClock c s) := by
  simp only [stepClock]
  split
  · split
    · exact lotsKept_markChanged (lotsKept_handTick (lotsKept_startStep (lotsKept_setClock h)))
    · exact lotsKept_endLot (lotsKept_writeNoSale h)
  · exact h

theorem lotsKept_restartClock (h : LotsKept s) : LotsKept (restartClock c s) := by
  simp only [restartClock]
  split
  · exact lotsKept_askRestart (lotsKept_askUpdate (lotsKept_setClock h (by simp [Bare])))
  · exact h

theorem lotsKept_closeClock (h : LotsKept s) : LotsKept (closeClock c s) := by
  have flag : LotsKept (s.setClock c { s.clock c with closing := true }) := lotsKept_setClock h
  simp only [closeClock]
  split
  · next hst => exact lotsKept_raise (lotsKept_setClock flag fun _ => .inl (.inl hst))
  · refine lotsKept_askUpdate (lotsKept_raise (lotsKept_setLotMark ?_))
    split
    · next n hn => exact lotsKept_emptyClock (f := fun l => { l with state := .ready }) flag hn (fun _ => rfl) (by simp)
    · next hn =>
      rw [← leaveLoaded_clock_lot] at hn
      exact lotsKept_setClock (lotsKept_leaveLoaded flag) (fun _ => .inr hn) hn.symm
  · exact flag

theorem lotsKept_openClock (h : LotsKept s) : LotsKept (openClock c s) := by
  have flag : LotsKept (s.setClock c { s.clock c with closing := false }) := lotsKept_setClock h
  simp only [openClock]
  split
  · next hst => exact lotsKept_raise (lotsKept_setClock flag fun _ => .inl (.inr hst))
  · exact flag

/-! ## Board events that reach the clock (R175, R176) -/

theorem lotsKept_linkFree (h : LotsKept s) : LotsKept (linkFree c s) := lotsKept_congr h

theorem lotsKept_missBoard (h : LotsKept s) : LotsKept (missBoard c s) := by
  simp only [missBoard]
  split
  · exact lotsKept_holdClock (lotsKept_raise (lotsKept_setBoard h))
  · exact lotsKept_linkFree (lotsKept_setBoard h)

theorem lotsKept_goodAnswer (h : LotsKept s) : LotsKept (goodAnswer c s) := by
  simp only [goodAnswer]
  split
  · exact lotsKept_linkFree (lotsKept_setBoard h)
  · exact lotsKept_tellClock (lotsKept_sendDisplay (lotsKept_raise (lotsKept_setBoard h)))

end Sys2Proof.Machine
end

section
/-! LotsKept through the Settlement Unit, the arbiter and the stop decision (chapters 6 to 8). -/

set_option Elab.async false

namespace Sys2Proof.Machine

open Sys2Proof.Safety

variable {s t : State} {c : ClockId} {n : Nat}

/-! ## Records of the ledger, the desks and the bus -/

theorem lotsKept_count (h : LotsKept s) {f : LedgerCounters → LedgerCounters} : LotsKept (s.count f) := lotsKept_congr h

theorem lotsKept_modBuyer (h : LotsKept s) {f : Buyer → Buyer} : LotsKept (s.modBuyer n f) := lotsKept_congr h

theorem lotsKept_modInvoice (h : LotsKept s) {f : Invoice → Invoice} : LotsKept (s.modInvoice n f) := lotsKept_congr h

theorem lotsKept_setLastSale (h : LotsKept s) {x : Option LastSale} : LotsKept (s.setLastSale c x) := lotsKept_congr h

theorem lotsKept_writeLine (h : LotsKept s) {l : JournalLine} : LotsKept (writeLine l s) := lotsKept_congr h

theorem lotsKept_refusePress (h : LotsKept s) {d : DeskId} {x : DeskRefusal} : LotsKept (refusePress d x c s) :=
  lotsKept_congr h

theorem lotsKept_pulseRefused (h : LotsKept s) {d : DeskId} : LotsKept (pulseRefused d s) := lotsKept_congr h

theorem lotsKept_pulseWin (h : LotsKept s) {d : DeskId} : LotsKept (pulseWin d s) := lotsKept_congr h

/-! ## SALE-COMMIT (R139) -/

theorem lotsKept_openInvoice (h : LotsKept s) {buyer first : Nat} : LotsKept (openInvoice buyer first s) :=
  lotsKept_elsewhere h

theorem lotsKept_writeSale (h : LotsKept s) {r : CommitRequest} {f : SaleFigures} : LotsKept (writeSale c r f s) := by
  unfold writeSale
  extract_lets seq opened number written clock unreserved invoiced charged sold last
  have hopened : LotsKept opened := by
    unfold opened
    split
    · exact h
    · exact lotsKept_openInvoice h
  have hunreserved : LotsKept unreserved := lotsKept_setClock (lotsKept_writeLine hopened)
  have hsold : LotsKept sold := lotsKept_modLot (lotsKept_modBuyer (lotsKept_modInvoice hunreserved))
  exact lotsKept_count (lotsKept_setLastSale hsold)

theorem lotsKept_countRefusal (h : LotsKept s) {x : CommitRefusal} : LotsKept (countRefusal x s) :=
  lotsKept_elsewhere h

theorem lotsKept_commitChanges (h : LotsKept s) {r : CommitRequest} {a : CommitAnswer} :
    LotsKept (commitChanges c r a s) := by
  cases a with
  | accepted f => exact lotsKept_writeSale h
  | refused x => exact lotsKept_countRefusal h

/-! ## Host ledger requests (R128 to R131, R141, R156 to R163) -/

theorem lotsKept_closeInvoice (h : LotsKept s) : LotsKept (closeInvoice n s) := by
  simp only [closeInvoice]
  split
  · exact h
  · exact lotsKept_modBuyer (lotsKept_modInvoice h)

theorem lotsKept_applyClose (h : LotsKept s) : LotsKept (applyClose n s).state := by
  simp only [applyClose]
  split
  · exact h
  · exact lotsKept_closeInvoice h

theorem lotsKept_applyDayClose (h : LotsKept s) : LotsKept (applyDayClose s).state :=
  lotsKept_foldl (fun _ _ hs => lotsKept_closeInvoice hs) _ h

theorem lotsKept_writeVoid (h : LotsKept s) {l : JournalLine} : LotsKept (writeVoid l s) := by
  refine lotsKept_setBoard ?_
  split
  · split
    · exact lotsKept_setLastSale (lotsKept_modInvoice (lotsKept_modBuyer (lotsKept_modLot
        (lotsKept_setJournal (lotsKept_writeLine h)))))
    · exact lotsKept_modInvoice (lotsKept_modBuyer (lotsKept_modLot (lotsKept_setJournal (lotsKept_writeLine h))))
  · exact lotsKept_modInvoice (lotsKept_modBuyer (lotsKept_modLot (lotsKept_setJournal (lotsKept_writeLine h))))

theorem lotsKept_applyVoid (h : LotsKept s) : LotsKept (applyVoid n s).state := by
  simp only [applyVoid]
  split
  · exact h
  · split
    · exact h
    · exact lotsKept_writeVoid h

theorem lotsKept_applyPayment (h : LotsKept s) : LotsKept (applyPayment n s).state := by
  simp only [applyPayment]
  split
  · exact h
  · exact lotsKept_elsewhere h

theorem lotsKept_applyRequest (h : LotsKept s) {r : LedgerRequest} : LotsKept (applyRequest s r).state := by
  cases r with
  | buyerEnter a => exact lotsKept_elsewhere h
  | buyerFlags a =>
    simp only [applyRequest]
    split <;> exact lotsKept_modBuyer h
  | buyerLimit number limit => exact lotsKept_modBuyer h
  | buyerRemove number =>
    simp only [applyRequest]
    split
    · exact lotsKept_elsewhere h
    · exact h
  | tariffSet feeClass rate =>
    simp only [applyRequest]
    split
    · exact lotsKept_elsewhere h
    · exact h
  | saleVoid n => exact lotsKept_applyVoid h
  | paymentPost n => exact lotsKept_applyPayment h
  | invoiceClose which =>
    simp only [applyRequest]
    split
    · exact lotsKept_applyClose h
    · exact h
  | dayClose => exact lotsKept_applyDayClose h

theorem lotsKept_requestChanges (h : LotsKept s) {r : LedgerRequest} {v : Service} :
    LotsKept (requestChanges r v s).state := by
  cases v with
  | refuse status body => exact h
  | go => exact lotsKept_applyRequest h

/-! ## The arbiter (R134, R135) -/

theorem lotsKept_serveChoice (h : LotsKept s) {x : Choice} : LotsKept (serveChoice x s) := by
  simp only [serveChoice]
  split
  · split
    · exact lotsKept_setArbiter h
    · exact h
  · split
    · exact lotsKept_setArbiter h
    · exact h
  · exact h

theorem lotsKept_serveWaiting (h : LotsKept s) : LotsKept (serveWaiting s) := by
  simp only [serveWaiting]
  split
  · exact lotsKept_serveChoice h
  · exact h

theorem lotsKept_dropWaiting (h : LotsKept s) : LotsKept (dropWaiting s) := lotsKept_setArbiter h

theorem lotsKept_placeCommit (h : LotsKept s) : LotsKept (placeCommit c s) := by
  simp only [placeCommit]
  split
  · exact lotsKept_setArbiter h
  · exact h

theorem lotsKept_enterDeciding (h : LotsKept s) : LotsKept (enterDeciding c s) :=
  lotsKept_serveWaiting (lotsKept_placeCommit (lotsKept_setClock h (by simp [Bare])))

/-! ## The clock's part in a completion (R116 to R120) -/

theorem lotsKept_allRefused (h : LotsKept s) : LotsKept (allRefused c s) := by
  simp only [allRefused]
  split
  · exact lotsKept_enterHeld h
  · exact lotsKept_askUpdate (lotsKept_startStep (lotsKept_setClock h (by simp [Bare])))

theorem lotsKept_reportCredit (h : LotsKept s) {r : CommitRequest} {x : CommitRefusal} :
    LotsKept (reportCredit c r x s) := by
  cases x with
  | credit f => exact lotsKept_raise h
  | _ => exact h

theorem lotsKept_clockRefused (h : LotsKept s) {r : CommitRequest} {x : CommitRefusal} :
    LotsKept (clockRefused c r x s) := by
  have reported : LotsKept (reportCredit c r x (pulseRefused r.desk (refusePress r.desk (refusalReason x) c
      (s.setClock c { s.clock c with collection := (s.clock c).collection.tail })))) :=
    lotsKept_reportCredit (lotsKept_pulseRefused (lotsKept_refusePress (lotsKept_setClock h)))
  simp only [clockRefused]
  split
  · exact lotsKept_allRefused reported
  · exact lotsKept_placeCommit reported

theorem lotsKept_enterSold (h : LotsKept s) {price : Nat} : LotsKept (enterSold c price s) :=
  lotsKept_askUpdate (lotsKept_setClock h (by simp [Bare]))

theorem lotsKept_clockAccepted (h : LotsKept s) {r : CommitRequest} {f : SaleFigures} {seq : Nat} :
    LotsKept (clockAccepted c r f seq s) := by
  have answered : LotsKept (pulseWin r.desk ((s.clock c).collection.tail.foldl
      (fun s p => refusePress p.desk .outbid c s) (s.setClock c { s.clock c with collection := [] }))) :=
    lotsKept_pulseWin (lotsKept_foldl (fun _ _ hs => lotsKept_refusePress hs) _ (lotsKept_setClock h))
  simp only [clockAccepted]
  split
  · exact answered
  · split
    · exact lotsKept_enterSold (lotsKept_raise answered)
    · exact lotsKept_askUpdate (lotsKept_endLot (lotsKept_raise answered))

theorem lotsKept_clockAnswered (h : LotsKept s) {r : CommitRequest} {a : CommitAnswer} :
    LotsKept (clockAnswered c r a s) := by
  cases a with
  | accepted f => exact lotsKept_clockAccepted h
  | refused x => exact lotsKept_clockRefused h

/-! ## Completions (R134, R138, R152, R202) -/

theorem lotsKept_clearProgress (h : LotsKept s) : LotsKept (clearProgress s) := lotsKept_setArbiter h

theorem lotsKept_releaseAllDeferred (h : LotsKept s) : LotsKept (releaseAllDeferred s) :=
  lotsKept_foldl (fun _ _ hs => lotsKept_releaseDeferred hs) _ (lotsKept_setJournal h)

theorem lotsKept_continueReset (h : LotsKept s) : LotsKept (continueReset s) := by
  simp only [continueReset]
  split
  · exact lotsKept_elsewhere h
  · exact h

theorem lotsKept_afterCompletion (h : LotsKept s) {x : Choice} : LotsKept (afterCompletion x s) :=
  lotsKept_continueReset (lotsKept_serveWaiting (lotsKept_serveChoice h))

theorem lotsKept_completeCommit (h : LotsKept s) {r : CommitRequest} {a : CommitAnswer} :
    LotsKept (completeCommit c r a s) := by
  have changed := lotsKept_commitChanges (c := c) (r := r) (a := a) (lotsKept_clearProgress h)
  simp only [completeCommit]
  split
  · exact changed
  · exact lotsKept_afterCompletion (lotsKept_clockAnswered changed)

theorem lotsKept_completeHost (h : LotsKept s) {tag : Byte} {r : LedgerRequest} {v : Service} :
    LotsKept (completeHost tag r v s) := by
  have changed := lotsKept_requestChanges (r := r) (v := v) (lotsKept_clearProgress h)
  simp only [completeHost]
  split
  · exact changed
  · refine lotsKept_afterCompletion ?_
    split
    · exact lotsKept_releaseAllDeferred (lotsKept_placeReply changed)
    · exact lotsKept_placeReply changed

theorem lotsKept_settleInProgress (h : LotsKept s) : LotsKept (settleInProgress s) := by
  simp only [settleInProgress]
  split
  · exact h
  · exact lotsKept_commitChanges (lotsKept_clearProgress h)
  · exact lotsKept_requestChanges (lotsKept_clearProgress h)

/-! ## Presses and row replies (R88 to R97, R108 to R112) -/

theorem lotsKept_collect (h : LotsKept s) {p : Press} : LotsKept (collect c p s) := by
  simp only [collect]
  split
  · exact lotsKept_refusePress h
  · split
    · exact lotsKept_setClock h
    · split
      · exact h
      · split
        · exact lotsKept_refusePress (lotsKept_setClock h)
        · exact lotsKept_refusePress h

theorem lotsKept_stopClock (h : LotsKept s) {p : Press} : LotsKept (stopClock c p s) := by
  simp only [stopClock]
  split
  · exact lotsKept_serveWaiting (lotsKept_placeCommit (lotsKept_askUpdate
      (lotsKept_setClock (lotsKept_setClock h (by simp [Bare])) (by simp [Bare]))))
  · exact lotsKept_askUpdate (lotsKept_setClock h (by simp [Bare]))

theorem lotsKept_takePress (h : LotsKept s) {d : DeskId} {run tag offset packs : Nat} :
    LotsKept (takePress d c run tag offset packs s) := by
  have numbered : LotsKept { s with bus := { s.bus with nextArrival := (s.bus.nextArrival + 1) % 4294967296 } } :=
    lotsKept_congr h
  simp only [takePress]
  split
  · exact lotsKept_refusePress numbered
  · split
    · exact lotsKept_stopClock numbered
    · exact lotsKept_collect numbered

theorem lotsKept_takeEvent (h : LotsKept s) {e : DeskEvent} : LotsKept (takeEvent e s) := by
  cases e with
  | press d c run tag offset packs =>
    simp only [takeEvent]
    split
    · exact lotsKept_takePress h
    · exact h
  | signOn d b =>
    simp only [takeEvent]
    split
    · exact lotsKept_congr h
    · exact h
  | signOff d =>
    simp only [takeEvent]
    split
    · exact lotsKept_congr h
    · exact h

theorem lotsKept_takeReply (h : LotsKept s) {r : RowId} {y : RowReply} : LotsKept (takeReply r y s) := by
  have good : LotsKept (goodRow r s) := lotsKept_congr h
  simp only [takeReply]
  split
  · exact good
  · exact lotsKept_foldl (fun _ _ hs => lotsKept_takeEvent hs) _ (lotsKept_setRow good)

end Sys2Proof.Machine
end

section
/-! LotsKept through the hall, the starts, every request and every command, and so through a step. -/

set_option Elab.async false

namespace Sys2Proof.Machine

open Sys2Proof.Safety

variable {s t : State} {c : ClockId} {n : Nat}

/-! ## Hall Services and the host link (chapters 10 and 11) -/

theorem lotsKept_setTime (h : LotsKept s) : LotsKept (setTime s) := by
  simp only [setTime]
  split
  · exact h
  · exact lotsKept_eachClock (fun _ _ hs => lotsKept_tellClock hs) (lotsKept_congr h)

theorem lotsKept_clearTime (h : LotsKept s) : LotsKept (clearTime s) := by
  simp only [clearTime]
  split
  · exact lotsKept_eachClock (fun _ _ hs => lotsKept_holdClock hs) (lotsKept_congr h)
  · exact h

theorem lotsKept_fireAlarm (h : LotsKept s) : LotsKept (fireAlarm s) :=
  lotsKept_eachClock (fun _ _ hs => lotsKept_closeClock hs) (lotsKept_raise h)

theorem lotsKept_advanceCalendar (h : LotsKept s) : LotsKept (advanceCalendar s) := by
  unfold advanceCalendar
  extract_lets old _ advanced _ ended
  have hadvanced : LotsKept advanced := lotsKept_elsewhere h
  have hended : LotsKept ended := by
    unfold ended
    split
    · exact lotsKept_clearTime hadvanced
    · exact hadvanced
  split
  · split
    · exact lotsKept_elsewhere hadvanced
    · exact hadvanced
  · split
    · exact lotsKept_fireAlarm hended
    · exact hended

theorem lotsKept_changeKey (h : LotsKept s) {new : KeyPosition} : LotsKept (changeKey new s) := by
  have changed : LotsKept (raise (.key s.hall.key new s.hall.calendar)
      { s with hall := { s.hall with key := new, keyCounter := 0, keyRaw := new } }) := lotsKept_raise (lotsKept_congr h)
  simp only [changeKey]
  split
  · exact lotsKept_eachClock (fun _ _ hs => lotsKept_holdClock hs) changed
  · split
    · exact lotsKept_eachClock (fun _ _ hs => lotsKept_tellClock hs) changed
    · exact changed

theorem lotsKept_sampleKey (h : LotsKept s) {x : KeyPosition} : LotsKept (sampleKey x s) := by
  unfold sampleKey
  extract_lets hall count
  split
  · exact lotsKept_elsewhere h
  · split
    · exact lotsKept_elsewhere h
    · exact lotsKept_changeKey h

theorem lotsKept_sampleGate (h : LotsKept s) {blocked : Bool} : LotsKept (sampleGate c blocked s) := by
  simp only [sampleGate]
  split
  · exact lotsKept_setLane h
  · split
    · exact lotsKept_setLane h
    · exact lotsKept_gateChanges h

theorem lotsKept_changeBackup (h : LotsKept s) {x : BackupSupply} : LotsKept (changeBackup x s) := by
  simp only [changeBackup]
  split
  · exact lotsKept_raise (lotsKept_congr h)
  · exact lotsKept_congr h

theorem lotsKept_loseHost (h : LotsKept s) : LotsKept (loseHost s) :=
  lotsKept_eachClock (fun _ _ hs => lotsKept_tellClock hs) (lotsKept_raise (lotsKept_congr h))

theorem lotsKept_restoreHost (h : LotsKept s) : LotsKept (restoreHost s) := by
  simp only [restoreHost]
  split
  · exact h
  · exact lotsKept_eachClock (fun _ _ hs => lotsKept_tellClock hs) (lotsKept_raise (lotsKept_congr h))

theorem lotsKept_frameArrives (h : LotsKept s) : LotsKept (frameArrives s) :=
  lotsKept_restoreHost (lotsKept_elsewhere h)

theorem lotsKept_frameFails (h : LotsKept s) : LotsKept (frameFails s) := lotsKept_elsewhere h

theorem lotsKept_countOverrun (h : LotsKept s) : LotsKept (countOverrun s) := lotsKept_elsewhere h

/-! ## Supply failure and starts (R17, R39, R84, R190, R192) -/

theorem lotsKept_failMain (h : LotsKept s) : LotsKept (failMain s) :=
  lotsKept_of_same h rfl (fun _ => rfl) (fun c => by simp [failMain, dropWaiting, State.lane])
    fun c => by simpa [failMain, dropWaiting, State.clock, stopClockTimers] using .inl

/-- With no lots, trains or current lots there is nothing to keep. -/
theorem lotsKept_of_empty (hlots : t.lots = []) (htrains : ∀ c, (t.lane c).trains = [])
    (hclocks : ∀ c, (t.clock c).lot = none) : LotsKept t := by
  have names : ∀ c, laneNames t c = [] := fun c => by simp [laneNames, htrains]
  exact lotsKept_iff.2 ⟨by simp [State.lotNumbers, hlots],
    ⟨by simp [hclocks], by simp [State.lotState, State.lot, hlots, findKey], by simp [hclocks], fun c _ => hclocks c⟩,
    ⟨by simp [htrains], by simp [names], by simp [names], by simp [names], by simp [InAnnounced, htrains]⟩⟩

/-- A warm start's sort leaves no lot ON_CLOCK and makes none ENTERED (R17). -/
theorem sortLot_state (l : Lot) : (sortLot l).state = l.state ∧ l.state ≠ .onClock ∨
    l.state = .onClock ∧ (sortLot l).state ≠ .onClock ∧ (sortLot l).state ≠ .entered := by
  unfold sortLot
  split
  · next hst =>
    refine .inr ⟨hst, ?_⟩
    unfold sortedState
    repeat' split
    all_goals simp
  · next hst => exact .inl ⟨rfl, hst⟩

theorem sortLot_number (l : Lot) : (sortLot l).number = l.number := by
  unfold sortLot
  split <;> rfl

/-- Every clock is emptied, and the lots they held are sorted into states that are neither ON_CLOCK nor ENTERED. -/
theorem lotsKept_sort (h : LotsKept s) (hlots : t.lots = s.lots.map sortLot)
    (htrains : ∀ c, (t.lane c).trains = (s.lane c).trains) (hclocks : ∀ c, (t.clock c).lot = none) : LotsKept t := by
  obtain ⟨hu, hc, hm⟩ := lotsKept_iff.1 h
  have lot : ∀ m, t.lot m = (s.lot m).map sortLot := fun m => by
    simp only [State.lot, hlots, findKey_map sortLot_number]
  refine lotsKept_iff.2 ⟨?_, ⟨by simp [hclocks], fun m hm => ?_, by simp [hclocks], fun c _ => hclocks c⟩,
    hm.of_same_places htrains fun c m hmc => ?_⟩
  · simpa [State.lotNumbers, hlots, Function.comp_def, sortLot_number] using hu
  · obtain ⟨l, hl, hst⟩ := State.lotState_eq_some.1 hm
    rw [lot] at hl
    obtain ⟨x, -, rfl⟩ := Option.map_eq_some_iff.1 hl
    rcases sortLot_state x with ⟨e, hne⟩ | ⟨-, hne, -⟩
    · exact absurd (e ▸ hst) hne
    · exact absurd hst hne
  · obtain ⟨y, hy, -⟩ := hm.placed c m hmc
    obtain ⟨l, hl, -⟩ := State.lotState_eq_some.1 hy
    have hl' : t.lot m = some (sortLot l) := by rw [lot, hl]; rfl
    rw [State.lotState_of_lot hl, State.lotState_of_lot hl']
    rcases sortLot_state l with ⟨e, -⟩ | ⟨e, -, hne⟩
    · exact .inl (by rw [e])
    · exact .inr ⟨by simp [e], _, rfl, hne⟩

theorem lotsKept_warmValues (h : LotsKept s) {kind : StartKind} {backup : BackupSupply} :
    LotsKept (warmValues kind backup s) :=
  lotsKept_sort (lotsKept_settleInProgress h) rfl (fun c => by simp [warmValues, State.lane, warmLane])
    fun c => by simp [warmValues, State.clock, warmClock, Clock.atStart]

theorem lotsKept_reportBackup (h : LotsKept s) {backup : BackupSupply} : LotsKept (reportBackup backup s) := by
  cases backup
  · exact h
  · exact lotsKept_raise h

theorem lotsKept_reportMainFail (h : LotsKept s) {kind : StartKind} : LotsKept (reportMainFail kind s) := by
  cases kind
  · exact h
  · exact lotsKept_raise h
  · exact h

theorem lotsKept_warmStart (h : LotsKept s) {kind : StartKind} {mainReturn : Bool} {backup : BackupSupply} :
    LotsKept (warmStart kind mainReturn backup s) := by
  unfold warmStart
  extract_lets values reported
  have hvalues : LotsKept values := lotsKept_warmValues h
  have hreported : LotsKept reported := by
    unfold reported
    split
    · exact lotsKept_reportMainFail hvalues
    · exact hvalues
  exact lotsKept_eachClock (fun _ _ hs => lotsKept_testDepartures hs) (lotsKept_reportBackup hreported)

theorem lotsKept_coldStart {backup : BackupSupply} : LotsKept (coldStart backup s) :=
  lotsKept_reportBackup (lotsKept_of_empty rfl
    (fun c => by simp [State.lane, State.reset, Vector.get_eq_getElem, Lane.atStart])
    fun c => by simp [State.clock, State.reset, Vector.get_eq_getElem, Clock.atStart])

theorem lotsKept_startBySupply (h : LotsKept s) {mainReturn : Bool} {backup : BackupSupply} :
    LotsKept (startBySupply mainReturn backup s) := by
  simp only [startBySupply]
  split
  · exact lotsKept_warmStart h
  · exact lotsKept_coldStart

/-! ## Clock requests (R59, R74 to R78) -/

theorem lotsKept_setClockParams (h : LotsKept s) {a : ClockSettings} : LotsKept (setClockParams a c s).1 := by
  simp only [setClockParams]
  split
  · exact lotsKept_setClock h
  · exact h

theorem lotsKept_requestHold (h : LotsKept s) : LotsKept (requestHold c s).1 := by
  simp only [requestHold]
  split
  · exact h
  · exact h
  · exact lotsKept_holdClock h

theorem lotsKept_resumeClock (h : LotsKept s) : LotsKept (resumeClock c s) :=
  lotsKept_askUpdate (lotsKept_handTick (lotsKept_startStep (lotsKept_setClock h (by simp [Bare]))))

theorem lotsKept_requestResume (h : LotsKept s) : LotsKept (requestResume c s).1 := by
  simp only [requestResume]
  split
  · exact h
  · split
    · exact h
    · split
      · exact h
      · split
        · exact h
        · exact lotsKept_resumeClock h

theorem lotsKept_withdrawLot (h : LotsKept s) : LotsKept (withdrawLot c s).1 := by
  refine lotsKept_endLot ?_
  split
  · exact lotsKept_writeNoSale h
  · exact h

theorem lotsKept_requestWithdraw (h : LotsKept s) : LotsKept (requestWithdraw c s).1 := by
  simp only [requestWithdraw]
  split
  · exact h
  · exact h
  · exact h
  · exact h
  · split
    · exact h
    · exact lotsKept_withdrawLot h
  · exact lotsKept_withdrawLot h
  · exact lotsKept_withdrawLot h
  · exact lotsKept_withdrawLot h

theorem lotsKept_onClocks {f : ClockStep} (hf : ∀ c s, LotsKept s → LotsKept (f c s).1) (h : LotsKept s) :
    LotsKept (onClocks n f s).state := by
  simp only [onClocks]
  split
  · exact hf 3 _ (hf 2 _ (hf 1 _ (hf 0 _ h)))
  · split
    · exact h
    · exact hf _ _ h

end Sys2Proof.Machine
end

section
/-! LotsKept through the dispatch of every request, every command, and so through a step. -/

set_option Elab.async false

namespace Sys2Proof.Machine

open Sys2Proof.Safety

variable {s t : State} {c : ClockId} {n : Nat}

/-! ## Requests that read -/

theorem doLotQuery_state (q : Lookup) : (doLotQuery q s).state = s := by
  simp only [doLotQuery]
  split <;> rfl

theorem doLaneQuery_state (q : LaneQuery) : (doLaneQuery q s).state = s := by
  cases q with
  | lane n =>
    simp only [doLaneQuery]
    split <;> rfl
  | train n train =>
    simp only [doLaneQuery]
    split
    · rfl
    · rfl
    · split <;> rfl

theorem doClockQuery_state (n : Nat) : (doClockQuery n s).state = s := by
  simp only [doClockQuery]
  split
  · rfl
  · split <;> rfl

theorem doDeskQuery_state (q : DeskQuery) : (doDeskQuery q s).state = s := by
  cases q with
  | desk n =>
    simp only [doDeskQuery]
    split <;> rfl
  | row n =>
    simp only [doDeskQuery]
    split
    · rfl
    · split <;> rfl

theorem doBuyerQuery_state (q : Lookup) : (doBuyerQuery q s).state = s := by
  simp only [doBuyerQuery]
  split <;> rfl

theorem doInvoiceQuery_state (q : InvoiceQuery) : (doInvoiceQuery q s).state = s := by
  unfold doInvoiceQuery
  split
  · rfl
  · extract_lets found body
    split <;> rfl

theorem doJournalRead_state (start count : Nat) : (doJournalRead start count s).state = s := by
  simp only [doJournalRead]
  split
  · rfl
  · split <;> rfl

theorem doBoardQuery_state (n : Nat) : (doBoardQuery n s).state = s := by
  simp only [doBoardQuery]
  split
  · rfl
  · split <;> rfl

/-! ## The other requests (R59, R100, R155, R177, R185, R188, R199 to R202) -/

theorem lotsKept_doClockSet (h : LotsKept s) {a : ClockSettings} : LotsKept (doClockSet a s).state := by
  simp only [doClockSet]
  split
  · exact h
  · split
    · exact h
    · exact lotsKept_onClocks (fun _ _ hs => lotsKept_setClockParams hs) h

theorem lotsKept_doDeskRelease (h : LotsKept s) : LotsKept (doDeskRelease n s).state := by
  simp only [doDeskRelease]
  split
  · exact h
  · exact lotsKept_congr h (unbindDesk_lots ..) (unbindDesk_lanes ..) (unbindDesk_clocks ..)

theorem lotsKept_doJournalRelease (h : LotsKept s) : LotsKept (doJournalRelease n s).state := by
  unfold doJournalRelease
  extract_lets j freed
  split
  · exact h
  · split
    · exact h
    · show LotsKept (eachClock tellSpace freed)
      exact lotsKept_eachClock (fun _ _ hs => lotsKept_tellSpace hs) (lotsKept_setJournal h)

theorem lotsKept_doBoardSet (h : LotsKept s) {board period : Nat} : LotsKept (doBoardSet board period s).state := by
  simp only [doBoardSet]
  split
  · exact h
  · split
    · exact lotsKept_setBoard h
    · exact lotsKept_elsewhere h

theorem lotsKept_doHallTimeSet (h : LotsKept s) {time : Stamp} : LotsKept (doHallTimeSet time s).state := by
  simp only [doHallTimeSet]
  split
  · exact h
  · split
    · exact lotsKept_clearTime h
    · exact lotsKept_setTime (lotsKept_elsewhere h)

theorem lotsKept_doCloseAlarmSet (h : LotsKept s) {a : Alarm} : LotsKept (doCloseAlarmSet a s).state := by
  simp only [doCloseAlarmSet]
  split
  · exact h
  · split
    · exact h
    · exact lotsKept_elsewhere h

theorem lotsKept_doReportTake (h : LotsKept s) : LotsKept (doReportTake n s).state := by
  simp only [doReportTake]
  split
  · exact lotsKept_elsewhere h
  · exact h

theorem lotsKept_clearStats (h : LotsKept s) : LotsKept (clearStats s) :=
  lotsKept_of_same h rfl (fun _ => rfl) (fun c => by simp [clearStats, State.lane, clearLane]) fun _ => ⟨rfl, .inl⟩

theorem lotsKept_doLinkSet (h : LotsKept s) {rate : Nat} {x : Option Supervision} :
    LotsKept (doLinkSet rate x s).state := by
  simp only [doLinkSet]
  split
  · exact h
  · split
    · exact h
    · exact h
    · exact lotsKept_elsewhere h

/-! ## Dispatch (R134, R196, R202) -/

theorem lotsKept_finish {a : Answer} (h : LotsKept a.state) {tag : Byte} {r : Request} {after : AfterReply} :
    LotsKept (finish tag r after a) := lotsKept_placeReply h

theorem lotsKept_arriveLedger (h : LotsKept s) {tag : Byte} {r : LedgerRequest} : LotsKept (arriveLedger tag r s) := by
  simp only [arriveLedger]
  split
  · exact lotsKept_placeReply h
  · split
    · exact lotsKept_placeReply h
    · split
      · exact lotsKept_placeReply (lotsKept_count h)
      · exact lotsKept_serveWaiting (lotsKept_setArbiter h)

theorem lotsKept_beginReset (h : LotsKept s) {tag : Byte} : LotsKept (beginReset tag s) :=
  lotsKept_continueReset (lotsKept_elsewhere (lotsKept_dropWaiting h))

theorem lotsKept_dispatchRequest (h : LotsKept s) {tag : Byte} {r : Request} : LotsKept (dispatchRequest tag r s) := by
  cases r with
  | identify | hallTimeRead | statsRead | unknown => exact lotsKept_finish h
  | lotEnter a => exact lotsKept_finish (lotsKept_doLotEnter h)
  | lotAmend a => exact lotsKept_finish (lotsKept_doLotAmend h)
  | lotRemove n => exact lotsKept_finish (lotsKept_doLotRemove h)
  | lotQuery q => exact lotsKept_finish ((doLotQuery_state q).symm ▸ h)
  | trainAnnounce a => exact lotsKept_finish (lotsKept_doTrainAnnounce h)
  | trainCancel lane train => exact lotsKept_finish (lotsKept_doTrainCancel h)
  | laneQuery q => exact lotsKept_finish ((doLaneQuery_state q).symm ▸ h)
  | laneSet a => exact lotsKept_finish (lotsKept_doLaneSet h)
  | clockSet a => exact lotsKept_finish (lotsKept_doClockSet h)
  | clockQuery n => exact lotsKept_finish ((doClockQuery_state n).symm ▸ h)
  | clockHold n => exact lotsKept_finish (lotsKept_onClocks (fun _ _ hs => lotsKept_requestHold hs) h)
  | clockResume n => exact lotsKept_finish (lotsKept_onClocks (fun _ _ hs => lotsKept_requestResume hs) h)
  | clockWithdraw n => exact lotsKept_finish (lotsKept_onClocks (fun _ _ hs => lotsKept_requestWithdraw hs) h)
  | clockOpen n => exact lotsKept_finish (lotsKept_onClocks (fun _ _ hs => lotsKept_openClock hs) h)
  | deskQuery q => exact lotsKept_finish ((doDeskQuery_state q).symm ▸ h)
  | deskRelease n => exact lotsKept_finish (lotsKept_doDeskRelease h)
  | ledger r => exact lotsKept_arriveLedger h
  | buyerQuery q => exact lotsKept_finish ((doBuyerQuery_state q).symm ▸ h)
  | invoiceQuery q => exact lotsKept_finish ((doInvoiceQuery_state q).symm ▸ h)
  | journalRead start count => exact lotsKept_finish ((doJournalRead_state start count).symm ▸ h)
  | journalRelease n => exact lotsKept_finish (lotsKept_doJournalRelease h)
  | boardSet board period => exact lotsKept_finish (lotsKept_doBoardSet h)
  | boardQuery n => exact lotsKept_finish ((doBoardQuery_state n).symm ▸ h)
  | hallTimeSet time => exact lotsKept_finish (lotsKept_doHallTimeSet h)
  | closeAlarmSet a => exact lotsKept_finish (lotsKept_doCloseAlarmSet h)
  | reportTake n => exact lotsKept_finish (lotsKept_doReportTake h)
  | reportEnable e => exact lotsKept_finish (lotsKept_elsewhere h)
  | statsClear => exact lotsKept_finish (lotsKept_clearStats h)
  | linkSet rate x => exact lotsKept_finish (lotsKept_doLinkSet h)
  | controllerReset => exact lotsKept_beginReset h

theorem lotsKept_routeRequest (h : LotsKept s) {tag : Byte} {r : Request} : LotsKept (routeRequest tag r s) := by
  simp only [routeRequest]
  split
  · exact lotsKept_countOverrun h
  · split
    · exact lotsKept_dispatchRequest h
    · exact lotsKept_elsewhere h

theorem lotsKept_hostRequest (h : LotsKept s) {tag : Byte} {r : Request} : LotsKept (hostRequest tag r s) :=
  lotsKept_whenPowered h (lotsKept_routeRequest (lotsKept_frameArrives h))

/-! ## The line's bytes and the replies (R195, R196) -/

theorem lotsKept_dispatchHeld (h : LotsKept s) : LotsKept (dispatchHeld s) := by
  simp only [dispatchHeld]
  split
  · split
    · exact lotsKept_dispatchRequest (lotsKept_elsewhere h)
    · exact h
  · exact h

theorem lotsKept_afterReply (h : LotsKept s) {x : AfterReply} {backup : BackupSupply} :
    LotsKept (afterReply x backup s) := by
  cases x with
  | nothing => exact h
  | newRate rate => exact lotsKept_elsewhere h
  | warmStart => exact lotsKept_warmStart h

theorem lotsKept_replyGone (h : LotsKept s) {backup : BackupSupply} : LotsKept (replyGone backup s) := by
  simp only [replyGone]
  split
  · exact h
  · exact lotsKept_dispatchHeld (lotsKept_afterReply (lotsKept_elsewhere h))

theorem lotsKept_receiveByte (h : LotsKept s) {b : LineByte} : LotsKept (receiveByte b s) := by
  have keep : ∀ frame spoiled, LotsKept (keepReceiving frame spoiled s) := fun _ _ => lotsKept_elsewhere h
  have ends : ∀ frame spoiled, LotsKept (frameEnds frame spoiled s) := fun frame spoiled => by
    simp only [frameEnds]
    split
    · exact lotsKept_frameFails h
    · split
      · exact lotsKept_routeRequest (lotsKept_frameArrives h)
      · exact lotsKept_frameFails h
  simp only [receiveByte]
  split
  · split
    · exact keep _ _
    · exact h
  · simp only [extendFrame]
    split
    · exact keep _ _
    · exact lotsKept_frameFails h
    · exact ends _ _

/-! ## Every command -/

theorem after_next {P : State → Prop} (h : P t) : After (.next t) P := fun _ e => by cases e; exact h

/-- A command's effect while the main supply is PRESENT. -/
theorem after_whenPowered (h : LotsKept s) (ht : LotsKept t) : After (.next (whenPowered s t)) LotsKept :=
  after_next (lotsKept_whenPowered h ht)

theorem lotsKept_endWait (h : LotsKept s) {held : Bool} : LotsKept (endWait held s) := lotsKept_congr h

theorem lotsKept_missRow (h : LotsKept s) {r : RowId} : LotsKept (missRow r s) := lotsKept_congr h

theorem lotsKept_badReply (h : LotsKept s) {r : RowId} : LotsKept (badReply r s) :=
  lotsKept_endWait (lotsKept_missRow (lotsKept_setRow h))

theorem lotsKept_pollGone (h : LotsKept s) {p : Poll} : LotsKept (pollGone p s) := lotsKept_elsewhere h

theorem lotsKept_discardAnswer (h : LotsKept s) : LotsKept (discardAnswer c s) := lotsKept_congr h

theorem lotsKept_refreshWindow (h : LotsKept s) : LotsKept (refreshBoard c (nextWindow c s)) := by
  have next : LotsKept (nextWindow c s) := lotsKept_setBoard (lotsKept_reach h)
  exact lotsKept_congr next

theorem lotsKept_exec (h : LotsKept s) (i : Instr) : After (exec i s) LotsKept := by
  cases i with
  | identify | lotEnter | lotAmend | lotRemove | lotQuery | trainAnnounce | trainCancel | laneQuery | laneSet
  | clockSet | clockQuery | clockHold | clockResume | clockWithdraw | clockOpen | deskQuery | deskRelease
  | buyerEnter | buyerFlags | buyerLimit | buyerRemove | buyerQuery | tariffSet | saleVoid | paymentPost
  | invoiceClose | dayClose | invoiceQuery | journalRead | journalRelease | boardSet | boardQuery | hallTimeSet
  | hallTimeRead | closeAlarmSet | reportTake | reportEnable | statsRead | statsClear | linkSet | controllerReset
  | unknownRequest => exact after_next (lotsKept_hostRequest h)
  | frameOverrun =>
    refine after_whenPowered h ?_
    split
    · exact lotsKept_countOverrun (lotsKept_frameArrives h)
    · exact h
  | frameBad why =>
    refine after_whenPowered h ?_
    split
    · exact lotsKept_frameFails h
    · exact h
  | receiverIdleTimeout =>
    refine after_whenPowered h ?_
    split
    · exact h
    · exact lotsKept_frameFails (lotsKept_reach h)
  | replySent backup => exact after_whenPowered h (lotsKept_replyGone h)
  | supervisionExpiry =>
    refine after_whenPowered h ?_
    split
    · exact h
    · exact lotsKept_loseHost (lotsKept_reach h)
  | ledgerOperationComplete =>
    refine after_next ?_
    split
    · exact h
    · exact lotsKept_completeHost h
    · exact h
    · exact h
  | saleCommitComplete =>
    refine after_next ?_
    split
    · exact lotsKept_completeCommit h
    · exact h
    · exact h
  | saleVoidComplete =>
    refine after_next ?_
    split
    · exact lotsKept_completeHost h
    · exact h
    · exact h
    · exact h
  | takeLot c =>
    refine after_whenPowered h ?_
    split
    · next l hl => exact lotsKept_takeLot h hl
    · exact h
  | previewExpiry c =>
    refine after_whenPowered h ?_
    split
    · exact lotsKept_testNew (lotsKept_setClock (lotsKept_reach h))
    · exact h
  | stepTimerExpiry c =>
    refine after_whenPowered h ?_
    split
    · exact lotsKept_stepClock (lotsKept_reach h)
    · exact h
  | windowExpiry c =>
    refine after_whenPowered h ?_
    split
    · exact lotsKept_enterDeciding (lotsKept_reach h)
    · exact h
  | pauseExpiry c =>
    refine after_whenPowered h ?_
    split
    · exact lotsKept_restartClock (lotsKept_reach h)
    · exact h
  | gateQualifiedChange lane => exact after_whenPowered h (lotsKept_gateChanges h)
  | gapExpiry lane =>
    refine after_whenPowered h ?_
    split
    · exact h
    · exact lotsKept_gapRunsOut (lotsKept_reach h)
  | tickSent =>
    refine after_whenPowered h ?_
    split
    · exact lotsKept_elsewhere h
    · exact h
    · exact h
    · exact h
  | pollSent =>
    refine after_whenPowered h ?_
    split
    · exact lotsKept_pollGone h
    · split
      · exact lotsKept_pollGone h
      · exact h
    · exact h
    · exact h
  | rowReplyGood reply =>
    refine after_whenPowered h ?_
    split
    · split
      · exact lotsKept_endWait (lotsKept_takeReply h)
      · exact lotsKept_badReply h
    · exact h
    · exact h
  | rowReplyBad =>
    refine after_whenPowered h ?_
    split
    · exact lotsKept_badReply h
    · exact h
    · exact h
  | rowReplyTimeout part =>
    refine after_whenPowered h ?_
    split
    · exact lotsKept_endWait (lotsKept_missRow (lotsKept_reach h))
    · exact h
    · exact h
  | refreshWindow b => exact after_whenPowered h (lotsKept_refreshWindow h)
  | boardTransmitEnd b =>
    refine after_whenPowered h ?_
    split
    · exact lotsKept_setBoard h
    · exact h
    · exact h
  | boardAnswerGood b number =>
    refine after_whenPowered h ?_
    split
    · split
      · exact lotsKept_goodAnswer h
      · exact lotsKept_discardAnswer h
    · exact lotsKept_discardAnswer h
    · exact lotsKept_discardAnswer h
  | boardAnswerBad b => exact after_whenPowered h (lotsKept_discardAnswer h)
  | boardAnswerTimeout b =>
    refine after_whenPowered h ?_
    split
    · exact lotsKept_missBoard (lotsKept_reach h)
    · exact h
    · exact h
  | calendarAdvance => exact after_next (lotsKept_advanceCalendar (lotsKept_elsewhere h))
  | keyQualifiedChange position =>
    refine after_whenPowered h ?_
    split
    · exact h
    · exact lotsKept_changeKey h
  | mainSupplyFail => exact after_whenPowered h (lotsKept_failMain h)
  | mainSupplyAboveThreshold =>
    refine after_next ?_
    split
    · exact lotsKept_elsewhere h
    · exact h
    · exact h
  | mainSupplyReturn backup =>
    refine after_next ?_
    split
    · exact lotsKept_startBySupply (lotsKept_reach h)
    · exact h
    · exact h
  | powerOn backup => exact after_next (lotsKept_startBySupply h)
  | backupChange reading =>
    refine after_next ?_
    split
    · exact h
    · exact lotsKept_changeBackup h
  | gateSample lane blocked => exact after_whenPowered h (lotsKept_sampleGate h)
  | keySample saleClosed setupClosed => exact after_whenPowered h (lotsKept_sampleKey h)
  | mainSupplyBelowThreshold =>
    refine after_next ?_
    split
    · exact lotsKept_elsewhere h
    · exact lotsKept_failMain h
  | startByteReceived bytes =>
    exact after_whenPowered h (lotsKept_foldl (fun _ _ hs => lotsKept_receiveByte hs) _ h)
  | deskBusLineIdle =>
    refine after_whenPowered h ?_
    split
    · exact lotsKept_endWait h
    · exact h

theorem lotsKept_idle (h : LotsKept s) : LotsKept (idle s) := by
  simp only [idle]
  split
  · simp only [goOn]
    split
    · exact lotsKept_elsewhere h
    · exact lotsKept_elsewhere h
  · exact lotsKept_elsewhere h

/-- Settles O8: a step is a command carried out, which keeps the invariant, or the part's own going on, which reaches
neither lots, lanes nor clocks. -/
theorem lotsKeptByStep : Obligations.LotsKeptByStep := by
  unfold Obligations.LotsKeptByStep
  intro s t h hstep
  unfold step at hstep
  split at hstep
  · cases hstep
    exact lotsKept_idle h
  · exact lotsKept_exec (lotsKept_elsewhere h) _ t hstep

end Sys2Proof.Machine
end

section
/-! The requests of the Feed Lane Sequencer that change a lane (2.2, 2.6): what TRAIN-ANNOUNCE, TRAIN-CANCEL and LANE-SET
answer in each of their cases, and the lots that an announcement queues at their places. -/

set_option Elab.async false

namespace Sys2Proof.Machine

open Sys2Proof.Safety

variable {s : State} {c : ClockId} {n train trolley place : Nat} {a : TrainAnnouncement}

/-! ## TRAIN-ANNOUNCE (R22, R23) -/

theorem announceLotFault_framed (l : List Nat) : announceLotFault (framed s) l = announceLotFault s l := by
  induction l with
  | nil => rfl
  | cons n l ih => simp only [announceLotFault, framed_lot, ih]

theorem doTrainAnnounce_badField {pos : Nat} (h : announceFault a = some pos) :
    doTrainAnnounce a s = ⟨s, .badField, .field pos⟩ := by simp [doTrainAnnounce, h, badField]

theorem doTrainAnnounce_exists (h : announceFault a = none) (hc : clockNumbered a.lane = some c)
    (hn : ((s.lane c).trains.any fun t => t.number = a.train) = true) :
    doTrainAnnounce a s = ⟨s, .exists_, .empty⟩ := by
  simp only [doTrainAnnounce, h, hc, hn, refuse, if_true]

section
variable (h : announceFault a = none) (hc : clockNumbered a.lane = some c)
  (hn : ((s.lane c).trains.any fun t => t.number = a.train) = false)
include h hc hn

theorem doTrainAnnounce_full (hfull : 8 ≤ (s.lane c).trains.length) : doTrainAnnounce a s = ⟨s, .full, .empty⟩ := by
  simp only [doTrainAnnounce, h, hc, hn, refuse, Config.laneTrains, hfull, if_true, Bool.false_eq_true, if_false]

theorem doTrainAnnounce_lotFault (hroom : (s.lane c).trains.length < 8) {status : Status}
    (hl : announceLotFault s (a.trolleys.flatMap TrolleyEntry.lots) = some (status, n)) :
    doTrainAnnounce a s = ⟨s, status, .lotAtFault n⟩ := by
  simp only [doTrainAnnounce, h, hc, hn, hl, refuse, Config.laneTrains, Nat.not_le.2 hroom, Bool.false_eq_true, if_false]

theorem doTrainAnnounce_ok (hroom : (s.lane c).trains.length < 8)
    (hl : announceLotFault s (a.trolleys.flatMap TrolleyEntry.lots) = none) :
    doTrainAnnounce a s =
      ⟨queueTrolleys c a.train 1 a.trolleys
        (s.setLane c { s.lane c with trains := (s.lane c).trains ++ [announcedTrain a] }),
        .ok, .trains ((s.lane c).trains.length + 1)⟩ := by
  simp only [doTrainAnnounce, h, hc, hn, hl, accept, Config.laneTrains, Nat.not_le.2 hroom, Bool.false_eq_true, if_false]

end

/-! ## The lots of a manifest (R4, R7) -/

/-- A lot QUEUED at a place (R4, R7). -/
def queuedAt (p : LanePosition) (l : Lot) : Lot := { l with state := .queued, position := some p }

theorem queuePlaces_cons (m : Nat) (l : List Nat) :
    queuePlaces c train trolley place (m :: l) s = queuePlaces c train trolley (place + 1) l
      (s.modLot m (queuedAt { lane := c, train := train, trolley := trolley, place := place })) := rfl

theorem queuePlaces_lot_not_mem {l : List Nat} (h : n ∉ l) :
    (queuePlaces c train trolley place l s).lot n = s.lot n := by
  induction l generalizing s place with
  | nil => rfl
  | cons m l ih =>
    obtain ⟨hm, hl⟩ := not_or.1 (mt List.mem_cons.2 h)
    rw [queuePlaces_cons, ih hl]
    exact State.modLot_lot_ne s (queuedAt _) (fun _ => rfl) hm

/-- The lot at index `j` stands at the `j`-th place after the first. -/
theorem queuePlaces_lot_mem {l : List Nat} (hl : l.Nodup) {j : Nat} (hj : l[j]? = some n) :
    (queuePlaces c train trolley place l s).lot n = (s.lot n).map
      (queuedAt { lane := c, train := train, trolley := trolley, place := place + j }) := by
  induction l generalizing s place j with
  | nil => simp at hj
  | cons m l ih =>
    obtain ⟨hm, hl⟩ := List.nodup_cons.1 hl
    rw [queuePlaces_cons]
    cases j with
    | zero =>
      obtain rfl : m = n := by simpa using hj
      rw [queuePlaces_lot_not_mem hm]
      exact State.modLot_lot_self s (queuedAt _) (fun _ => rfl) m
    | succ j =>
      have hj : l[j]? = some n := by simpa using hj
      have hne : n ≠ m := fun e => hm (e ▸ List.mem_of_getElem? hj)
      rw [ih hl hj, State.modLot_lot_ne s (queuedAt _) (fun _ => rfl) hne, Nat.add_right_comm, Nat.add_assoc]

theorem queueTrolleys_lot_not_mem {q : List TrolleyEntry} (h : n ∉ q.flatMap TrolleyEntry.lots) :
    (queueTrolleys c train trolley q s).lot n = s.lot n := by
  induction q generalizing s trolley with
  | nil => rfl
  | cons x q ih =>
    rw [List.flatMap_cons, List.mem_append, not_or] at h
    obtain ⟨hx, hq⟩ := h
    rw [queueTrolleys, ih hq, queuePlaces_lot_not_mem hx]

/-- The lot at index `j` of trolley `i` stands at the `j + 1`-th place of the `i`-th trolley after the first. -/
theorem queueTrolleys_lot_mem {q : List TrolleyEntry} (hq : (q.flatMap TrolleyEntry.lots).Nodup) {i j : Nat}
    {x : TrolleyEntry} (hi : q[i]? = some x) (hj : x.lots[j]? = some n) :
    (queueTrolleys c train trolley q s).lot n = (s.lot n).map
      (queuedAt { lane := c, train := train, trolley := trolley + i, place := j + 1 }) := by
  induction q generalizing s trolley i with
  | nil => simp at hi
  | cons y q ih =>
    rw [List.flatMap_cons] at hq
    obtain ⟨hy, hq, apart⟩ := List.nodup_append'.1 hq
    rw [queueTrolleys]
    cases i with
    | zero =>
      obtain rfl : y = x := by simpa using hi
      rw [queueTrolleys_lot_not_mem (apart (List.mem_of_getElem? hj)), queuePlaces_lot_mem hy hj, Nat.add_comm 1 j]
      rfl
    | succ i =>
      have hi : q[i]? = some x := by simpa using hi
      have hnq : n ∈ q.flatMap TrolleyEntry.lots :=
        List.mem_flatMap.2 ⟨x, List.mem_of_getElem? hi, List.mem_of_getElem? hj⟩
      rw [ih hq hi, queuePlaces_lot_not_mem fun hn => apart hn hnq, Nat.add_right_comm, Nat.add_assoc]

/-- Settles O15: one clause for each stage of R22, and the places that R23 gives the lots. -/
theorem trainAnnounced : Obligations.TrainAnnounced := by
  unfold Obligations.TrainAnnounced
  refine ⟨fun tag a c s hs hc => ⟨fun pos hf => ?_, fun hf hn => ?_, fun hf hn hfull => ?_, fun status n hf hn hroom hl => ?_,
    fun hf hn hroom hl => ?_⟩, fun a c s hf => ⟨fun i x j n l hi hj hl => ?_, fun n hn => queueTrolleys_lot_not_mem hn⟩⟩
  · exact exec_of_answer hs tag (.trainAnnounce a) (doTrainAnnounce_badField (s := framed s) hf) rfl
  · exact exec_of_answer hs tag (.trainAnnounce a) (doTrainAnnounce_exists (s := framed s) hf hc hn) rfl
  · exact exec_of_answer hs tag (.trainAnnounce a) (doTrainAnnounce_full (s := framed s) hf hc hn hfull) rfl
  · exact exec_of_answer hs tag (.trainAnnounce a)
      (doTrainAnnounce_lotFault (s := framed s) hf hc hn hroom (by rw [announceLotFault_framed, hl])) rfl
  · exact exec_of_answer hs tag (.trainAnnounce a)
      (doTrainAnnounce_ok (s := framed s) hf hc hn hroom (by rw [announceLotFault_framed, hl])) rfl
  · rw [queueTrolleys_lot_mem (announceFault_nodup hf) hi hj, hl, Nat.add_comm 1 i]
    rfl

/-! ## TRAIN-CANCEL (R24) and LANE-SET (R33) -/

section
variable {lane : Nat}

theorem doTrainCancel_badField {pos : Nat} (h : laneTrainFault lane train = some pos) :
    doTrainCancel lane train s = ⟨s, .badField, .field pos⟩ := by simp [doTrainCancel, h, badField]

variable (h : laneTrainFault lane train = none) (hc : clockNumbered lane = some c)
include h hc

theorem doTrainCancel_notFound (hx : ((s.lane c).trains.find? fun t => t.number = train) = none) :
    doTrainCancel lane train s = ⟨s, .notFound, .empty⟩ := by simp only [doTrainCancel, h, hc, hx, refuse]

theorem doTrainCancel_state {x : Train} (hx : ((s.lane c).trains.find? fun t => t.number = train) = some x)
    (hst : x.state ≠ .announced) : doTrainCancel lane train s = ⟨s, .state, .empty⟩ := by
  simp only [doTrainCancel, h, hc, hx, hst, refuse, if_false]

theorem doTrainCancel_ok {x : Train} (hx : ((s.lane c).trains.find? fun t => t.number = train) = some x)
    (hst : x.state = .announced) : doTrainCancel lane train s =
      ⟨modLots makeEntered (placesOf x)
        (s.setLane c { s.lane c with trains := (s.lane c).trains.filter fun y => y.number ≠ train }),
        .ok, .trains ((s.lane c).trains.filter fun y => y.number ≠ train).length⟩ := by
  simp only [doTrainCancel, h, hc, hx, hst, accept, if_true]

end

theorem laneSetFault_eq_none {x : LaneSettings} (hc : clockNumbered x.lane = some c)
    (hcount : inRangeOpt 1 15 x.count = true) (hgap : inRangeOpt 1 60 x.gapTime = true) : laneSetFault x = none := by
  have hlane : inRange 0 4 x.lane = true := inRange_eq_true ⟨Nat.zero_le _, (clockNumbered_range hc).2⟩
  simp [laneSetFault, firstFault_eq_none_iff, hlane, hcount, hgap]

theorem doLaneSet_ok {x : LaneSettings} (h : laneSetFault x = none) (hc : clockNumbered x.lane = some c) :
    doLaneSet x s = ⟨s.setLane c (setLaneValues x (s.lane c)), .ok, .empty⟩ := by simp [doLaneSet, h, hc, accept]

/-- The reply of LANE-SET for one lane, with the values given in range (R33). -/
theorem exec_laneSet_ok (hs : Ready s) (tag : Byte) {x : LaneSettings} (hc : clockNumbered x.lane = some c)
    (hcount : inRangeOpt 1 15 x.count = true) (hgap : inRangeOpt 1 60 x.gapTime = true) :
    exec (.laneSet tag x) s =
      .next (replied tag 137 .ok .empty ((framed s).setLane c (setLaneValues x (s.lane c)))) :=
  exec_of_answer hs tag (.laneSet x) (doLaneSet_ok (s := framed s) (laneSetFault_eq_none hc hcount hgap) hc) rfl

/-- Settles O16: the cases of R24 by the train found and its state, and LANE-SET by the values it gives. -/
theorem trainCancelledAndLaneSet : Obligations.TrainCancelledAndLaneSet := by
  unfold Obligations.TrainCancelledAndLaneSet
  intro tag n c s hs hc
  refine ⟨fun train x hf hx hst => ?_, fun train x hf hx hst => ?_, fun train hf hx => ?_, fun train ht => ?_,
    fun count h1 h2 => ?_, fun count gap h1 h2 h3 h4 => ?_, fun gap h3 h4 => ?_⟩
  · exact exec_of_answer hs tag (.trainCancel n train) (doTrainCancel_ok (s := framed s) hf hc hx hst) rfl
  · exact exec_of_answer hs tag (.trainCancel n train) (doTrainCancel_state (s := framed s) hf hc hx hst) rfl
  · exact exec_of_answer hs tag (.trainCancel n train) (doTrainCancel_notFound (s := framed s) hf hc hx) rfl
  · exact exec_of_answer hs tag (.trainCancel n train)
      (doTrainCancel_badField (s := framed s) (laneTrainFault_train (clockNumbered_range hc) ht)) rfl
  · exact exec_laneSet_ok hs tag hc (inRange_eq_true ⟨h1, h2⟩) rfl
  · exact exec_laneSet_ok hs tag hc (inRange_eq_true ⟨h1, h2⟩) (inRange_eq_true ⟨h3, h4⟩)
  · exact exec_laneSet_ok hs tag hc rfl (inRange_eq_true ⟨h3, h4⟩)

end Sys2Proof.Machine
end

section
/-! The events of the Feed Lane Sequencer (2.3, 2.4, 2.6): gate samples and passages, the expiry of the gap timer, and the
trains that leave the head of a queue. -/

set_option Elab.async false

namespace Sys2Proof.Machine

open Sys2Proof.Safety

variable {s t : State} {c d : ClockId} {n : Nat}

/-! ## Lots on places, and the main supply -/

/-- A change of lots that gives the same done twice changes every lot on the places listed, and no other. -/
theorem lot_modLots {f : Lot → Lot} (hf : ∀ l, (f l).number = l.number) (hff : ∀ l, f (f l) = f l)
    (l : List (Option Nat)) (n : Nat) :
    (modLots f l s).lot n = if some n ∈ l then (s.lot n).map f else s.lot n := by
  induction l generalizing s with
  | nil => simp [modLots_nil]
  | cons p l ih =>
    rw [modLots_cons, ih]
    cases p with
    | none => simp
    | some k =>
      by_cases hk : n = k
      · subst hk
        simp [State.modLot_lot_self s f hf, Function.comp_def, hff]
      · simp [State.modLot_lot_ne s f hf hk, hk]

theorem makeReady_makeReady (l : Lot) : makeReady (makeReady l) = makeReady l := by
  by_cases h : l.state = .queued <;> simp [makeReady, h]

theorem makeMissing_makeMissing (l : Lot) : makeMissing (makeMissing l) = makeMissing l := by
  by_cases h : l.state = .queued <;> simp [makeMissing, h]

theorem makeMissing_position (l : Lot) : (makeMissing l).position = l.position := by
  by_cases h : l.state = .queued <;> simp [makeMissing, h]

theorem whenPowered_present (h : s.hall.main = .present) (t : State) : whenPowered s t = t := by
  simp [whenPowered, h]

/-- The place of a lot is passed over exactly where the lot has ended (R30). -/
theorem isEnded_iff {l : Lot} : l.state.isEnded = true ↔ Ended l := by
  cases h : l.state <;> simp [Ended, LotState.isEnded, h]

/-! ## Gate samples and passages (R25 to R28) -/

theorem exec_gateSample (h : s.hall.main = .present) (b : Bool) :
    exec (.gateSample c b) s = .next (sampleGate c b s) :=
  congrArg Host.Outcome.next (whenPowered_present h _)

theorem exec_gateQualifiedChange (h : s.hall.main = .present) :
    exec (.gateQualifiedChange c) s = .next (gateChanges c s) :=
  congrArg Host.Outcome.next (whenPowered_present h _)

theorem sampleGate_equal {b : Bool} (h : b = (s.lane c).blocked) :
    sampleGate c b s = s.setLane c { s.lane c with counter := 0 } := by simp [sampleGate, h]

theorem sampleGate_short {b : Bool} (h : b ≠ (s.lane c).blocked) (hn : (s.lane c).counter + 1 < (s.lane c).count) :
    sampleGate c b s = s.setLane c { s.lane c with counter := (s.lane c).counter + 1 } := by simp [sampleGate, h, hn]

theorem sampleGate_full {b : Bool} (h : b ≠ (s.lane c).blocked) (hn : (s.lane c).count ≤ (s.lane c).counter + 1) :
    sampleGate c b s = gateChanges c s := by simp [sampleGate, h, Nat.not_lt.2 hn]

theorem gateChanges_clear (h : (s.lane c).blocked = false) :
    gateChanges c s = s.setLane c { s.lane c with blocked := true, counter := 0, passageOpen := true } := by
  simp [gateChanges, h]

theorem gateChanges_open (h : (s.lane c).blocked = true) (ho : (s.lane c).passageOpen = true) :
    gateChanges c s =
      passage c (s.setLane c { s.lane c with blocked := false, counter := 0, passageOpen := false }) := by
  simp [gateChanges, h, ho]

theorem passage_stray (h : countingTrain (s.lane c).trains = none) :
    passage c s = raise (.stray c (countUp 65535 (s.lane c).strays))
      (s.setLane c { s.lane c with strays := countUp 65535 (s.lane c).strays }) := by
  simp [passage, h, top16]

/-- The train after a passage that it has counted (R26, R27). -/
def countedTrain (x : Train) : Train :=
  { x with
    trolleys := countFirst x.trolleys
    state := if (countFirst x.trolleys).all Trolley.counted then .arrived else .arriving }

/-- The lane after a passage that the train `x` has counted, the timebase being `now` (R26, R27). -/
def countedLane (x : Train) (now : Nat) (lane : Lane) : Lane :=
  { lane with
    trains := replaceTrain (countedTrain x) lane.trains
    gapEnds := if (countFirst x.trolleys).all Trolley.counted then none else some (now + lane.gapTime * 1000000) }

/-- A passage with a counting train changes the lane and makes the trolley's lots READY; only a report may follow. -/
theorem passage_counts {x : Train} (h : countingTrain (s.lane c).trains = some x) :
    (passage c s).lanes =
        ((modLots makeReady (firstUncounted x.trolleys) s).setLane c (countedLane x s.timebase (s.lane c))).lanes ∧
      (passage c s).lots = (modLots makeReady (firstUncounted x.trolleys) s).lots := by
  simp only [passage, h]
  split
  · next hall => simp [countedLane, countedTrain, hall]
  · next hall => simp [countedLane, countedTrain, hall, Config.sec]

theorem passage_lane_self {x : Train} (h : countingTrain (s.lane c).trains = some x) :
    (passage c s).lane c = countedLane x s.timebase (s.lane c) := by
  simp [State.lane, (passage_counts h).1]

theorem passage_lane_ne {x : Train} (h : countingTrain (s.lane c).trains = some x) (hd : d ≠ c) :
    (passage c s).lane d = s.lane d := by
  simp [State.lane, (passage_counts h).1, vector_get_set_ne _ _ _ _ hd]

theorem passage_lot {x : Train} (h : countingTrain (s.lane c).trains = some x) (n : Nat) :
    (passage c s).lot n = if some n ∈ firstUncounted x.trolleys then (s.lot n).map makeReady else s.lot n := by
  rw [← lot_modLots makeReady_number makeReady_makeReady]
  simp only [State.lot, (passage_counts h).2]

/-- Settles O17: a sample or a change by the branch of R25 it takes, a passage by whether a train is counting. -/
theorem gateAndPassages : Obligations.GateAndPassages := by
  unfold Obligations.GateAndPassages
  refine ⟨fun c s hp => ⟨fun b hb => ?_, fun b hb hn => ?_, fun hb hn => ?_, fun hb => ?_, fun hb ho hx => ?_⟩,
    fun c x s hp hb ho hx => ⟨_, exec_gateQualifiedChange hp, ?_⟩⟩
  · rw [exec_gateSample hp, sampleGate_equal hb]
  · rw [exec_gateSample hp, sampleGate_short hb hn]
  · rw [exec_gateSample hp, sampleGate_full (by simp [hb]) hn, gateChanges_clear hb]
  · rw [exec_gateQualifiedChange hp, gateChanges_clear hb]
  · rw [exec_gateQualifiedChange hp, gateChanges_open hb ho, passage_stray (by simpa using hx)]
    simp
  · have hx' : countingTrain ((s.setLane c { s.lane c with
        blocked := false, counter := 0, passageOpen := false }).lane c).trains = some x := by simpa using hx
    have lane := passage_lane_self hx'
    rw [State.setLane_lane_self] at lane
    rw [gateChanges_open hb ho, lane]
    refine ⟨rfl, rfl, rfl, rfl, rfl, rfl, fun d hd => ?_, fun n hn => ?_, fun n hn => ?_, by simp, by simp, by simp,
      by simp, by simp⟩
    · rw [passage_lane_ne hx' hd, State.setLane_lane_ne _ _ _ _ hd]
    · rw [passage_lot hx', if_pos hn]; rfl
    · rw [passage_lot hx', if_neg hn]; rfl

/-! ## Departures (R32) -/

/-- What a report adds to the queue stands behind what it held. -/
theorem raise_reports_prefix (b : ReportBody) : s.hlp.reports <+: (raise b s).hlp.reports := by
  unfold raise
  split
  · split
    · exact List.prefix_append _ _
    · exact List.prefix_rfl
  · exact List.prefix_rfl

/-- A report of an enabled class finds its place in a queue that has one (R198). -/
theorem raise_reports {b : ReportBody} (hon : classOn s.hlp.enables b.cls = true) (hroom : s.hlp.reports.length < 64) :
    (raise b s).hlp.reports.map Report.body = s.hlp.reports.map Report.body ++ [b] := by
  simp [raise, hon, Config.reportPlaces, hroom]

theorem losePosition_losePosition (l : Lot) : losePosition (losePosition l) = losePosition l := rfl

/-- The train has no lot left to sell, so that it leaves when it stands at the head (R32). -/
def leaves (s : State) (y : Train) : Bool := (placesOf y).all (passedOver s)

/-- The trains listed leave their lane, one after the other. -/
def departAll (c : ClockId) (gone : List Train) (s : State) : State := gone.foldl (fun s y => departHead c y s) s

/-- The report of a train that has left (R32). -/
def doneReport (s : State) (c : ClockId) (y : Train) : ReportBody :=
  .trainDone c y.number (placesIn s y .soldOut) (placesIn s y .done) (placesIn s y .unsold) (placesIn s y .missing)
    (vacantPlaces y)

theorem passedOver_some : passedOver s (some n) = true ↔ ∀ l, s.lot n = some l → Ended l := by
  simp only [passedOver]
  cases s.lot n with
  | none => simp
  | some l => simp [isEnded_iff]

/-- Which places are passed over depends on the states of the lots alone. -/
theorem passedOver_congr (h : ∀ n, t.lotState n = s.lotState n) : passedOver t = passedOver s := by
  have eq : ∀ (u : State) n, passedOver u (some n) = ((u.lotState n).map LotState.isEnded).getD true := fun u n => by
    simp only [passedOver, State.lotState]
    cases u.lot n <;> rfl
  funext p
  cases p with
  | none => rfl
  | some n => rw [eq, eq, h]

theorem leaves_congr (h : ∀ n, t.lotState n = s.lotState n) : leaves t = leaves s := by
  funext y
  rw [leaves, leaves, passedOver_congr h]

theorem placesIn_congr (h : ∀ n, t.lotState n = s.lotState n) : placesIn t = placesIn s := by
  have eq : ∀ (u : State) (p : Option Nat), (p.bind u.lot).map Lot.state = p.bind u.lotState := fun u p => by
    cases p <;> rfl
  funext y x
  simp only [placesIn, eq, show t.lotState = s.lotState from funext h]

theorem doneReport_congr (h : ∀ n, t.lotState n = s.lotState n) : doneReport t c = doneReport s c := by
  funext y
  simp only [doneReport, placesIn_congr h]

/-- The head train leaves its queue, its lots lose their positions, and then comes the report. -/
theorem departHead_eq (y : Train) : departHead c y s = raise (doneReport s c y) (modLots losePosition (placesOf y)
    (s.setLane c { s.lane c with trains := (s.lane c).trains.tail })) := rfl

theorem departHead_lot (y : Train) (n : Nat) :
    (departHead c y s).lot n = if some n ∈ placesOf y then (s.lot n).map losePosition else s.lot n := by
  simp only [departHead, raise_lot]
  exact lot_modLots (f := losePosition) (fun _ => rfl) losePosition_losePosition _ _

theorem departHead_lotState (y : Train) (n : Nat) : (departHead c y s).lotState n = s.lotState n := by
  simp only [State.lotState, departHead_lot]
  split
  · simp [Function.comp_def, losePosition]
  · rfl

theorem departHead_lane_self (y : Train) :
    (departHead c y s).lane c = { s.lane c with trains := (s.lane c).trains.tail } := by simp [departHead]

theorem departHead_lane_ne (y : Train) (hd : d ≠ c) : (departHead c y s).lane d = s.lane d := by
  simp [departHead, State.setLane_lane_ne _ _ _ _ hd]

theorem departHead_enables (y : Train) : (departHead c y s).hlp.enables = s.hlp.enables := by simp [departHead]

theorem departHead_reports_prefix (y : Train) : s.hlp.reports <+: (departHead c y s).hlp.reports := by
  rw [departHead_eq]
  simpa using raise_reports_prefix (s := modLots losePosition (placesOf y)
    (s.setLane c { s.lane c with trains := (s.lane c).trains.tail })) (doneReport s c y)

theorem departHead_reports (y : Train) (hon : s.hlp.enables.supply = true) (hroom : s.hlp.reports.length < 64) :
    (departHead c y s).hlp.reports.map Report.body = s.hlp.reports.map Report.body ++ [doneReport s c y] := by
  rw [departHead_eq, raise_reports]
  · simp
  · simpa [doneReport, ReportBody.cls, classOn] using hon
  · simpa using hroom

/-- The trains that leave are the longest part of the queue, from the head on, that has no lot left to sell. -/
theorem departFrom_eq_departAll (l : List Train) : departFrom c l s = departAll c (l.takeWhile (leaves s)) s := by
  induction l generalizing s with
  | nil => rfl
  | cons y l ih =>
    simp only [departFrom, List.takeWhile_cons]
    by_cases hy : leaves s y = true
    · rw [if_pos (by exact hy), if_pos hy, ih, leaves_congr (departHead_lotState y)]
      rfl
    · rw [if_neg (by exact hy), if_neg hy]
      rfl

theorem departAll_lot (gone : List Train) (n : Nat) : (departAll c gone s).lot n =
    if some n ∈ gone.flatMap placesOf then (s.lot n).map losePosition else s.lot n := by
  induction gone generalizing s with
  | nil => simp [departAll]
  | cons y gone ih =>
    rw [departAll, List.foldl_cons, ← departAll, ih, departHead_lot, List.flatMap_cons]
    by_cases hy : some n ∈ placesOf y <;> by_cases hg : some n ∈ gone.flatMap placesOf <;>
      simp [hy, hg, Function.comp_def, losePosition_losePosition]

theorem departAll_lotState (gone : List Train) (n : Nat) : (departAll c gone s).lotState n = s.lotState n :=
  List.foldlRecOn (motive := fun (u : State) => u.lotState n = s.lotState n) gone _ rfl
    fun _ h y _ => (departHead_lotState y n).trans h

theorem departAll_lane_self (gone : List Train) :
    (departAll c gone s).lane c = { s.lane c with trains := (s.lane c).trains.drop gone.length } := by
  induction gone generalizing s with
  | nil => rfl
  | cons y gone ih =>
    rw [departAll, List.foldl_cons, ← departAll, ih, departHead_lane_self]
    simp

theorem departAll_lane_ne (gone : List Train) (hd : d ≠ c) : (departAll c gone s).lane d = s.lane d :=
  List.foldlRecOn (motive := fun (u : State) => u.lane d = s.lane d) gone _ rfl
    fun _ h y _ => (departHead_lane_ne y hd).trans h

theorem departAll_reports_prefix (gone : List Train) : s.hlp.reports <+: (departAll c gone s).hlp.reports :=
  List.foldlRecOn (motive := fun (u : State) => s.hlp.reports <+: u.hlp.reports) gone _ List.prefix_rfl
    fun _ h y _ => h.trans (departHead_reports_prefix y)

/-- Each train that leaves has its TRAIN_DONE report while the queue has room for them all. -/
theorem departAll_reports (gone : List Train) (hon : s.hlp.enables.supply = true)
    (hroom : s.hlp.reports.length + gone.length ≤ 64) : (departAll c gone s).hlp.reports.map Report.body =
      s.hlp.reports.map Report.body ++ gone.map (doneReport s c) := by
  induction gone generalizing s with
  | nil => simp [departAll]
  | cons y gone ih =>
    rw [List.length_cons] at hroom
    have one := departHead_reports (c := c) y hon (by omega)
    have len : (departHead c y s).hlp.reports.length = s.hlp.reports.length + 1 := by
      simpa using congrArg List.length one
    rw [departAll, List.foldl_cons, ← departAll, ih (by rwa [departHead_enables]) (by omega), one,
      doneReport_congr (departHead_lotState y)]
    simp

/-- The trains at the head of a lane that the departure test lets leave (R32). -/
def departing (c : ClockId) (s : State) : List Train := (s.lane c).trains.takeWhile (leaves s)

theorem testDepartures_eq_departAll : testDepartures c s = departAll c (departing c s) s := departFrom_eq_departAll _

theorem testDepartures_lotState (n : Nat) : (testDepartures c s).lotState n = s.lotState n := by
  rw [testDepartures_eq_departAll, departAll_lotState]

theorem testDepartures_lot_gone (h : ∃ y ∈ departing c s, some n ∈ placesOf y) :
    (testDepartures c s).lot n = (s.lot n).map losePosition := by
  rw [testDepartures_eq_departAll, departAll_lot, if_pos (List.mem_flatMap.2 h)]

theorem testDepartures_lot_kept (h : ∀ y ∈ departing c s, some n ∉ placesOf y) :
    (testDepartures c s).lot n = s.lot n := by
  rw [testDepartures_eq_departAll, departAll_lot, if_neg (by simpa using h)]

theorem testDepartures_lane_ne (hd : d ≠ c) : (testDepartures c s).lane d = s.lane d := by
  rw [testDepartures_eq_departAll, departAll_lane_ne _ hd]

theorem testDepartures_lane_self :
    (testDepartures c s).lane c = { s.lane c with trains := ((testDepartures c s).lane c).trains } := by
  rw [testDepartures_eq_departAll, departAll_lane_self]

theorem testDepartures_trains : ((testDepartures c s).lane c).trains = (s.lane c).trains.dropWhile (leaves s) := by
  rw [testDepartures_eq_departAll, departAll_lane_self]
  exact (congrArg _ List.takeWhile_append_dropWhile.symm).trans List.drop_left

theorem departing_append_kept : departing c s ++ ((testDepartures c s).lane c).trains = (s.lane c).trains := by
  rw [testDepartures_trains]
  exact List.takeWhile_append_dropWhile

/-- The trains that leave have nothing to sell, and the train then at the head has something. -/
theorem leftBy_testDepartures : LeftBy (testDepartures c s) (departing c s) ((testDepartures c s).lane c).trains := by
  have same : leaves (testDepartures c s) = leaves s := leaves_congr testDepartures_lotState
  rw [departing, testDepartures_trains, ← same]
  refine ⟨fun y hy n l hn hl => ?_, fun y hy => ?_⟩
  · have all := List.mem_takeWhile_imp hy
    exact passedOver_some.1 (List.all_eq_true.1 all _ hn) l hl
  · have stays := List.head?_dropWhile_not (leaves (testDepartures c s)) (s.lane c).trains
    rw [hy] at stays
    obtain ⟨p, hp, hno⟩ := List.all_eq_false.1 stays
    cases p with
    | none => exact absurd rfl hno
    | some n =>
      obtain ⟨l, hl⟩ := not_forall.1 (mt passedOver_some.2 hno)
      obtain ⟨hl, hne⟩ := Classical.not_imp.1 hl
      exact ⟨n, l, hp, hl, hne⟩

theorem testDepartures_reports_prefix : s.hlp.reports <+: (testDepartures c s).hlp.reports := by
  rw [testDepartures_eq_departAll]
  exact departAll_reports_prefix _

theorem testDepartures_reports (hon : s.hlp.enables.supply = true)
    (hroom : s.hlp.reports.length + (departing c s).length ≤ 64) :
    (testDepartures c s).hlp.reports.map Report.body =
      s.hlp.reports.map Report.body ++ (departing c s).map (doneReport (testDepartures c s) c) := by
  rw [doneReport_congr testDepartures_lotState, testDepartures_eq_departAll]
  exact departAll_reports _ hon hroom

/-! ## The gap timer (R29) -/

/-- The trolleys of a train that no passage has counted. -/
def uncounted (x : Train) : List Trolley := x.trolleys.filter fun y => !y.counted

/-- The report of a train that has turned SHORT (R29). -/
def shortReport (c : ClockId) (x : Train) : ReportBody :=
  .short c x.number (x.trolleys.filter Trolley.counted).length (uncounted x).length
    (((uncounted x).flatMap Trolley.places).filter Option.isSome).length ((uncounted x).head?.map Trolley.tag)

/-- The state once the train `x` is SHORT and reported, before any train leaves (R29). -/
def fallShort (c : ClockId) (x : Train) (s : State) : State :=
  raise (shortReport c x) (modLots makeMissing ((uncounted x).flatMap Trolley.places)
    (s.setLane c { s.lane c with
      gapEnds := none, trains := replaceTrain { x with state := .short } (s.lane c).trains }))

theorem gapRunsOut_arriving {x : Train} (h : ((s.lane c).trains.find? fun t => t.state = .arriving) = some x) :
    gapRunsOut c s = testDepartures c (fallShort c x s) := by
  simp only [gapRunsOut, h]
  rfl

theorem fallShort_lane_self (x : Train) : (fallShort c x s).lane c =
    { s.lane c with gapEnds := none, trains := replaceTrain { x with state := .short } (s.lane c).trains } := by
  simp [fallShort]

theorem fallShort_lane_ne (x : Train) (hd : d ≠ c) : (fallShort c x s).lane d = s.lane d := by
  simp [fallShort, State.setLane_lane_ne _ _ _ _ hd]

theorem fallShort_lot (x : Train) (n : Nat) : (fallShort c x s).lot n =
    if some n ∈ (uncounted x).flatMap Trolley.places then (s.lot n).map makeMissing else s.lot n := by
  simp only [fallShort, raise_lot]
  exact lot_modLots makeMissing_number makeMissing_makeMissing _ _

theorem fallShort_enables (x : Train) : (fallShort c x s).hlp.enables = s.hlp.enables := by simp [fallShort]

theorem fallShort_reports (x : Train) (hon : s.hlp.enables.supply = true) (hroom : s.hlp.reports.length < 64) :
    (fallShort c x s).hlp.reports.map Report.body = s.hlp.reports.map Report.body ++ [shortReport c x] := by
  rw [fallShort, raise_reports]
  · simp
  · simpa [shortReport, ReportBody.cls, classOn] using hon
  · simpa using hroom

theorem exec_gapExpiry (h : s.hall.main = .present) {ends : Nat} (hg : (s.lane c).gapEnds = some ends) :
    exec (.gapExpiry c) s = .next (gapRunsOut c (s.reach ends)) := by
  refine (congrArg Host.Outcome.next (whenPowered_present h _)).trans ?_
  simp only [hg]

/-- Settles O18: the train falls SHORT and is reported, and then the head trains leave that have nothing to sell. -/
theorem gapExpires : Obligations.GapExpires := by
  unfold Obligations.GapExpires
  intro c ends x missed s hp hg hx hmissed
  obtain rfl : missed = uncounted x := hmissed
  generalize hv : fallShort c x (s.reach ends) = v
  have ht : gapRunsOut c (s.reach ends) = testDepartures c v := by rw [gapRunsOut_arriving (by simpa using hx), hv]
  have hlane : v.lane c =
      { s.lane c with gapEnds := none, trains := replaceTrain { x with state := .short } (s.lane c).trains } := by
    rw [← hv, fallShort_lane_self]; rfl
  have hlot : ∀ n, v.lot n =
      if some n ∈ (uncounted x).flatMap Trolley.places then (s.lot n).map makeMissing else s.lot n := fun n => by
    rw [← hv, fallShort_lot]; rfl
  have hreports : s.hlp.enables.supply = true → s.hlp.reports.length < 64 →
      v.hlp.reports.map Report.body = s.hlp.reports.map Report.body ++ [shortReport c x] := fun hon hroom => by
    rw [← hv]; exact fallShort_reports (s := s.reach ends) x hon hroom
  refine ⟨gapRunsOut c (s.reach ends), departing c v, exec_gapExpiry hp hg, by simp, ?lane, ?queue,
    ht ▸ leftBy_testDepartures, fun hon hroom => ?short, fun hon hroom => ?done, fun n l hl hq hn => ?missing,
    fun n hn => ?state, fun n l hl hn => ?lost, fun n l hl hn => ?kept, fun d hd => ?lanes, by simp, by simp, by simp,
    by simp, by simp⟩
  case lane => rw [ht, testDepartures_lane_self, hlane]
  case queue => rw [ht, departing_append_kept, hlane]
  case short =>
    obtain ⟨more, hmore⟩ := testDepartures_reports_prefix (c := c) (s := v)
    rw [ht, ← List.getElem?_map, ← hmore, List.map_append, hreports hon hroom]
    simp [shortReport, uncounted]
  case done =>
    have hon' : v.hlp.enables.supply = true := by rw [← hv, fallShort_enables]; exact hon
    have len : v.hlp.reports.length = s.hlp.reports.length + 1 := by
      simpa using congrArg List.length (hreports hon (by omega))
    rw [ht, List.map_drop, testDepartures_reports hon' (by omega), hreports hon (by omega)]
    exact List.drop_left' (by simp)
  case missing =>
    change State.lotState _ n = _
    rw [ht, testDepartures_lotState, State.lotState, hlot, if_pos hn, hl]
    simp [makeMissing, hq]
  case state =>
    change State.lotState _ n = _
    rw [ht, testDepartures_lotState, State.lotState, hlot, if_neg hn]
  case lost =>
    rw [ht, testDepartures_lot_gone hn, hlot, hl]
    split <;> rfl
  case kept =>
    rw [ht, testDepartures_lot_kept hn, hlot, hl]
    split
    · simp [makeMissing_position]
    · rfl
  case lanes =>
    rw [ht, testDepartures_lane_ne hd, ← hv, fallShort_lane_ne x hd]
    rfl

end Sys2Proof.Machine
end

section
/-! The cold start (R16, R38, R83, R105, R143, R165): a power-on without a valid retained store, field by field. -/

set_option Elab.async false

namespace Sys2Proof.Machine

open Sys2Proof.Safety

variable {s : State} {backup : BackupSupply}

theorem exec_powerOn_cold (h : s.hall.retainedValid = false) :
    exec (.powerOn backup) s = .next (coldStart backup s) := by
  show Host.Outcome.next (startBySupply _ _ _) = _
  simp [startBySupply, h]

/-! ## What a cold start leaves -/

@[simp] theorem coldStart_lots : (coldStart backup s).lots = [] := by
  cases backup <;> simp [coldStart, reportBackup, State.reset]

@[simp] theorem coldStart_lane (c : ClockId) : (coldStart backup s).lane c = .atStart := by
  cases backup <;> simp [coldStart, reportBackup, State.reset, State.lane]

@[simp] theorem coldStart_clocks : (coldStart backup s).clocks = Vector.replicate 4 .atStart := by
  cases backup <;> simp [coldStart, reportBackup, State.reset]

@[simp] theorem coldStart_clock (c : ClockId) : (coldStart backup s).clock c = .atStart := by simp [State.clock]

@[simp] theorem coldStart_ledger : (coldStart backup s).ledger = .atStart := by
  cases backup <;> simp [coldStart, reportBackup, State.reset]

@[simp] theorem coldStart_bus : (coldStart backup s).bus = .atStart := by
  cases backup <;> simp [coldStart, reportBackup, State.reset]

theorem candidate_coldStart (c : ClockId) : candidate (coldStart backup s) c = none := by
  simp [candidate, Lane.atStart]

/-- No report but BACKUP_LOW waits after a cold start, and that one only for a reading of LOW (R192). -/
theorem coldStart_reports : ∀ x ∈ (coldStart backup s).hlp.reports, x.body = .backupLow .low := by
  cases backup <;>
    simp [coldStart, reportBackup, raise, HostLink.atStart, allEnabled, classOn, ReportBody.cls, Config.reportPlaces]

theorem reservationsHeld_coldStart : reservationsHeld (coldStart backup s) = 0 := by
  simp [reservationsHeld, countCells, Clock.atStart]

theorem freeSpace_coldStart : freeSpace (coldStart backup s) = 8192 := by
  simp [freeSpace, reservationsHeld_coldStart, unreleased, Ledger.atStart, Journal.atStart, Config.journalPlaces]

/-- With clock 4 the last served, a waiting commit of clock 1 is the first chosen (R135, R143). -/
theorem choose_clock1 {a : Arbiter} (hl : a.lastServed = 3) (h : (a.commits.get 0).isSome) : choose a = .commit 0 := by
  simp [choose, serviceOrder, hl, h]

theorem busStarted_coldStart : BusStarted (coldStart backup s) := by
  refine ⟨fun r => ?_, by simp [DeskBus.atStart]⟩
  simp only [State.row, coldStart_bus, DeskBus.atStart, Vector.get_replicate]
  rfl

/-- The first line of an emptied journal takes sequence 1 (R149, R165). -/
theorem writeLine_coldStart (l : JournalLine) :
    (writeLine l (coldStart backup s)).ledger.journal.lines.map JournalLine.sequence = [1] := by
  simp [writeLine, Ledger.atStart, Journal.atStart]

/-- Settles O11: each block's fields after a cold start are its start values. -/
theorem coldStarts : Obligations.ColdStarts := by
  unfold Obligations.ColdStarts
  refine ⟨fun backup s h => ⟨_, exec_powerOn_cold h, coldStart_lots, fun c => ?lanes⟩,
    fun backup s h => ⟨_, exec_powerOn_cold h, fun c => ?clocks⟩, fun backup s h => ⟨_, exec_powerOn_cold h, ?ledger⟩,
    fun backup s h => ⟨_, exec_powerOn_cold h, busStarted_coldStart, coldStart_reports⟩⟩
  case lanes => simp [candidate_coldStart, Lane.atStart]
  case clocks => simp [candidate_coldStart, Clock.atStart, ClockParams.default]
  case ledger =>
    simp only [coldStart_ledger]
    exact ⟨rfl, Vector.get_replicate 8 0, rfl, Vector.get_replicate 4 none, rfl, rfl, fun _ => choose_clock1,
      Vector.get_replicate 4 none, rfl, rfl, rfl, rfl, reservationsHeld_coldStart, freeSpace_coldStart,
      Vector.get_replicate 4 none, rfl, writeLine_coldStart, rfl, rfl⟩

end Sys2Proof.Machine
end

section
/-! The arithmetic of a press (R47, R48): the age that a tag gives back, and where a press is placed in a collection. -/

namespace Sys2Proof.Machine

/-! ## The press step (R47) -/

/-- The tag gives back the age of a press less than 256 steps old. -/
theorem pressAge_mod {k j : Nat} (hj : j ≤ k) (hage : k - j < 256) : pressAge k (j % 256) = k - j := by
  unfold pressAge
  omega

theorem pressStep_mod {k j limit : Nat} (hj : j ≤ k) (hlimit : k - j ≤ limit) (hage : k - j < 256) :
    pressStep k (j % 256) limit = some j := by
  rw [pressStep, pressAge_mod hj hage, if_pos ⟨Nat.sub_le k j, hlimit⟩, Nat.sub_sub_self hj]

/-! ## The place of a press (R48, R110) -/

/-- `a` does not come after `b` by press step, then offset (R48). -/
abbrev KeyLe (a b : Press) : Prop := a.step < b.step ∨ (a.step = b.step ∧ a.offset ≤ b.offset)

/-- `a` comes before `b` by press step, then offset (R48). -/
abbrev KeyLt (a b : Press) : Prop := a.step < b.step ∨ (a.step = b.step ∧ a.offset < b.offset)

theorem not_keyLt {a b : Press} : ¬ KeyLt a b ↔ KeyLe b a := by omega

theorem KeyLt.le {a b : Press} (h : KeyLt a b) : KeyLe a b := by omega

theorem KeyLt.trans_le {a b c : Press} (hab : KeyLt a b) (hbc : KeyLe b c) : KeyLt a c := by omega

theorem insertPress_cons_of_lt {p q : Press} (h : KeyLt p q) (l : List Press) :
    insertPress p (q :: l) = p :: q :: l := if_pos h

theorem insertPress_cons_of_not_lt {p q : Press} (h : ¬ KeyLt p q) (l : List Press) :
    insertPress p (q :: l) = q :: insertPress p l := if_neg h

/-- A press put into an ordered collection parts it: no entry in front comes after the press, every one behind does. -/
theorem insertPress_parts (p : Press) {l : List Press} (h : l.Pairwise KeyLe) :
    ∃ front back, insertPress p l = front ++ p :: back ∧ l = front ++ back ∧
      (∀ q ∈ front, KeyLe q p) ∧ ∀ q ∈ back, KeyLt p q := by
  induction h with
  | nil => exact ⟨[], [], rfl, rfl, by simp, by simp⟩
  | @cons q l hq _ ih =>
    by_cases hp : KeyLt p q
    · refine ⟨[], q :: l, insertPress_cons_of_lt hp l, rfl, by simp, fun x hx => ?_⟩
      obtain rfl | hx := List.mem_cons.1 hx
      · exact hp
      · exact hp.trans_le (hq x hx)
    · obtain ⟨front, back, hins, rfl, hfront, hback⟩ := ih
      refine ⟨q :: front, back, ?_, rfl, ?_, hback⟩
      · rw [insertPress_cons_of_not_lt hp, hins, List.cons_append]
      · exact List.forall_mem_cons.2 ⟨not_keyLt.1 hp, hfront⟩

theorem insertPress_pairwise (p : Press) {l : List Press} (h : l.Pairwise KeyLe) :
    (insertPress p l).Pairwise KeyLe := by
  obtain ⟨front, back, hins, rfl, hfront, hback⟩ := insertPress_parts p h
  obtain ⟨hff, hbb, hfb⟩ := List.pairwise_append.1 h
  rw [hins, List.pairwise_append, List.pairwise_cons]
  exact ⟨hff, ⟨fun q hq => (hback q hq).le, hbb⟩, fun q hq => List.forall_mem_cons.2 ⟨hfront q hq, hfb q hq⟩⟩

/-- Settles O30: the age is below 256, and a press parts the ordered collection it is put into. -/
theorem pressAgeAndOrder : Obligations.PressAgeAndOrder := by
  unfold Obligations.PressAgeAndOrder
  refine ⟨fun k j limit hlimit hj hage => pressStep_mod hj hage (by omega), fun p l h => ?_⟩
  obtain ⟨front, back, hins, hl, -, hback⟩ := insertPress_parts p h
  refine ⟨insertPress_pairwise p h, ?_, front, back, hins, hl, hback⟩
  rw [hins, hl, List.length_append, List.length_append, List.length_cons, Nat.add_assoc]

end Sys2Proof.Machine
end

section
/-! The invoice operations of the Settlement Unit (R55, R56, R141, R162, R163): how a host ledger request completes with
nothing waiting, what closing one invoice or a list of them changes, and PAYMENT-POST, INVOICE-CLOSE and DAY-CLOSE. -/

namespace Sys2Proof.Machine

open Sys2Proof.Safety

variable {s t : State} {tag : Byte} {line : Option ClockId} {n : Nat}

/-! ## A completion with nothing waiting (R134, R135, R196) -/

theorem exec_ledgerOperationComplete {r : LedgerRequest} {v : Service}
    (h : s.ledger.arbiter.inProgress = some (.host tag r line v)) (hr : ∀ n, r ≠ .saleVoid n) :
    exec .ledgerOperationComplete s = .next (completeHost tag r v s) := by
  show execLedgerOperationComplete s = _
  unfold execLedgerOperationComplete
  rw [h]
  cases r with
  | saleVoid n => exact absurd rfl (hr n)
  | _ => rfl

theorem choose_nothing {a : Arbiter} (hr : a.requests = []) (hc : ∀ c, a.commits.get c = none) :
    choose a = .nothing := by
  simp [choose, serviceOrder, hr, hc]

theorem choiceNow_nothing (h : NothingWaits s) : choiceNow s = .nothing := by
  simp [choiceNow, choose_nothing h.1 h.2]

/-- With nothing waiting and no reset under way a completion serves nothing further. -/
theorem afterCompletion_nothing (h : NothingWaits s) (hreset : s.hlp.resetting = none) :
    afterCompletion .nothing s = s := by
  simp [afterCompletion, serveWaiting, serveChoice, choose_nothing h.1 h.2, continueReset, hreset]

theorem releaseAllDeferred_nil (h : s.ledger.journal.deferred = []) : releaseAllDeferred s = s := by
  have hjournal : { s.ledger.journal with deferred := [] } = s.ledger.journal := by rw [← h]
  rw [releaseAllDeferred, h, hjournal]
  rfl

/-- With nothing waiting, no reset under way and no clock deferred, a request that leaves the arbiter and the host link
alone completes with its own changes and its reply. -/
theorem completeHost_replied {r : LedgerRequest} {v : Service} {status : Status} {body : ReplyBody}
    (hmain : s.hall.main = .present) (hwaits : NothingWaits s) (hreset : s.hlp.resetting = none)
    (ha : requestChanges r v (free s) = ⟨t, status, body⟩)
    (harbiter : t.ledger.arbiter = (free s).ledger.arbiter) (hhlp : t.hlp = s.hlp)
    (hdeferred : r = .dayClose → t.ledger.journal.deferred = []) :
    completeHost tag r v s = replied tag (128 + r.kind) status body t := by
  have hfree : NothingWaits (free s) := hwaits
  have ht : NothingWaits (replied tag (128 + r.kind) status body t) := by
    show t.ledger.arbiter.requests = [] ∧ ∀ c, t.ledger.arbiter.commits.get c = none
    rw [harbiter]
    exact hfree
  have hlast : afterCompletion .nothing (replied tag (128 + r.kind) status body t) = _ :=
    afterCompletion_nothing ht ((congrArg HostLink.resetting hhlp).trans hreset)
  have hclear : clearProgress s = free s := rfl
  have hmain' : (free s).hall.main = .present := hmain
  simp only [completeHost, hclear, ha, hmain', choiceNow_nothing hfree]
  cases r with
  | dayClose =>
    have hreleased := releaseAllDeferred_nil (s := replied tag (128 + 27) status body t) (hdeferred rfl)
    exact (congrArg (afterCompletion .nothing) hreleased).trans hlast
  | _ => exact hlast

/-- A host ledger request in progress completes with its own changes and its reply. -/
theorem exec_ledgerOperationComplete_replied {r : LedgerRequest} {v : Service} {status : Status} {body : ReplyBody}
    (hmain : s.hall.main = .present) (hwaits : NothingWaits s) (hreset : s.hlp.resetting = none)
    (hprogress : s.ledger.arbiter.inProgress = some (.host tag r line v)) (hr : ∀ n, r ≠ .saleVoid n)
    (ha : requestChanges r v (free s) = ⟨t, status, body⟩)
    (harbiter : t.ledger.arbiter = (free s).ledger.arbiter) (hhlp : t.hlp = s.hlp)
    (hdeferred : r = .dayClose → t.ledger.journal.deferred = []) :
    exec .ledgerOperationComplete s = .next (replied tag (128 + r.kind) status body t) :=
  (exec_ledgerOperationComplete hprogress hr).trans
    (congrArg _ (completeHost_replied hmain hwaits hreset ha harbiter hhlp hdeferred))

/-! ## Closing invoices (R55, R162) -/

/-- An invoice as its closing leaves it. -/
def closedForm (i : Invoice) : Invoice :=
  { i with state := .closed, total := some (totalOf i.debits), residue := some (residueOf i.debits) }

/-- An account as the closing of its open invoice, of these debits, leaves it. -/
def settledForm (debits : Nat) (b : Buyer) : Buyer :=
  { b with openInvoice := none, committed := b.committed - residueOf debits }

@[simp] theorem closedForm_number (i : Invoice) : (closedForm i).number = i.number := rfl

@[simp] theorem closedForm_closedForm (i : Invoice) : closedForm (closedForm i) = closedForm i := rfl

theorem closeInvoice_eq_self (h : s.invoice n = none) : closeInvoice n s = s := by
  simp [closeInvoice, h]

theorem closeInvoice_eq {i : Invoice} (h : s.invoice n = some i) :
    closeInvoice n s = (s.modInvoice n closedForm).modBuyer i.buyer (settledForm i.debits) := by
  simp only [closeInvoice, h]
  rfl

/-- Whether the number is held or not, every invoice with it is closed and every other one stays. -/
theorem closeInvoice_invoices (n : Nat) (s : State) :
    (closeInvoice n s).ledger.invoices = modKey Invoice.number n closedForm s.ledger.invoices := by
  cases h : s.invoice n with
  | some i => rw [closeInvoice_eq h, State.modBuyer_ledger_invoices, State.modInvoice_ledger_invoices]
  | none =>
    have hother : ∀ i ∈ s.ledger.invoices, (if i.number = n then closedForm i else i) = i :=
      fun i hi => if_neg (findKey_eq_none_iff.1 h i hi)
    rw [closeInvoice_eq_self h, modKey, List.map_congr_left hother, List.map_id']

/-- Closing reaches the accounts and the invoices alone. -/
theorem closeInvoice_frame (n : Nat) (s : State) :
    ∃ buyers invoices, closeInvoice n s = { s with ledger := { s.ledger with
      buyers := buyers, invoices := invoices } } := by
  cases h : s.invoice n with
  | none => exact ⟨_, _, closeInvoice_eq_self h⟩
  | some i => exact ⟨_, _, closeInvoice_eq h⟩

/-- `s` with each invoice of a list closed, one after the other. -/
def closeAll (l : List Invoice) (s : State) : State := l.foldl (fun s i => closeInvoice i.number s) s

theorem closeAll_cons (i : Invoice) (l : List Invoice) (s : State) :
    closeAll (i :: l) s = closeAll l (closeInvoice i.number s) := rfl

theorem closeAll_frame (l : List Invoice) (s : State) :
    ∃ buyers invoices, closeAll l s = { s with ledger := { s.ledger with
      buyers := buyers, invoices := invoices } } := by
  induction l generalizing s with
  | nil => exact ⟨_, _, rfl⟩
  | cons i l ih =>
    obtain ⟨buyers, invoices, hi⟩ := closeInvoice_frame i.number s
    obtain ⟨buyers', invoices', hl⟩ := ih (closeInvoice i.number s)
    exact ⟨buyers', invoices', by rw [closeAll_cons, hl, hi]⟩

theorem closeAll_invoices (l : List Invoice) (s : State) :
    (closeAll l s).ledger.invoices =
      s.ledger.invoices.map fun j => if j.number ∈ l.map Invoice.number then closedForm j else j := by
  induction l generalizing s with
  | nil => simp [closeAll]
  | cons i l ih =>
    rw [closeAll_cons, ih, closeInvoice_invoices, modKey, List.map_map]
    refine List.map_congr_left fun j _ => ?_
    by_cases hi : j.number = i.number <;> simp [hi]

/-- The residues that an account has against it among the invoices of a list. -/
def residuesOf (buyer : Nat) (l : List Invoice) : Nat :=
  ((l.filter fun i => i.buyer = buyer).map fun i => residueOf i.debits).sum

/-- Where the invoices of a list are held under different numbers, an account that has some of them loses its open
invoice, and their residues from committed. -/
theorem closeAll_buyers {l : List Invoice} (hl : (l.map Invoice.number).Nodup)
    (hs : ∀ i ∈ l, s.invoice i.number = some i) :
    (closeAll l s).ledger.buyers = s.ledger.buyers.map fun b => { b with
      openInvoice := if l.any (fun i => i.buyer = b.number) then none else b.openInvoice
      committed := b.committed - residuesOf b.number l } := by
  induction l generalizing s with
  | nil => simp [closeAll, residuesOf]
  | cons i l ih =>
    obtain ⟨hi, hl⟩ := List.nodup_cons.1 hl
    obtain ⟨hfound, hs⟩ := List.forall_mem_cons.1 hs
    have hrest : ∀ j ∈ l, (closeInvoice i.number s).invoice j.number = some j := by
      intro j hj
      have hne : j.number ≠ i.number := fun e => hi (e ▸ List.mem_map_of_mem hj)
      rw [closeInvoice_eq hfound, State.modBuyer_invoice, State.modInvoice_invoice_ne _ _ closedForm_number hne,
        hs j hj]
    rw [closeAll_cons, ih hl hrest, closeInvoice_eq hfound, State.modBuyer_ledger_buyers, modKey, List.map_map,
      State.modInvoice_ledger_buyers]
    refine List.map_congr_left fun b _ => ?_
    by_cases hb : b.number = i.buyer
    · simp [hb, settledForm, residuesOf, Nat.sub_sub]
    · simp [hb, Ne.symm hb, residuesOf]

/-! ## PAYMENT-POST and INVOICE-CLOSE (R56, R141, R162) -/

theorem committedOf_eq {b : Buyer} (h : s.buyer n = some b) : committedOf s n = b.committed := by
  simp [committedOf, h]

theorem availableOf_eq {b : Buyer} (h : s.buyer n = some b) : availableOf s n = b.limit - b.committed := by
  simp [availableOf, availableCredit, h]

theorem modBuyer_buyer_of_some {f : Buyer → Buyer} {b : Buyer} (hf : ∀ x, (f x).number = x.number)
    (h : s.buyer n = some b) : (s.modBuyer n f).buyer n = some (f b) := by
  rw [State.modBuyer_buyer_self s f hf, h, Option.map_some]

/-- The debt of a total taken from a buyer's committed, and the invoice's slot freed (R56). -/
def paidState (s : State) (n buyer total : Nat) : State :=
  let paid := s.modBuyer buyer fun b => { b with committed := b.committed - 10 * total }
  { paid with ledger := { paid.ledger with invoices := dropKey Invoice.number n s.ledger.invoices } }

theorem applyPayment_eq {i : Invoice} {b : Buyer} {total : Nat} (hi : s.invoice n = some i)
    (htotal : i.total = some total) (hb : s.buyer i.buyer = some b) :
    applyPayment n s = ⟨paidState s n i.buyer total, .ok,
      .paid i.buyer total (b.committed - 10 * total) (b.limit - (b.committed - 10 * total))⟩ := by
  have hpaid : (paidState s n i.buyer total).buyer i.buyer = some { b with committed := b.committed - 10 * total } :=
    modBuyer_buyer_of_some (fun _ => rfl) hb
  have hanswer : applyPayment n s = accept (paidState s n i.buyer total)
      (.paid i.buyer total (committedOf (paidState s n i.buyer total) i.buyer)
        (availableOf (paidState s n i.buyer total) i.buyer)) := by
    simp only [applyPayment, hi, htotal]
    rfl
  rw [hanswer, committedOf_eq hpaid, availableOf_eq hpaid]
  rfl

theorem applyClose_eq {i : Invoice} {b : Buyer} (hi : s.invoice n = some i) (hb : s.buyer i.buyer = some b) :
    applyClose n s = ⟨(s.modInvoice n closedForm).modBuyer i.buyer (settledForm i.debits), .ok, .invoiceClosed
      { invoice := n, buyer := i.buyer, lineCount := i.lineCount, goods := i.goods, levies := i.levies,
        debits := i.debits, total := totalOf i.debits, residue := residueOf i.debits,
        committed := b.committed - residueOf i.debits }⟩ := by
  have hsettled : ((s.modInvoice n closedForm).modBuyer i.buyer (settledForm i.debits)).buyer i.buyer =
      some (settledForm i.debits b) := modBuyer_buyer_of_some (fun _ => rfl) hb
  simp only [applyClose, hi, closeInvoice_eq hi, committedOf_eq hsettled]
  rfl

/-- INVOICE-CLOSE finds an OPEN invoice by its number, and a buyer's open invoice by the buyer. -/
theorem applyRequest_invoiceClose {which : InvoiceChoice} {i : Invoice}
    (hwhich : which = .invoice n ∨ ∃ m a, which = .buyer m ∧ s.buyer m = some a ∧ a.openInvoice = some n)
    (hi : s.invoice n = some i) (hopen : i.state = .opened) :
    applyRequest s (.invoiceClose which) = applyClose n s := by
  have hnumber : (invoiceToClose s which).2 = some n := by
    obtain rfl | ⟨m, a, rfl, ha, hn⟩ := hwhich
    · simp [invoiceToClose, hi, hopen]
    · simp [invoiceToClose, ha, hn]
  simp only [applyRequest, hnumber]

/-! ## DAY-CLOSE (R163) -/

theorem mem_openInvoices {i : Invoice} : i ∈ openInvoices s ↔ i ∈ s.ledger.invoices ∧ i.state = .opened := by
  simp [openInvoices]

/-- No invoice is OPEN after a DAY-CLOSE, whatever their numbers. -/
theorem closeAll_openInvoices_closed : ∀ i ∈ (closeAll (openInvoices s) s).ledger.invoices, i.state = .closed := by
  simp only [closeAll_invoices, List.forall_mem_map]
  intro i hi
  cases hstate : i.state with
  | opened => rw [if_pos (List.mem_map_of_mem (mem_openInvoices.2 ⟨hi, hstate⟩)), closedForm]
  | closed => split <;> simp [closedForm, hstate]

theorem closeAll_openInvoices_invoices (h : (s.ledger.invoices.map Invoice.number).Nodup) :
    (closeAll (openInvoices s) s).ledger.invoices =
      s.ledger.invoices.map fun i => if i.state = .opened then closedForm i else i := by
  rw [closeAll_invoices]
  refine List.map_congr_left fun i hi => if_congr ⟨fun hmem => ?_, fun hopen => ?_⟩ rfl rfl
  · obtain ⟨j, hj, hnumber⟩ := List.mem_map.1 hmem
    obtain ⟨hj, hopen⟩ := mem_openInvoices.1 hj
    exact List.inj_on_of_nodup_map h hj hi hnumber ▸ hopen
  · exact List.mem_map_of_mem (mem_openInvoices.2 ⟨hi, hopen⟩)

theorem any_openInvoices (p : Invoice → Bool) :
    (openInvoices s).any p = s.ledger.invoices.any fun i => i.state = .opened && p i := List.any_filter

theorem residuesOf_openInvoices (buyer : Nat) : residuesOf buyer (openInvoices s) =
    ((s.ledger.invoices.filter fun i => i.state = .opened && i.buyer = buyer).map fun i => residueOf i.debits).sum := by
  simp only [residuesOf, openInvoices, List.filter_filter, Bool.and_comm]

theorem closeAll_openInvoices_buyers (h : (s.ledger.invoices.map Invoice.number).Nodup) :
    (closeAll (openInvoices s) s).ledger.buyers = s.ledger.buyers.map fun b => { b with
      openInvoice := if s.ledger.invoices.any (fun i => i.state = .opened && i.buyer = b.number) then none
        else b.openInvoice
      committed := b.committed - ((s.ledger.invoices.filter fun i =>
        i.state = .opened && i.buyer = b.number).map fun i => residueOf i.debits).sum } := by
  have hnodup : ((openInvoices s).map Invoice.number).Nodup := h.sublist (List.filter_sublist.map _)
  have hheld : ∀ i ∈ openInvoices s, s.invoice i.number = some i := fun i hi =>
    (findKey_eq_some_iff h).2 ⟨(mem_openInvoices.1 hi).1, rfl⟩
  rw [closeAll_buyers hnodup hheld]
  simp only [residuesOf_openInvoices, any_openInvoices]

/-! ## The statement of the completions -/

/-- Settles O41: each request's own changes, on the part with nothing in progress. -/
theorem invoiceOperationsComplete : Obligations.InvoiceOperationsComplete := by
  unfold Obligations.InvoiceOperationsComplete
  intro tag line s hmain hwaits hreset
  refine ⟨fun n i b total hprogress hi htotal hb => ?payment,
    fun which n i b hprogress hwhich hi hopen hb => ?close, fun hprogress hdeferred => ?dayClose⟩
  case payment =>
    exact exec_ledgerOperationComplete_replied hmain hwaits hreset hprogress (by simp)
      (applyPayment_eq (s := free s) hi htotal hb) rfl rfl (by simp)
  case close =>
    exact exec_ledgerOperationComplete_replied hmain hwaits hreset hprogress (by simp)
      ((applyRequest_invoiceClose (s := free s) hwhich hi hopen).trans (applyClose_eq (s := free s) hi hb))
      rfl rfl (by simp)
  case dayClose =>
    obtain ⟨buyers, invoices, hframe⟩ := closeAll_frame (openInvoices (free s)) (free s)
    have hclosed := closeAll_openInvoices_closed (s := free s)
    have hinvoices := closeAll_openInvoices_invoices (s := free s)
    have hbuyers := closeAll_openInvoices_buyers (s := free s)
    rw [hframe] at hclosed hinvoices hbuyers
    refine ⟨_, exec_ledgerOperationComplete_replied hmain hwaits hreset hprogress (by simp)
      (congrArg (accept · _) hframe) rfl rfl (fun _ => hdeferred), hclosed, fun hnumbers => ?_,
      rfl, rfl, rfl, rfl, rfl, rfl⟩
    have hnodup : ((free s).ledger.invoices.map Invoice.number).Nodup := List.pairwise_map.2 hnumbers
    exact ⟨hinvoices hnodup, hbuyers hnodup⟩

end Sys2Proof.Machine
end

section
/-! What the moves of the Clock Engine change on their clock and board, and what they leave: the readings that the
statements about the clock requests and the clock events (chapter 4) are put together from. -/

set_option Elab.async false

namespace Sys2Proof.Machine

open Sys2Proof.Safety

variable {s t : State} {c d : ClockId} {n : Nat}

/-! ## What a reply leaves -/

section
variable (tag : Byte) (kind : Nat) (status : Status) (body : ReplyBody) (s : State)

@[simp] theorem replied_lots : (replied tag kind status body s).lots = s.lots := rfl
@[simp] theorem replied_lot : (replied tag kind status body s).lot n = s.lot n := rfl
@[simp] theorem replied_lanes : (replied tag kind status body s).lanes = s.lanes := rfl
@[simp] theorem replied_clock : (replied tag kind status body s).clock c = s.clock c := rfl
@[simp] theorem replied_bus : (replied tag kind status body s).bus = s.bus := rfl
@[simp] theorem replied_ledger : (replied tag kind status body s).ledger = s.ledger := rfl
@[simp] theorem replied_hall : (replied tag kind status body s).hall = s.hall := rfl
@[simp] theorem replied_replies : (replied tag kind status body s).hlp.replies =
    s.hlp.replies ++ [plainReply tag kind status body] := rfl

end

/-! ## The clock's own board -/

theorem markChanged_snapshotChanged : ((markChanged c s).board c).snapshotChanged = true := by simp [markChanged]

/-- A priority update writes its own board alone, and there keeps ONLINE as it is (R173). -/
theorem askUpdate_board (c : ClockId) (s : State) :
    ∃ b, b.online = (s.board c).online ∧ askUpdate c s = s.setBoard c b := by
  unfold askUpdate
  split
  · split
    · exact ⟨_, by rfl, rfl⟩
    · exact ⟨_, by rfl, rfl⟩
    · exact ⟨_, by rfl, rfl⟩
  · exact ⟨_, by rfl, rfl⟩

theorem askUpdate_board_ne (h : d ≠ c) : (askUpdate c s).board d = s.board d := by
  obtain ⟨b, -, e⟩ := askUpdate_board c s
  rw [e, State.setBoard_board_ne _ _ _ _ h]

theorem askUpdate_online : ((askUpdate c s).board c).online = (s.board c).online := by
  obtain ⟨b, hb, e⟩ := askUpdate_board c s
  rw [e, State.setBoard_board_self, hb]

/-! ## A tick handed over (R46, R91, R92) -/

/-- With fewer than four ticks of the clock pending the tick joins the tail (R91). -/
theorem handTick_ticks (h : pendingOf c s.bus.ticks < 4) : (handTick c s).bus.ticks =
    s.bus.ticks ++ [{ clock := c, run := (s.clock c).run, tag := (s.clock c).k % 256 }] := by
  rw [handTick_bus_ticks, queueTick, if_pos (by exact h)]

@[simp] theorem queueTick_activity (x : Tick) (b : DeskBus) : (queueTick x b).activity = b.activity := by
  unfold queueTick; split <;> rfl
@[simp] theorem queueTick_poll (x : Tick) (b : DeskBus) : (queueTick x b).poll = b.poll := by
  unfold queueTick; split <;> rfl
@[simp] theorem queueTick_lineHeld (x : Tick) (b : DeskBus) : (queueTick x b).lineHeld = b.lineHeld := by
  unfold queueTick; split <;> rfl
@[simp] theorem startTicks_poll (b : DeskBus) : (startTicks b).poll = b.poll := by unfold startTicks; split <;> rfl
theorem startTicks_activity (b : DeskBus) : (startTicks b).activity =
    if b.activity = .idle ∧ b.poll = none ∧ b.lineHeld = false then .sending else b.activity := by
  unfold startTicks; split <;> rfl

@[simp] theorem handTick_bus_poll : (handTick c s).bus.poll = s.bus.poll := by simp [handTick]

/-- A tick handed over on a free line is sent at once (R92). -/
theorem handTick_activity : (handTick c s).bus.activity =
    if s.bus.activity = .idle ∧ s.bus.poll = none ∧ s.bus.lineHeld = false then .sending else s.bus.activity := by
  simp [handTick, startTicks_activity]

/-! ## Reservations and free space (R64, R147) -/

theorem reservationsHeld_congr (h : ∀ d, (t.clock d).reservation = (s.clock d).reservation) :
    reservationsHeld t = reservationsHeld s := by
  have h : ∀ d, (t.clocks.get d).reservation = (s.clocks.get d).reservation := h
  simp only [reservationsHeld, countCells, h]

theorem setClock_reservation {x : Clock} (h : x.reservation = (s.clock c).reservation) (d : ClockId) :
    ((s.setClock c x).clock d).reservation = (s.clock d).reservation := by
  by_cases hd : d = c
  · subst hd; simpa using h
  · rw [State.setClock_clock_ne _ _ _ _ hd]

theorem reservationsHeld_eq_sum : reservationsHeld s = ∑ d, (s.clock d).reservation.toNat := by
  simp only [reservationsHeld, countCells, allClocks, Fin.sum_univ_four, State.clock, List.filter_cons, List.filter_nil]
  cases (s.clocks.get 0).reservation <;> cases (s.clocks.get 1).reservation <;>
    cases (s.clocks.get 2).reservation <;> cases (s.clocks.get 3).reservation <;> rfl

/-- A clock that gives up its reservation makes the number held one less. -/
theorem reservationsHeld_release (h : (s.clock c).reservation = true) (hc : (t.clock c).reservation = false)
    (hd : ∀ d, d ≠ c → t.clock d = s.clock d) : reservationsHeld t + 1 = reservationsHeld s := by
  have others : ∑ d ∈ Finset.univ.erase c, (t.clock d).reservation.toNat =
      ∑ d ∈ Finset.univ.erase c, (s.clock d).reservation.toNat :=
    Finset.sum_congr rfl fun d hne => by rw [hd d (Finset.ne_of_mem_erase hne)]
  rw [reservationsHeld_eq_sum, reservationsHeld_eq_sum, ← Finset.sum_erase_add _ _ (Finset.mem_univ c),
    ← Finset.sum_erase_add _ _ (Finset.mem_univ c), others, h, hc]
  rfl

/-- What can be granted depends on the reservations held and the journal's numbers alone. -/
theorem grantable_congr (hr : ∀ d, (t.clock d).reservation = (s.clock d).reservation) (hl : t.ledger = s.ledger) :
    grantable t = grantable s := by
  have held := reservationsHeld_congr hr
  unfold grantable freeSpace sequenceRoom unreleased
  rw [held, hl]

theorem dayCloseRuns_congr (h : t.ledger = s.ledger) : dayCloseRuns t = dayCloseRuns s := by
  simp only [dayCloseRuns, h]

/-! ## Entry to RUNNING and to HELD (R65, R66, R72) -/

theorem leaveLoaded_clocks : (leaveLoaded c s).clocks = s.clocks.set c { s.clock c with asked := false } := rfl
theorem leaveLoaded_clock_self : (leaveLoaded c s).clock c = { s.clock c with asked := false } := by simp [leaveLoaded]
@[simp] theorem leaveLoaded_lines : (leaveLoaded c s).ledger.journal.lines = s.ledger.journal.lines := rfl
@[simp] theorem leaveLoaded_buyers : (leaveLoaded c s).ledger.buyers = s.ledger.buyers := rfl

/-- The clock's values on entry to RUNNING at step 0 from LOADED at `now` (R65, R66). -/
def runningForm (now : Nat) (x : Clock) : Clock :=
  { x with state := .running, k := 0, asked := false, stepTimer := .running (now + periodOf x.params 0) }

theorem runClock_clocks : (runClock c s).clocks = s.clocks.set c (runningForm s.timebase (s.clock c)) := by
  simp [runClock, startStep, leaveLoaded_clocks, leaveLoaded_clock_self, runningForm]

theorem runClock_ticks (h : pendingOf c s.bus.ticks < 4) :
    (runClock c s).bus.ticks = s.bus.ticks ++ [{ clock := c, run := (s.clock c).run, tag := 0 }] := by
  rw [runClock, markChanged_bus, handTick_ticks (by simpa [startStep] using h)]
  simp [startStep, leaveLoaded_clock_self]

@[simp] theorem runClock_lines : (runClock c s).ledger.journal.lines = s.ledger.journal.lines := by simp [runClock]
@[simp] theorem runClock_buyers : (runClock c s).ledger.buyers = s.ledger.buyers := by simp [runClock]
theorem runClock_snapshotChanged : ((runClock c s).board c).snapshotChanged = true := markChanged_snapshotChanged

/-- The clock's values on entry to HELD (R72, R73). -/
def heldForm (x : Clock) : Clock :=
  { x with state := .held, stepTimer := .halted (periodOf x.params x.k), holdPending := none }

theorem enterHeld_clocks (cause : HoldCause) :
    (enterHeld c cause s).clocks = s.clocks.set c (heldForm (s.clock c)) := by simp [enterHeld, heldForm]

@[simp] theorem enterHeld_replies (cause : HoldCause) : (enterHeld c cause s).hlp.replies = s.hlp.replies := by
  simp [enterHeld]

theorem enterHeld_board_ne (cause : HoldCause) (h : d ≠ c) : (enterHeld c cause s).board d = s.board d := by
  rw [enterHeld, askUpdate_board_ne h]; simp

end Sys2Proof.Machine
end

section
/-! The clock requests (4.1, 4.3 to 4.6) on a part that is ready for them: what a request that names one clock or all
four answers, and each clock's part of CLOCK-SET, CLOCK-HOLD and CLOCK-RESUME in each of its cases. -/

set_option Elab.async false

namespace Sys2Proof.Machine

open Sys2Proof.Safety

variable {s t : State} {c d : ClockId} {n : Nat} {f : ClockStep} {o : ClockOutcome}

/-! ## One clock or all four (R60) -/

/-- A request that names one clock carries out that clock's part alone. -/
theorem onClocks_one (hc : clockNumbered n = some c) (hf : f c s = (t, o)) :
    onClocks n f s = ⟨t, o.status, .clockOutcomes [o]⟩ := by
  simp [onClocks, clockNumbered_ne_zero hc, hc, hf]

theorem onClocks_badField (h : 4 < n) : onClocks n f s = ⟨s, .badField, .field 1⟩ := by
  simp [onClocks, clockNumbered_eq_none (.inr h), show n ≠ 0 by omega, badField]

/-- A ready part that is sent a request whose owner acts on the clocks replies with the outcome of the clock named. -/
theorem exec_onClock (hs : Ready s) (tag : Byte) (r : Request) (hc : clockNumbered n = some c)
    (hf : f c (framed s) = (t, o))
    (hd : dispatchRequest tag r (framed s) = finish tag r .nothing (onClocks n f (framed s)) := by rfl) :
    exec (requestCommand tag r) s = .next (replied tag r.replyKind o.status (.clockOutcomes [o]) t) :=
  exec_of_answer hs tag r (onClocks_one hc hf) hd

/-! ## CLOCK-SET (R58, R59) -/

section
variable {a : ClockSettings}

theorem doClockSet_key (h : s.hall.key ≠ .setup) : doClockSet a s = ⟨s, .key, .empty⟩ := by
  simp [doClockSet, h, refuse]

theorem doClockSet_badField {pos : Nat} (h : s.hall.key = .setup) (hf : clockSetFault a = some pos) :
    doClockSet a s = ⟨s, .badField, .field pos⟩ := by simp [doClockSet, h, hf, badField]

theorem doClockSet_inRange (h : s.hall.key = .setup) (hf : clockSetFault a = none) :
    doClockSet a s = onClocks a.clock (setClockParams a) s := by simp [doClockSet, h, hf]

theorem clockSetFault_clock (h : 4 < a.clock) : clockSetFault a = some 1 := by
  simp [clockSetFault, firstFault, faultFrom, inRange_eq_false (lo := 0) (hi := 4) (n := a.clock) (.inr h)]

theorem setClockParams_stores (h : (s.clock c).state = .idle ∨ (s.clock c).state = .closed) : setClockParams a c s =
    (s.setClock c { s.clock c with params := setParams a (s.clock c).params }, { status := .ok, ended := none }) := by
  simp only [setClockParams, if_pos h, clockAccepts]

theorem setClockParams_refuses (hi : (s.clock c).state ≠ .idle) (hc : (s.clock c).state ≠ .closed) :
    setClockParams a c s = (s, { status := .state, ended := none }) := by
  simp only [setClockParams, if_neg (not_or.2 ⟨hi, hc⟩), clockRefuses]

end

/-- Settles O19: the key, then the fields, then the state of the clock named. -/
theorem clockSetStored : Obligations.ClockSetStored := by
  unfold Obligations.ClockSetStored
  intro tag a s hs
  refine ⟨fun hk => ?_, fun hk hn => ?_, fun pos hk hf => ?_,
    fun c hc hk hf => ⟨fun hst => ?_, fun hi hcl => ?_⟩⟩
  · exact exec_of_answer hs tag (.clockSet a) (doClockSet_key (s := framed s) hk) rfl
  · exact exec_of_answer hs tag (.clockSet a) (doClockSet_badField (s := framed s) hk (clockSetFault_clock hn)) rfl
  · exact exec_of_answer hs tag (.clockSet a) (doClockSet_badField (s := framed s) hk hf) rfl
  · exact exec_of_answer hs tag (.clockSet a) ((doClockSet_inRange (s := framed s) hk hf).trans
      (onClocks_one hc (setClockParams_stores (s := framed s) hst))) rfl
  · exact exec_of_answer hs tag (.clockSet a) ((doClockSet_inRange (s := framed s) hk hf).trans
      (onClocks_one hc (setClockParams_refuses (s := framed s) hi hcl))) rfl

/-! ## CLOCK-HOLD (R72 to R74) -/

theorem requestHold_running (h : (s.clock c).state = .running) :
    requestHold c s = (enterHeld c .holdRequest s, { status := .ok, ended := none }) := by
  simp only [requestHold, holdClock, h, clockAccepts]

/-- In STOPPING, DECIDING and SOLD the hold is pending, with the cause that came first (R72, R73). -/
theorem requestHold_pends
    (h : (s.clock c).state = .stopping ∨ (s.clock c).state = .deciding ∨ (s.clock c).state = .sold) :
    requestHold c s =
      (s.setClock c { s.clock c with holdPending := some ((s.clock c).holdPending.getD .holdRequest) },
        { status := .ok, ended := none }) := by
  obtain h | h | h := h <;> simp only [requestHold, holdClock, h, clockAccepts]

/-- In LOADED and HELD a hold is accepted and changes nothing (R72, R74). -/
theorem requestHold_idles
    (h : (s.clock c).state = .loaded .new ∨ (s.clock c).state = .loaded .restart ∨ (s.clock c).state = .held) :
    requestHold c s = (s, { status := .ok, ended := none }) := by
  obtain h | h | h := h <;> simp only [requestHold, holdClock, h, clockAccepts]

theorem requestHold_refuses (h : (s.clock c).state = .idle ∨ (s.clock c).state = .closed) :
    requestHold c s = (s, { status := .state, ended := none }) := by
  obtain h | h := h <;> simp only [requestHold, h, clockRefuses]

/-- Settles O20: the row of R74's table for the state of the clock. -/
theorem clockHoldHolds : Obligations.ClockHoldHolds := by
  unfold Obligations.ClockHoldHolds
  intro tag n c s hs hc
  refine ⟨fun hst => ?_, fun hst => ?_, fun hst => ?_, fun hst => ?_⟩
  · refine ⟨_, exec_onClock hs tag (.clockHold n) hc (requestHold_running (s := framed s) hst), ?_, ?_, ?_⟩
    · exact enterHeld_clocks .holdRequest
    · simp [Request.replyKind]
    · refine ⟨by simp, by simp, by simp, by simp, by simp, fun d hd => ?_⟩
      exact enterHeld_board_ne .holdRequest hd
  · exact exec_onClock hs tag (.clockHold n) hc (requestHold_pends (s := framed s) hst)
  · exact exec_onClock hs tag (.clockHold n) hc (requestHold_idles (s := framed s) hst)
  · exact exec_onClock hs tag (.clockHold n) hc (requestHold_refuses (s := framed s) hst)

/-! ## CLOCK-RESUME (R75) -/

theorem requestResume_notHeld (h : (s.clock c).state ≠ .held) :
    requestResume c s = (s, { status := .state, ended := none }) := by
  simp only [requestResume, ne_eq, h, not_false_eq_true, if_true, clockRefuses]

section
variable (h : (s.clock c).state = .held)
include h

theorem requestResume_busy (hv : voidRuns s c = true) :
    requestResume c s = (s, { status := .busy, ended := none }) := by
  simp [requestResume, h, hv, clockRefuses]

theorem requestResume_state (hv : voidRuns s c = false) (hk : s.hall.key ≠ .sale ∨ (s.board c).online = false) :
    requestResume c s = (s, { status := .state, ended := none }) := by
  simp [requestResume, h, hv, hk, clockRefuses]

variable (hv : voidRuns s c = false) (hk : s.hall.key = .sale) (hb : (s.board c).online = true)
include hv hk hb

theorem requestResume_timeNotSet (ht : s.hall.timeSet = false) :
    requestResume c s = (s, { status := .timeNotSet, ended := none }) := by
  simp [requestResume, h, hv, hk, hb, ht, clockRefuses]

theorem requestResume_runs (ht : s.hall.timeSet = true) :
    requestResume c s = (resumeClock c s, { status := .ok, ended := none }) := by
  simp [requestResume, h, hv, hk, hb, ht, clockAccepts]

end

theorem resumeClock_clocks : (resumeClock c s).clocks = s.clocks.set c { s.clock c with
    state := .running, run := ((s.clock c).run + 1) % 16,
    stepTimer := .running (s.timebase + periodOf (s.clock c).params (s.clock c).k) } := by
  simp [resumeClock, startStep]

theorem resumeClock_ticks (h : pendingOf c s.bus.ticks < 4) : (resumeClock c s).bus.ticks =
    s.bus.ticks ++ [{ clock := c, run := ((s.clock c).run + 1) % 16, tag := (s.clock c).k % 256 }] := by
  rw [resumeClock, askUpdate_bus, handTick_ticks (by simpa using h)]
  simp [startStep]

theorem resumeClock_board_ne (h : d ≠ c) : (resumeClock c s).board d = s.board d := by
  rw [resumeClock, askUpdate_board_ne h]
  simp

/-- Settles O21: the checks of R75 in their order. -/
theorem clockResumeRuns : Obligations.ClockResumeRuns := by
  unfold Obligations.ClockResumeRuns
  intro tag n c s hs hc
  refine ⟨fun hst hv hk hb ht => ?_, fun hst hv hk hb ht => ?_, fun hst hv hk => ?_, fun hst hv => ?_,
    fun hst => ?_⟩
  · refine ⟨_, exec_onClock hs tag (.clockResume n) hc (requestResume_runs (s := framed s) hst hv hk hb ht), ?_⟩
    refine ⟨resumeClock_clocks, fun hp => resumeClock_ticks (s := framed s) hp, ?_, ?_, ?_, ?_, ?_, fun d hd => ?_⟩
    · simp [resumeClock, Request.replyKind]
    · simp [resumeClock]
    · simp [resumeClock]
    · simp [resumeClock]
    · simp [resumeClock]
    · exact resumeClock_board_ne hd
  · exact exec_onClock hs tag (.clockResume n) hc (requestResume_timeNotSet (s := framed s) hst hv hk hb ht)
  · exact exec_onClock hs tag (.clockResume n) hc (requestResume_state (s := framed s) hst hv hk)
  · exact exec_onClock hs tag (.clockResume n) hc (requestResume_busy (s := framed s) hst hv)
  · exact exec_onClock hs tag (.clockResume n) hc (requestResume_notHeld (s := framed s) hst)

/-! ## The number 0 (R60, R33, R82, R177, R178) -/

theorem doLaneSet_all {a : LaneSettings} (h : laneSetFault a = none) (h0 : a.lane = 0) :
    doLaneSet a s = ⟨{ s with lanes := mapCells (setLaneValues a) s.lanes }, .ok, .empty⟩ := by
  simp [doLaneSet, h, h0, clockNumbered_eq_none (.inl rfl), accept]

theorem doBoardSet_all {period : Nat} (h : 20 ≤ period ∧ period ≤ 200) :
    doBoardSet 0 period s =
      ⟨{ s with boards := mapCells (setPeriod s.timebase period) s.boards }, .ok, .empty⟩ := by
  have inside : boardSetFault 0 period = none := by
    simp [boardSetFault, firstFault_eq_none_iff, inRange_eq_true h,
      inRange_eq_true (lo := 0) (hi := 4) (n := 0) (by omega)]
  simp [doBoardSet, inside, clockNumbered_eq_none (.inl rfl), accept]

/-- A request whose owner acts on the clocks, in its three forms: 0, a clock's number, and any other number. -/
theorem exec_onClocks (hs : Ready s) (tag : Byte) (i : Nat → Request) (kind : Nat)
    (hi : ∀ n, (i n).replyKind = kind)
    (hd : ∀ n, dispatchRequest tag (i n) (framed s) = finish tag (i n) .nothing (onClocks n f (framed s))) :
    (∀ r0 r1 r2 r3, r0 = f 0 (framed s) → r1 = f 1 r0.1 → r2 = f 2 r1.1 → r3 = f 3 r2.1 →
      exec (requestCommand tag (i 0)) s = .next (replied tag kind (overallStatus [r0.2, r1.2, r2.2, r3.2])
        (.clockOutcomes [r0.2, r1.2, r2.2, r3.2]) r3.1)) ∧
    (∀ n c, clockNumbered n = some c → exec (requestCommand tag (i n)) s = .next (replied tag kind
      (f c (framed s)).2.status (.clockOutcomes [(f c (framed s)).2]) (f c (framed s)).1)) ∧
    (∀ n, 4 < n →
      exec (requestCommand tag (i n)) s = .next (replied tag kind .badField (.field 1) (framed s))) := by
  refine ⟨fun r0 r1 r2 r3 h0 h1 h2 h3 => ?_, fun n c hc => ?_, fun n hn => ?_⟩
  · subst h0 h1 h2 h3
    rw [← hi 0]
    exact exec_of_answer hs tag (i 0) rfl (hd 0)
  · rw [← hi n]
    exact exec_onClock hs tag (i n) hc rfl (hd n)
  · rw [← hi n]
    exact exec_of_answer hs tag (i n) (onClocks_badField hn) (hd n)

/-- Settles O24: the four clock requests by the part each has at one clock, and the other requests that name all
four. -/
theorem clockZeroIsAllFour : Obligations.ClockZeroIsAllFour := by
  unfold Obligations.ClockZeroIsAllFour
  intro tag s hs
  refine ⟨fun i kind f hmem => ?_, fun a r0 r1 r2 r3 ha hf hk h0 h1 h2 h3 => ?_, ?_, ?_, fun a ha hf => ?_,
    fun period h1 h2 => ?_⟩
  · simp only [List.mem_cons, Prod.mk.injEq, List.not_mem_nil, or_false] at hmem
    obtain ⟨rfl, rfl, rfl⟩ | ⟨rfl, rfl, rfl⟩ | ⟨rfl, rfl, rfl⟩ | ⟨rfl, rfl, rfl⟩ := hmem
    · exact exec_onClocks hs tag .clockHold 140 (fun _ => rfl) fun _ => rfl
    · exact exec_onClocks hs tag .clockResume 141 (fun _ => rfl) fun _ => rfl
    · exact exec_onClocks hs tag .clockWithdraw 142 (fun _ => rfl) fun _ => rfl
    · exact exec_onClocks hs tag .clockOpen 143 (fun _ => rfl) fun _ => rfl
  · subst h0 h1 h2 h3
    have all := doClockSet_inRange (s := framed s) hk hf
    rw [ha] at all
    exact exec_of_answer hs tag (.clockSet a) all rfl
  · exact exec_of_answer hs tag (.clockQuery 0) rfl rfl
  · exact exec_of_answer hs tag (.boardQuery 0) rfl rfl
  · exact exec_of_answer hs tag (.laneSet a) (doLaneSet_all (s := framed s) hf ha) rfl
  · exact exec_of_answer hs tag (.boardSet 0 period) (doBoardSet_all (s := framed s) ⟨h1, h2⟩) rfl

end Sys2Proof.Machine
end

section
/-! The end of a lot (R67, R71, R76): the NO_SALE line, what ending the lot changes and leaves, and the two ways that
lead to it, CLOCK-WITHDRAW and a step below the reserve price. -/

set_option Elab.async false

namespace Sys2Proof.Machine

open Sys2Proof.Safety

variable {s : State} {c d : ClockId} {n p : Nat} {l : Lot}

theorem currentLot_of_lot (hc : (s.clock c).lot = some n) (hl : s.lot n = some l) : s.currentLot c = some l := by
  simp [State.currentLot, hc, hl]

/-! ## The NO_SALE line (R151) -/

/-- The NO_SALE line of a clock's lot, offered at start price `p`, as it stands in the journal (R148 to R151). -/
def noSaleLine (s : State) (c : ClockId) (l : Lot) (p : Nat) (cause : NoSaleCause) : JournalLine :=
  { sequence := s.ledger.journal.lastWritten + 1, kind := .noSale, stamp := s.hall.calendar,
    stampValid := s.hall.timeSet, clock := c, lot := l.number, run := (s.clock c).run, buyer := none, desk := none,
    invoice := none, voidedSequence := none, voided := false, cause := some cause, packs := l.packsRemaining,
    unitsPerPack := l.unitsPerPack, price := priceAt p (s.clock c).k (stepSizeOf l (s.clock c).params), amount := 0,
    levy := 0, debit := 0 }

section
variable (hl : s.currentLot c = some l) (hp : (s.clock c).startPrice = some p) (cause : NoSaleCause)
include hl hp

theorem writeNoSale_clocks :
    (writeNoSale c cause s).clocks = s.clocks.set c { s.clock c with reservation := false } := by
  simp [writeNoSale, hl, hp]

theorem writeNoSale_clock_self : (writeNoSale c cause s).clock c = { s.clock c with reservation := false } := by
  simp [State.clock, writeNoSale_clocks hl hp]

theorem writeNoSale_ledger : (writeNoSale c cause s).ledger = { s.ledger with
    journal := { s.ledger.journal with
      lines := s.ledger.journal.lines ++ [noSaleLine s c l p cause]
      lastWritten := s.ledger.journal.lastWritten + 1 } } := by
  simp only [writeNoSale, hl, hp]
  rfl

theorem writeNoSale_currentLot : (writeNoSale c cause s).currentLot c = some l := by
  have lots : (writeNoSale c cause s).lot = s.lot := funext fun n => writeNoSale_lot ..
  rw [← hl, State.currentLot, writeNoSale_clock_self hl hp, lots]
  rfl

end

/-! ## The lot ends (R71) -/

/-- The departure test reports to the host and brings no reply. -/
theorem testDepartures_replies : (testDepartures c s).hlp.replies = s.hlp.replies := by
  rw [testDepartures_eq_departAll]
  exact List.foldlRecOn (motive := fun (u : State) => u.hlp.replies = s.hlp.replies) _ _ rfl
    fun u h y _ => (show (departHead c y u).hlp.replies = u.hlp.replies by simp [departHead]).trans h

section
variable (hl : s.currentLot c = some l) (cause : LotEndCause)
include hl

theorem endLot_clocks : (endLot c cause s).clocks =
    s.clocks.set c (emptyClock (s.clock c) (if (s.clock c).closing then .closed else .idle)) := by
  simp only [endLot, hl, askUpdate_clocks, testDepartures_clocks, raise_clocks, setLotMark_clocks,
    State.setClock_clocks, leaveLoaded_clocks, leaveLoaded_clock_self, State.modLot_clocks, State.modLot_clock,
    vector_set_set]
  rfl

theorem endLot_clock_self : (endLot c cause s).clock c =
    emptyClock (s.clock c) (if (s.clock c).closing then .closed else .idle) := by
  simp [State.clock, endLot_clocks hl]

theorem endLot_clock_ne (h : d ≠ c) : (endLot c cause s).clock d = s.clock d := by
  simp [State.clock, endLot_clocks hl, vector_get_set_ne _ _ _ _ h]

/-- Of the Settlement Unit the end of a lot reaches the journal's lot mark and the clock's deferred request alone. -/
theorem endLot_ledger : (endLot c cause s).ledger = { s.ledger with
    journal := { s.ledger.journal with
      lotMark := s.ledger.journal.lotMark.set c none
      deferred := s.ledger.journal.deferred.filter (· ≠ c) } } := by
  simp only [endLot, hl, askUpdate_ledger, testDepartures_ledger, raise_ledger]
  rfl

theorem endLot_replies : (endLot c cause s).hlp.replies = s.hlp.replies := by
  simp [endLot, hl, testDepartures_replies]

theorem endLot_lotState : (endLot c cause s).lotState l.number = some (endStateOf l) := by
  obtain ⟨-, hlot⟩ := currentLot_spec hl
  have kept : (endLot c cause s).lotState l.number =
      (s.modLot l.number fun l => { l with state := endStateOf l }).lotState l.number := by
    simp only [endLot, hl]
    rw [lotState_congr (askUpdate_lots _ _), testDepartures_lotState]
    exact lotState_congr (by simp) _
  rw [kept, lotState_modLot (f := fun l => { l with state := endStateOf l }) fun _ => rfl, if_pos rfl, hlot]
  rfl

end

/-! ## CLOCK-WITHDRAW (R76) -/

/-- The state in which a withdrawal ends the lot: after the NO_SALE line where a reservation is held (R76, R151). -/
def withdrawn (c : ClockId) (s : State) : State :=
  if (s.clock c).reservation then writeNoSale c .withdrawn s else s

theorem requestWithdraw_busy (h : (s.clock c).state = .stopping ∨ (s.clock c).state = .deciding ∨
      ((s.clock c).state = .held ∧ voidRuns s c = true)) :
    requestWithdraw c s = (s, { status := .busy, ended := none }) := by
  obtain h | h | ⟨h, hv⟩ := h
  · simp only [requestWithdraw, h, clockRefuses]
  · simp only [requestWithdraw, h, clockRefuses]
  · simp only [requestWithdraw, h, hv, if_true, clockRefuses]

theorem requestWithdraw_refuses (h : (s.clock c).state = .idle ∨ (s.clock c).state = .closed) :
    requestWithdraw c s = (s, { status := .state, ended := none }) := by
  obtain h | h := h <;> simp only [requestWithdraw, h, clockRefuses]

theorem requestWithdraw_ends (hl : s.currentLot c = some l) (h1 : (s.clock c).state ≠ .idle)
    (h2 : (s.clock c).state ≠ .closed) (h3 : (s.clock c).state ≠ .stopping) (h4 : (s.clock c).state ≠ .deciding)
    (hv : (s.clock c).state = .held → voidRuns s c = false) : requestWithdraw c s =
      (endLot c .withdrawn (withdrawn c s), { status := .ok, ended := some (l.number, endStateOf l) }) := by
  have ends : withdrawLot c s =
      (endLot c .withdrawn (withdrawn c s), { status := .ok, ended := some (l.number, endStateOf l) }) := by
    simp only [withdrawLot, hl]
    rfl
  rw [← ends]
  cases h : (s.clock c).state with
  | idle => exact absurd h h1
  | closed => exact absurd h h2
  | stopping => exact absurd h h3
  | deciding => exact absurd h h4
  | held => simp [requestWithdraw, h, hv h]
  | _ => simp only [requestWithdraw, h]

section
variable (hl : s.currentLot c = some l) (hp : (s.clock c).startPrice = some p)
include hl hp

theorem withdrawn_clocks : (withdrawn c s).clocks = s.clocks.set c { s.clock c with reservation := false } := by
  unfold withdrawn
  split
  · exact writeNoSale_clocks hl hp .withdrawn
  · next h =>
    have same : { s.clock c with reservation := false } = s.clock c := by rw [← Bool.eq_false_of_not_eq_true h]
    rw [same]
    exact (vector_set_get _ _).symm

theorem withdrawn_currentLot : (withdrawn c s).currentLot c = some l := by
  unfold withdrawn
  split
  · exact writeNoSale_currentLot hl hp .withdrawn
  · exact hl

theorem withdrawn_ledger : (withdrawn c s).ledger = { s.ledger with
    journal := { s.ledger.journal with
      lines := s.ledger.journal.lines ++ if (s.clock c).reservation then [noSaleLine s c l p .withdrawn] else []
      lastWritten := s.ledger.journal.lastWritten + if (s.clock c).reservation then 1 else 0 } } := by
  unfold withdrawn
  split
  · exact writeNoSale_ledger hl hp .withdrawn
  · simp

end

theorem withdrawn_frame :
    (withdrawn c s).bus = s.bus ∧ (withdrawn c s).hall = s.hall ∧ (withdrawn c s).hlp = s.hlp := by
  unfold withdrawn
  split <;> simp

/-- Settles O22: the row of R76's table for the state of the clock; a withdrawal writes its line and ends the lot. -/
theorem clockWithdrawEnds : Obligations.ClockWithdrawEnds := by
  unfold Obligations.ClockWithdrawEnds
  intro tag n c l p s hs hc
  refine ⟨fun h1 h2 h3 h4 hv hlot hl hp => ?_, fun hst => ?_, fun hst => ?_⟩
  · have cur : (framed s).currentLot c = some l := currentLot_of_lot hlot hl
    have cur' := withdrawn_currentLot cur hp
    have clocks := withdrawn_clocks cur hp
    have self : (withdrawn c (framed s)).clock c = { s.clock c with reservation := false } := by
      simp [State.clock, clocks]
    obtain ⟨bus, hall, hlp⟩ := withdrawn_frame (c := c) (s := framed s)
    refine ⟨_, exec_onClock hs tag (.clockWithdraw n) hc (requestWithdraw_ends cur h1 h2 h3 h4 hv), ?_⟩
    simp only [replied_ledger, replied_lot, replied_clock, replied_bus, replied_hall, replied_replies,
      endLot_ledger cur', endLot_clock_self cur', endLot_replies cur', withdrawn_ledger cur hp, self]
    refine ⟨rfl, rfl, vector_get_set_self _ _ _, endLot_lotState cur' _, rfl, rfl, rfl, rfl, fun d hd => ?_, rfl, rfl,
      ?_, ?_, ?_⟩
    · rw [endLot_clock_ne cur' _ hd]
      simp [State.clock, clocks, vector_get_set_ne _ _ _ _ hd]
    · simp [bus]
    · simp [hall]
    · simp [hlp, Request.replyKind]
  · exact exec_onClock hs tag (.clockWithdraw n) hc (requestWithdraw_busy (s := framed s) hst)
  · exact exec_onClock hs tag (.clockWithdraw n) hc (requestWithdraw_refuses (s := framed s) hst)

/-! ## A step of the clock (R42, R67) -/

theorem exec_stepTimerExpiry {e : Nat} (h : s.hall.main = .present) (hst : (s.clock c).state = .running)
    (he : (s.clock c).stepTimer = .running e) : exec (.stepTimerExpiry c) s = .next (stepClock c (s.reach e)) := by
  refine (congrArg Host.Outcome.next (whenPowered_present h _)).trans ?_
  simp only [hst, he]

/-- The state after an advance: k one more, the period of the new step begun, the tick handed over (R67). -/
def advanced (c : ClockId) (s : State) : State :=
  markChanged c (handTick c (startStep c (s.setClock c { s.clock c with k := (s.clock c).k + 1 })))

section
variable (hl : s.currentLot c = some l) (hp : (s.clock c).startPrice = some p)
include hl hp

theorem stepClock_advances (h : l.reservePrice + ((s.clock c).k + 1) * stepSizeOf l (s.clock c).params ≤ p) :
    stepClock c s = advanced c s := by
  simp [stepClock, hl, hp, mayAdvance, h, advanced]

theorem stepClock_withdraws (h : p < l.reservePrice + ((s.clock c).k + 1) * stepSizeOf l (s.clock c).params) :
    stepClock c s = endLot c .reserve (writeNoSale c .reserve s) := by
  simp [stepClock, hl, hp, mayAdvance, Nat.not_le.2 h]

end

theorem advanced_clocks : (advanced c s).clocks = s.clocks.set c { s.clock c with
    k := (s.clock c).k + 1,
    stepTimer := .running (s.timebase + periodOf (s.clock c).params ((s.clock c).k + 1)) } := by
  simp [advanced, startStep]

theorem advanced_ticks (h : pendingOf c s.bus.ticks < 4) : (advanced c s).bus.ticks =
    s.bus.ticks ++ [{ clock := c, run := (s.clock c).run, tag := ((s.clock c).k + 1) % 256 }] := by
  rw [advanced, markChanged_bus, handTick_ticks (by simpa using h)]
  simp [startStep]

/-- The line stands in the place the reservation held, so the free space is as it was (R147, R151). -/
theorem freeSpace_writeNoSale_endLot (hl : s.currentLot c = some l) (hp : (s.clock c).startPrice = some p)
    (hr : (s.clock c).reservation = true) (horder : s.ledger.journal.lastReleased ≤ s.ledger.journal.lastWritten) :
    freeSpace (endLot c .reserve (writeNoSale c .reserve s)) = freeSpace s := by
  have cur := writeNoSale_currentLot hl hp .reserve
  have held : reservationsHeld (endLot c .reserve (writeNoSale c .reserve s)) + 1 = reservationsHeld s := by
    refine reservationsHeld_release hr ?_ fun d hd => ?_
    · rw [endLot_clock_self cur, writeNoSale_clock_self hl hp]
      rfl
    · rw [endLot_clock_ne cur _ hd]
      simp [State.clock, writeNoSale_clocks hl hp, vector_get_set_ne _ _ _ _ hd]
  simp only [freeSpace, unreleased, endLot_ledger cur, writeNoSale_ledger hl hp]
  omega

theorem freeSpace_reach (e : Nat) : freeSpace (s.reach e) = freeSpace s := by
  simp only [freeSpace, unreleased, reservationsHeld, State.reach_ledger, State.reach_clocks]

/-- Settles O27: the reserve test of R42 decides between the advance and the withdrawal. -/
theorem stepAdvancesOrWithdraws : Obligations.StepAdvancesOrWithdraws := by
  unfold Obligations.StepAdvancesOrWithdraws
  refine ⟨fun c e l p s hm hst he hl hp hprice => ?_, fun c e l p s hm hst he hr hlot hl hp hprice => ?_⟩
  · have step : stepClock c (s.reach e) = advanced c (s.reach e) := stepClock_advances hl hp hprice
    refine ⟨_, (exec_stepTimerExpiry hm hst he).trans (congrArg _ step), ?_, advanced_clocks,
      fun hn => advanced_ticks (s := s.reach e) hn, ?_, ?_, ?_, markChanged_snapshotChanged, ?_, ?_, ?_, ?_, ?_⟩
    · simp [advanced]
    · simp [advanced, handTick_activity]
    all_goals simp [advanced]
  · have cur : (s.reach e).currentLot c = some l := currentLot_of_lot hlot hl
    have cur' := writeNoSale_currentLot cur hp .reserve
    refine ⟨_, (exec_stepTimerExpiry hm hst he).trans (congrArg _ (stepClock_withdraws cur hp hprice)), ?_⟩
    rw [endLot_ledger cur', writeNoSale_ledger cur hp, endLot_clock_self cur', writeNoSale_clock_self cur hp]
    refine ⟨?_, rfl, fun horder => ?_, endLot_lotState cur' _, rfl, rfl, rfl, fun d hd => ?_, rfl, rfl, ?_, ?_⟩
    · simp
    · exact (freeSpace_writeNoSale_endLot cur hp hr horder).trans (freeSpace_reach e)
    · rw [endLot_clock_ne cur' _ hd]
      simp [State.clock, writeNoSale_clocks cur hp, vector_get_set_ne _ _ _ _ hd]
    · simp
    · simp

end Sys2Proof.Machine
end

section
/-! The events that bring a lot to its run (R62 to R66, R70): TAKE_LOT, the expiry of the preview and the expiry of the
pause. -/

set_option Elab.async false

namespace Sys2Proof.Machine

open Sys2Proof.Safety

variable {s : State} {c d : ClockId} {e p : Nat} {l : Lot}

/-! ## TAKE_LOT (R62) -/

theorem mayTake_of_ready (hl : candidate s c = some l) (hst : (s.clock c).state = .idle) (hr : l.state = .ready)
    (hcl : (s.clock c).closing = false) (hlink : s.hlp.link = .linked) : mayTake s c = some l := by
  simp [mayTake, hl, hst, hr, hcl, hlink]

theorem exec_takeLot (h : s.hall.main = .present) (hl : mayTake s c = some l) :
    exec (.takeLot c) s = .next (takeLot c l s) := by
  refine (congrArg Host.Outcome.next (whenPowered_present h _)).trans ?_
  simp only [hl]

theorem takeLot_clocks : (takeLot c l s).clocks = s.clocks.set c { s.clock c with
    state := .loaded .new, lot := some l.number, run := ((s.clock c).run + 1) % 16, k := 0,
    startPrice := some l.startPrice, previewEnds := some (s.timebase + (s.clock c).params.preview * 1000) } := by
  simp [takeLot, Config.ms]

theorem takeLot_lots : (takeLot c l s).lots = (s.modLot l.number fun l => { l with state := .onClock }).lots := by
  simp [takeLot]

/-- Of the Settlement Unit a taking writes the clock's lot mark and its last-sale record (R140, R153). -/
theorem takeLot_ledger : (takeLot c l s).ledger = { s.ledger with
    journal := { s.ledger.journal with
      lotMark := s.ledger.journal.lotMark.set c (some (s.ledger.journal.lastWritten + 1)) }
    lastSale := s.ledger.lastSale.set c none } := by
  simp only [takeLot, askUpdate_ledger]
  rfl

theorem takeLot_board_ne (h : d ≠ c) : (takeLot c l s).board d = s.board d := by
  rw [takeLot, askUpdate_board_ne h]
  rfl

/-- Settles O25: the candidate of the lane is taken. -/
theorem lotTaken : Obligations.LotTaken := by
  unfold Obligations.LotTaken
  intro c l s hm hl hst hr hcl hlink
  refine ⟨_, exec_takeLot hm (mayTake_of_ready hl hst hr hcl hlink), takeLot_clocks, takeLot_lots, ?_⟩
  rw [takeLot_ledger]
  refine ⟨vector_get_set_self _ _ _, vector_get_set_self _ _ _, rfl, rfl, ?_, ?_, ?_, ?_,
    fun d hd => takeLot_board_ne hd⟩
  all_goals simp

/-! ## PREVIEW_EXPIRY (R63 to R65) -/

/-- The state in which a LOADED NEW clock whose preview ends at `e` tests its start conditions (R65). -/
def previewed (c : ClockId) (e : Nat) (s : State) : State :=
  (s.reach e).setClock c { s.clock c with previewEnds := none }

theorem exec_previewExpiry (h : s.hall.main = .present) (hst : (s.clock c).state = .loaded .new)
    (he : (s.clock c).previewEnds = some e) : exec (.previewExpiry c) s = .next (testNew c (previewed c e s)) := by
  refine (congrArg Host.Outcome.next (whenPowered_present h _)).trans ?_
  simp only [hst, he]
  rfl

theorem grantable_previewed : grantable (previewed c e s) = grantable s :=
  grantable_congr (setClock_reservation (s := s.reach e) (x := { s.clock c with previewEnds := none }) rfl) rfl

/-- A clock whose preview has ended is ready when the hall, its board and the link are (R63). -/
theorem newReady_previewed : newReady (previewed c e s) c = true ↔
    s.hall.key = .sale ∧ (s.board c).online = true ∧ s.hall.timeSet = true ∧ s.hlp.link = .linked := by
  simp only [newReady, hallReady, Bool.and_eq_true, decide_eq_true_eq, and_assoc]
  simp [previewed]

theorem testNew_waits (h : newReady s c = false) : testNew c s = s := by simp [testNew, h]

section
variable (h : newReady s c = true) (hday : dayCloseRuns s = false)
include h hday

theorem testNew_runs (hg : grantable s = true) : testNew c s = runClock c (grant c s) := by
  simp [testNew, h, hday, hg]

theorem testNew_asks (hg : grantable s = false) : testNew c s = askLater c s := by
  simp [testNew, h, hday, hg]

end

@[simp] theorem grant_clock_self : (grant c s).clock c = { s.clock c with reservation := true, asked := false } := by
  simp [grant]

theorem grant_clocks : (grant c s).clocks = s.clocks.set c { s.clock c with reservation := true, asked := false } := rfl

/-- Settles O26: the start conditions, then what the journal can give. -/
theorem previewEnds : Obligations.PreviewEnds := by
  unfold Obligations.PreviewEnds
  intro c e s hm hst he
  refine ⟨fun hlack => ?_, fun hk hb ht hlink hday => ⟨fun hg => ?_, fun hg => ?_⟩⟩
  · have lacks : newReady (previewed c e s) c = false := by
      rw [Bool.eq_false_iff, ne_eq, newReady_previewed]
      rintro ⟨hk, hb, ht, hlink⟩
      simp [hk, hb, ht, hlink] at hlack
    rw [exec_previewExpiry hm hst he, testNew_waits lacks, previewed]
  · have ready := newReady_previewed (e := e).2 ⟨hk, hb, ht, hlink⟩
    refine ⟨_, (exec_previewExpiry hm hst he).trans (congrArg _ (testNew_runs ready
      ((dayCloseRuns_congr rfl).trans hday) (grantable_previewed.trans hg))), ?_, ?_, fun hn => ?_,
      runClock_snapshotChanged, ?_⟩
    · simp [previewed]
    · simp [runClock_clocks, runningForm, grant_clocks, previewed]
    · rw [runClock_ticks (by exact hn)]
      simp [previewed]
    · simp [previewed]
  · have ready := newReady_previewed (e := e).2 ⟨hk, hb, ht, hlink⟩
    rw [exec_previewExpiry hm hst he, testNew_asks ready ((dayCloseRuns_congr rfl).trans hday)
      (grantable_previewed.trans hg)]
    simp [askLater, previewed]

/-! ## PAUSE_EXPIRY (R66, R70) -/

/-- The clock in LOADED RESTART: its next run, from the restart price of R43. -/
def restartForm (l : Lot) (p : Nat) (x : Clock) : Clock :=
  { x with
    state := .loaded .restart, run := (x.run + 1) % 16, k := 0, pauseEnds := none,
    startPrice := some (restartPrice l.startPrice p x.params.lift) }

/-- The state in which a restart asks for its reservation: the clock in LOADED RESTART, its board told (R70). -/
def restarted (c : ClockId) (l : Lot) (p : Nat) (s : State) : State :=
  askUpdate c (s.setClock c (restartForm l p (s.clock c)))

theorem restartClock_eq (hl : s.currentLot c = some l) (hp : (s.clock c).lastSalePrice = some p) :
    restartClock c s = askRestart c (restarted c l p s) := by
  simp only [restartClock]
  split
  · next l' p' hl' hp' =>
    obtain rfl := Option.some.inj (hl.symm.trans hl')
    obtain rfl := Option.some.inj (hp.symm.trans hp')
    rfl
  · next hno => exact absurd hp (hno l p hl)

theorem exec_pauseExpiry (h : s.hall.main = .present) (hst : (s.clock c).state = .sold)
    (he : (s.clock c).pauseEnds = some e) (hl : s.currentLot c = some l) (hp : (s.clock c).lastSalePrice = some p) :
    exec (.pauseExpiry c) s = .next (askRestart c (restarted c l p (s.reach e))) := by
  refine (congrArg Host.Outcome.next (whenPowered_present h _)).trans ?_
  simp only [hst, he]
  exact congrArg _ (restartClock_eq hl hp)

section
variable (c : ClockId) (l : Lot) (p : Nat) (s : State)

@[simp] theorem restarted_timebase : (restarted c l p s).timebase = s.timebase := by simp [restarted]
@[simp] theorem restarted_hlp : (restarted c l p s).hlp = s.hlp := by simp [restarted]
@[simp] theorem restarted_lots : (restarted c l p s).lots = s.lots := by simp [restarted]
@[simp] theorem restarted_lanes : (restarted c l p s).lanes = s.lanes := by simp [restarted]
@[simp] theorem restarted_bus : (restarted c l p s).bus = s.bus := by simp [restarted]
@[simp] theorem restarted_ledger : (restarted c l p s).ledger = s.ledger := by simp [restarted]
@[simp] theorem restarted_hall : (restarted c l p s).hall = s.hall := by simp [restarted]
@[simp] theorem restarted_clocks : (restarted c l p s).clocks = s.clocks.set c (restartForm l p (s.clock c)) := by
  simp [restarted]
@[simp] theorem restarted_clock_self : (restarted c l p s).clock c = restartForm l p (s.clock c) := by simp [restarted]
@[simp] theorem restarted_online : ((restarted c l p s).board c).online = (s.board c).online := by
  rw [restarted, askUpdate_online, State.setClock_board]

end

theorem grantable_restarted : grantable (restarted c l p (s.reach e)) = grantable s := by
  refine grantable_congr (fun d => ?_) (by simp)
  rw [restarted, askUpdate_clock]
  exact setClock_reservation (s := s.reach e) (x := restartForm l p (s.clock c)) rfl d

section
variable (hday : dayCloseRuns s = false)
include hday

theorem askRestart_asks (hg : grantable s = false) : askRestart c s = askLater c s := by simp [askRestart, hday, hg]

variable (hg : grantable s = true)
include hg

theorem askRestart_runs (hh : (s.clock c).holdPending = none) (hr : hallReady s c = true) :
    askRestart c s = runClock c (grant c s) := by
  have ready : hallReady (grant c s) c = true := by simpa [hallReady] using hr
  simp [askRestart, hday, hg, testRestart, hh, ready]

/-- A pending hold takes a restart that holds its reservation to HELD (R66, R72). -/
theorem askRestart_holds {cause : HoldCause} (hh : (s.clock c).holdPending = some cause) :
    askRestart c s = enterHeld c cause (leaveLoaded c (grant c s)) := by
  simp [askRestart, hday, hg, testRestart, hh]

end

/-- Settles O29: what the journal can give, and then whether a hold is pending. -/
theorem pauseEndsInRestart : Obligations.PauseEndsInRestart := by
  unfold Obligations.PauseEndsInRestart
  intro c e l p s hm hst he hl hp hday
  have ends := exec_pauseExpiry hm hst he hl hp
  have hday : dayCloseRuns (restarted c l p (s.reach e)) = false :=
    (dayCloseRuns_congr (restarted_ledger _ _ _ _)).trans hday
  refine ⟨fun hg => ?_, fun hg hh hk hb ht => ?_, fun cause hg hh => ?_⟩
  · refine ⟨_, ends.trans (congrArg _ (askRestart_asks hday (grantable_restarted.trans hg))), ?_⟩
    simp [askLater, restartForm, restartPrice]
  · have ready : hallReady (restarted c l p (s.reach e)) c = true := by simp [hallReady, hk, hb, ht]
    refine ⟨_, ends.trans (congrArg _ (askRestart_runs hday (grantable_restarted.trans hg)
      (by simpa [restartForm] using hh) ready)), ?_, ?_, fun hn => ?_, ?_⟩
    · simp
    · simp [runClock_clocks, runningForm, grant_clocks, restartForm, restartPrice]
    · rw [runClock_ticks (by simpa using hn)]
      simp [restartForm]
    · simp
  · refine ⟨_, ends.trans (congrArg _ (askRestart_holds hday (grantable_restarted.trans hg)
      (by simpa [restartForm] using hh))), ?_, ?_, ?_⟩
    · simp
    · simp [enterHeld_clocks, heldForm, leaveLoaded_clocks, leaveLoaded_clock_self, grant_clocks, restartForm,
        restartPrice]
    · simp

end Sys2Proof.Machine
end

section
/-! Trading close and reopening (R77, R78, R187): CLOCK-OPEN, the calendar's carry into a minute that the close alarm
names, and what the alarm does at each of the four clocks. -/

set_option Elab.async false

namespace Sys2Proof.Machine

open Sys2Proof.Safety

variable {s t : State} {c d : ClockId} {n : Nat} {x : Stamp} {l : Lot}

/-! ## CLOCK-OPEN (R78) -/

theorem openClock_closed (h : (s.clock c).state = .closed) : openClock c s =
    raise (.clock c .idle .open_ none (s.clock c).run (s.clock c).k)
      (s.setClock c { s.clock c with closing := false, state := .idle }) := by
  simp [openClock, h]

theorem openClock_notClosed (h : (s.clock c).state ≠ .closed) :
    openClock c s = s.setClock c { s.clock c with closing := false } := by
  simp only [openClock]
  split
  · next hclosed =>
    rw [State.setClock_clock_self] at hclosed
    exact absurd hclosed h
  · rfl

theorem requestOpen_of_openClock (h : openClock c s = t) :
    requestOpen c s = (t, { status := .ok, ended := none }) := by
  simp only [requestOpen, clockAccepts, h]

/-! ## The carry into a minute (R183, R187) -/

/-- The carry is what an advance of the calendar makes. -/
theorem nextHundredth_of_carriesTo {a : Stamp} (h : CarriesTo a x) : nextHundredth a = x := by
  obtain ⟨hs, hh, ⟨hm, rfl⟩ | ⟨hm, hhour, rfl⟩ | ⟨last, rfl, hm, hhour, h⟩⟩ := h
  · simp [nextHundredth, hs, hh, hm]
  · simp [nextHundredth, hs, hh, hm, hhour]
  · obtain ⟨hd, rfl⟩ | ⟨hd, hmonth, rfl⟩ | ⟨hd, hmonth, hyear, rfl⟩ := h
    · simp [nextHundredth, hs, hh, hm, hhour, daysOf, hd]
    · simp [nextHundredth, hs, hh, hm, hhour, daysOf, hd, hmonth]
    · simp [nextHundredth, hs, hh, hm, hhour, daysOf, hd, hmonth, hyear]

/-- The carry past the end of 2099 is none of them. -/
theorem atCalendarEnd_of_carriesTo {a : Stamp} (h : CarriesTo a x) : atCalendarEnd a = false := by
  rw [Bool.eq_false_iff]
  intro hend
  obtain rfl := of_decide_eq_true hend
  simp [CarriesTo] at h

theorem entersMinute_of_carriesTo {a : Stamp} (h : CarriesTo a x) : entersMinute x = true := by
  obtain ⟨-, -, ⟨-, rfl⟩ | ⟨-, -, rfl⟩ | ⟨_, -, -, -, last⟩⟩ := h
  · rfl
  · rfl
  · obtain ⟨-, rfl⟩ | ⟨-, -, rfl⟩ | ⟨-, -, -, rfl⟩ := last <;> rfl

theorem alarmMatches_of_alarmMeets {a : Alarm} (h : AlarmMeets a x) : alarmMatches a x = true := by
  obtain ⟨hon, hhour, hm⟩ | ⟨hoff, hon, hm⟩ := h
  · cases hmin : a.minuteOn <;> simp_all [alarmMatches]
  · simp [alarmMatches, hoff, hon, hm]

/-- The state in which the alarm fires: the calendar, and the time of its next advance, moved on (R183). -/
def advancedTo (x : Stamp) (s : State) : State :=
  { s.reach s.hall.nextAdvance with
    hall := { s.hall with calendar := x, nextAdvance := s.hall.nextAdvance + 10000 } }

theorem exec_calendarAdvance_fires (hm : s.hall.main = .present) (ht : s.hall.timeSet = true)
    (hx : CarriesTo s.hall.calendar x) (ha : AlarmMeets s.hall.alarm x) :
    exec .calendarAdvance s = .next (fireAlarm (advancedTo x s)) := by
  have moved := nextHundredth_of_carriesTo hx
  show Host.Outcome.next (advanceCalendar _) = _
  simp [advanceCalendar, State.reach, hm, ht, moved, atCalendarEnd_of_carriesTo hx, entersMinute_of_carriesTo hx,
    alarmMatches_of_alarmMeets ha, advancedTo, Config.hundredth]

/-! ## The alarm at one clock (R77) -/

/-- A lot READY again for its lane's clock. -/
def readyForm (l : Lot) : Lot := { l with state := .ready }

theorem readyForm_readyForm (l : Lot) : readyForm (readyForm l) = readyForm l := rfl

/-- The clock's current lot, where it has one, is READY again. -/
def lotBack (c : ClockId) (s : State) : State :=
  match (s.clock c).lot with
  | some n => s.modLot n readyForm
  | none => s

/-- What the alarm does at a LOADED NEW clock whose closing flag is set. -/
def closeLoaded (c : ClockId) (s : State) : State :=
  let s := leaveLoaded c (lotBack c s)
  let s := setLotMark c none (s.setClock c (emptyClock (s.clock c) .closed))
  askUpdate c (raise (.clock c .closed .close none (s.clock c).run 0) s)

/-- What the alarm can do at a clock, by its state. -/
theorem closeClock_cases (c : ClockId) (s : State) :
    ((s.clock c).state = .idle ∧ closeClock c s = raise (.clock c .closed .close none (s.clock c).run (s.clock c).k)
      (s.setClock c { s.clock c with closing := true, state := .closed })) ∨
    ((s.clock c).state = .loaded .new ∧
      closeClock c s = closeLoaded c (s.setClock c { s.clock c with closing := true })) ∨
    ((s.clock c).state ≠ .idle ∧ (s.clock c).state ≠ .loaded .new ∧
      closeClock c s = s.setClock c { s.clock c with closing := true }) := by
  simp only [closeClock]
  split
  · next h =>
    rw [State.setClock_clock_self] at h
    exact .inl ⟨h, by simp⟩
  · next h =>
    rw [State.setClock_clock_self] at h
    exact .inr (.inl ⟨h, rfl⟩)
  · next h1 h2 =>
    rw [State.setClock_clock_self] at h1 h2
    exact .inr (.inr ⟨h1, h2, rfl⟩)

section
variable (c : ClockId) (s : State)

@[simp] theorem lotBack_clocks : (lotBack c s).clocks = s.clocks := by unfold lotBack; split <;> rfl
@[simp] theorem lotBack_clock : (lotBack c s).clock d = s.clock d := by unfold lotBack; split <;> rfl
@[simp] theorem lotBack_board : (lotBack c s).board d = s.board d := by unfold lotBack; split <;> rfl
@[simp] theorem lotBack_ledger : (lotBack c s).ledger = s.ledger := by unfold lotBack; split <;> rfl
@[simp] theorem lotBack_hlp : (lotBack c s).hlp = s.hlp := by unfold lotBack; split <;> rfl

theorem lotBack_lot : (lotBack c s).lot n =
    if (s.clock c).lot = some n then (s.lot n).map readyForm else s.lot n := by
  unfold lotBack
  split
  · next m h =>
    by_cases e : n = m
    · simp [h, e, State.modLot_lot_self s readyForm fun _ => rfl]
    · simp [h, Ne.symm e, State.modLot_lot_ne s readyForm (fun _ => rfl) e]
  · next h => simp [h]

theorem closeLoaded_clocks : (closeLoaded c s).clocks = s.clocks.set c (emptyClock (s.clock c) .closed) := by
  simp [closeLoaded, leaveLoaded_clocks, leaveLoaded_clock_self, emptyClock]

theorem closeLoaded_ledger : (closeLoaded c s).ledger = { s.ledger with
    journal := { s.ledger.journal with
      lotMark := s.ledger.journal.lotMark.set c none
      deferred := s.ledger.journal.deferred.filter (· ≠ c) } } := by
  simp only [closeLoaded, askUpdate_ledger, raise_ledger, ← lotBack_ledger c s]
  rfl

theorem closeLoaded_lot : (closeLoaded c s).lot n = (lotBack c s).lot n := by simp [closeLoaded]

theorem closeLoaded_reports_prefix : s.hlp.reports <+: (closeLoaded c s).hlp.reports := by
  rw [closeLoaded, askUpdate_hlp]
  refine List.IsPrefix.trans ?_ (raise_reports_prefix _)
  simp

end

theorem closeLoaded_board_ne (h : d ≠ c) : (closeLoaded c s).board d = s.board d := by
  rw [closeLoaded, askUpdate_board_ne h]
  simp

/-- The clock's values after the alarm, by its state (R77). -/
def shutForm (x : Clock) : Clock :=
  if x.state = .idle then { x with closing := true, state := .closed }
  else if x.state = .loaded .new then emptyClock { x with closing := true } .closed
  else { x with closing := true }

theorem closeClock_clocks : (closeClock c s).clocks = s.clocks.set c (shutForm (s.clock c)) := by
  obtain ⟨h, e⟩ | ⟨h, e⟩ | ⟨h1, h2, e⟩ := closeClock_cases c s <;> rw [e]
  · simp [shutForm, h]
  · simp [shutForm, h, closeLoaded_clocks]
  · simp [shutForm, h1, h2]

theorem closeClock_clock_self : (closeClock c s).clock c = shutForm (s.clock c) := by
  simp [State.clock, closeClock_clocks]

theorem closeClock_clock_ne (h : d ≠ c) : (closeClock c s).clock d = s.clock d := by
  simp [State.clock, closeClock_clocks, vector_get_set_ne _ _ _ _ h]

theorem closeClock_board_ne (h : d ≠ c) : (closeClock c s).board d = s.board d := by
  obtain ⟨-, e⟩ | ⟨-, e⟩ | ⟨-, -, e⟩ := closeClock_cases c s <;> rw [e]
  · simp
  · rw [closeLoaded_board_ne h, State.setClock_board]
  · simp

theorem closeClock_board_self (h : (s.clock c).state ≠ .loaded .new) : (closeClock c s).board c = s.board c := by
  obtain ⟨-, e⟩ | ⟨h', -⟩ | ⟨-, -, e⟩ := closeClock_cases c s
  · simp [e]
  · exact absurd h' h
  · simp [e]

/-- Of the Settlement Unit the alarm at a clock reaches the lot mark and the deferred request of that clock alone. -/
theorem closeClock_ledger (c : ClockId) (s : State) : ∃ m deferred,
    ((s.clock c).state = .loaded .new → m = none) ∧
    (closeClock c s).ledger = { s.ledger with
      journal := { s.ledger.journal with lotMark := s.ledger.journal.lotMark.set c m, deferred := deferred } } := by
  obtain ⟨h, e⟩ | ⟨h, e⟩ | ⟨-, h, e⟩ := closeClock_cases c s <;> rw [e]
  · exact ⟨s.ledger.journal.lotMark.get c, s.ledger.journal.deferred, by simp [h], by simp⟩
  · exact ⟨none, _, fun _ => rfl, closeLoaded_ledger c _⟩
  · exact ⟨s.ledger.journal.lotMark.get c, s.ledger.journal.deferred, by simp [h], by simp⟩

theorem closeClock_lotMark_self (h : (s.clock c).state = .loaded .new) :
    (closeClock c s).ledger.journal.lotMark.get c = none := by
  obtain ⟨m, _, hm, e⟩ := closeClock_ledger c s
  rw [e, hm h]
  exact vector_get_set_self _ _ _

theorem closeClock_lotMark_ne (h : d ≠ c) :
    (closeClock c s).ledger.journal.lotMark.get d = s.ledger.journal.lotMark.get d := by
  obtain ⟨_, _, -, e⟩ := closeClock_ledger c s
  rw [e]
  exact vector_get_set_ne _ _ _ _ h

theorem closeClock_lines (s : State) (c : ClockId) :
    (closeClock c s).ledger.journal.lines = s.ledger.journal.lines := by
  obtain ⟨_, _, -, e⟩ := closeClock_ledger c s
  rw [e]

theorem closeClock_buyers (s : State) (c : ClockId) : (closeClock c s).ledger.buyers = s.ledger.buyers := by
  obtain ⟨_, _, -, e⟩ := closeClock_ledger c s
  rw [e]

theorem closeClock_invoices (s : State) (c : ClockId) : (closeClock c s).ledger.invoices = s.ledger.invoices := by
  obtain ⟨_, _, -, e⟩ := closeClock_ledger c s
  rw [e]

/-- Whether the clock is LOADED NEW with the lot of this number, which it gives back when trading closes. -/
def givesBack (s : State) (n : Nat) (c : ClockId) : Bool :=
  decide ((s.clock c).state = .loaded .new ∧ (s.clock c).lot = some n)

theorem closeClock_lot : (closeClock c s).lot n = if givesBack s n c then (s.lot n).map readyForm else s.lot n := by
  obtain ⟨h, e⟩ | ⟨h, e⟩ | ⟨-, h, e⟩ := closeClock_cases c s <;> rw [e]
  · simp [givesBack, h]
  · simp [givesBack, h, closeLoaded_lot, lotBack_lot]
  · simp [givesBack, h]

theorem closeClock_reports_prefix : s.hlp.reports <+: (closeClock c s).hlp.reports := by
  obtain ⟨-, e⟩ | ⟨-, e⟩ | ⟨-, -, e⟩ := closeClock_cases c s <;> rw [e]
  · exact raise_reports_prefix (s := s.setClock c { s.clock c with closing := true, state := .closed }) _
  · exact closeLoaded_reports_prefix c (s.setClock c { s.clock c with closing := true })
  · exact List.prefix_rfl

/-! ## The alarm at all four -/

theorem eachClock_keeps {α : Type} {f : ClockId → State → State} (read : State → α)
    (h : ∀ s c, read (f c s) = read s) : read (eachClock f s) = read s := by simp only [eachClock, h]

theorem eachClock_eq_foldl (f : ClockId → State → State) :
    eachClock f s = allClocks.foldl (fun s c => f c s) s := rfl

/-- What only the part of clock `c` changes reads, after all four parts, as that part leaves it on a state where it
still reads as at first. -/
theorem eachClock_reads {α : Type} {f : ClockId → State → State} (read : State → α) (c : ClockId)
    (h : ∀ d s, d ≠ c → read (f d s) = read s) :
    ∃ u, read u = read s ∧ read (eachClock f s) = read (f c u) := by
  unfold eachClock
  match c with
  | 0 => exact ⟨s, rfl, by rw [h 3 _ (by decide), h 2 _ (by decide), h 1 _ (by decide)]⟩
  | 1 => exact ⟨f 0 s, h 0 _ (by decide), by rw [h 3 _ (by decide), h 2 _ (by decide)]⟩
  | 2 => exact ⟨f 1 (f 0 s), by rw [h 1 _ (by decide), h 0 _ (by decide)], h 3 _ (by decide)⟩
  | 3 => exact ⟨f 2 (f 1 (f 0 s)), by rw [h 2 _ (by decide), h 1 _ (by decide), h 0 _ (by decide)], rfl⟩

theorem eachClock_closeClock_clock : (eachClock closeClock s).clock c = shutForm (s.clock c) := by
  obtain ⟨u, hu, e⟩ := eachClock_reads (s := s) (f := closeClock) (fun u => u.clock c) c
    fun _ _ h => closeClock_clock_ne h.symm
  exact e.trans (closeClock_clock_self.trans (congrArg shutForm hu))

theorem eachClock_closeClock_board (h : (s.clock c).state ≠ .loaded .new) :
    (eachClock closeClock s).board c = s.board c := by
  obtain ⟨u, hu, e⟩ := eachClock_reads (s := s) (f := closeClock) (fun u => (u.clock c, u.board c)) c
    fun _ _ h => Prod.ext (closeClock_clock_ne h.symm) (closeClock_board_ne h.symm)
  obtain ⟨hclock, hboard⟩ := Prod.mk.inj hu
  exact (Prod.mk.inj e).2.trans ((closeClock_board_self (hclock ▸ h)).trans hboard)

theorem eachClock_closeClock_lotMark (h : (s.clock c).state = .loaded .new) :
    (eachClock closeClock s).ledger.journal.lotMark.get c = none := by
  obtain ⟨u, hu, e⟩ := eachClock_reads (s := s) (f := closeClock)
    (fun u => (u.clock c, u.ledger.journal.lotMark.get c)) c
    fun _ _ h => Prod.ext (closeClock_clock_ne h.symm) (closeClock_lotMark_ne h.symm)
  obtain ⟨hclock, -⟩ := Prod.mk.inj hu
  exact (Prod.mk.inj e).2.trans (closeClock_lotMark_self (hclock ▸ h))

/-- A lot is READY again where one of the clocks gave it back. -/
theorem foldl_closeClock_lot (l : List ClockId) (hl : l.Nodup) (s : State) :
    (l.foldl (fun s c => closeClock c s) s).lot n =
      if l.any (givesBack s n) then (s.lot n).map readyForm else s.lot n := by
  induction l generalizing s with
  | nil => simp
  | cons c l ih =>
    obtain ⟨hc, hl⟩ := List.nodup_cons.1 hl
    have same : l.any (givesBack (closeClock c s) n) = l.any (givesBack s n) := by
      rw [Bool.eq_iff_iff, List.any_eq_true, List.any_eq_true]
      refine exists_congr fun d => and_congr_right fun hd => ?_
      rw [givesBack, closeClock_clock_ne (ne_of_mem_of_not_mem hd hc), givesBack]
    rw [List.foldl_cons, ih hl, same, closeClock_lot, List.any_cons]
    cases l.any (givesBack s n) <;> cases givesBack s n c <;> simp [Function.comp_def, readyForm_readyForm]

theorem eachClock_closeClock_lot : (eachClock closeClock s).lot n =
    if allClocks.any (givesBack s n) then (s.lot n).map readyForm else s.lot n := by
  rw [eachClock_eq_foldl]
  exact foldl_closeClock_lot allClocks (by decide) s

theorem eachClock_closeClock_reports_prefix : s.hlp.reports <+: (eachClock closeClock s).hlp.reports := by
  rw [eachClock_eq_foldl]
  exact List.foldlRecOn (motive := fun (u : State) => s.hlp.reports <+: u.hlp.reports) allClocks _ List.prefix_rfl
    fun _ h _ _ => h.trans closeClock_reports_prefix

/-- A report that finds its place in the queue stands there whatever is queued behind it. -/
theorem report_of_prefix {b : ReportBody} (hon : classOn s.hlp.enables b.cls = true)
    (hroom : s.hlp.reports.length < 64) (h : (raise b s).hlp.reports <+: t.hlp.reports) :
    t.hlp.reports[s.hlp.reports.length]?.map Report.body = some b := by
  obtain ⟨later, h⟩ := h
  have bodies := raise_reports hon hroom
  rw [← List.getElem?_map, ← h, List.map_append, bodies]
  simp

/-- The state in which the clocks take the alarm that fires as the calendar enters the minute `x`. -/
def alarmed (x : Stamp) (s : State) : State := raise (.tradingClose x s.hall.alarm) (advancedTo x s)

section
variable (x : Stamp) (s : State)

@[simp] theorem alarmed_clock : (alarmed x s).clock c = s.clock c := raise_clock ..
@[simp] theorem alarmed_board : (alarmed x s).board c = s.board c := raise_board ..
@[simp] theorem alarmed_lot : (alarmed x s).lot n = s.lot n := raise_lot ..
@[simp] theorem alarmed_lanes : (alarmed x s).lanes = s.lanes := raise_lanes ..
@[simp] theorem alarmed_bus : (alarmed x s).bus = s.bus := raise_bus ..
@[simp] theorem alarmed_ledger : (alarmed x s).ledger = s.ledger := raise_ledger ..
@[simp] theorem alarmed_hall : (alarmed x s).hall =
    { s.hall with calendar := x, nextAdvance := s.hall.nextAdvance + 10000 } := raise_hall ..

end

theorem givesBack_alarmed : givesBack (alarmed x s) n = givesBack s n := by
  funext c
  simp [givesBack]

theorem lot_given_back (h : (s.clock c).state = .loaded .new) (hn : (s.clock c).lot = some n) (hl : s.lot n = some l) :
    (eachClock closeClock (alarmed x s)).lot n = some (readyForm l) := by
  have back : allClocks.any (givesBack s n) = true :=
    List.any_eq_true.2 ⟨c, mem_allClocks c, decide_eq_true ⟨h, hn⟩⟩
  rw [eachClock_closeClock_lot, givesBack_alarmed, back, if_pos rfl, alarmed_lot, hl, Option.map_some]

theorem lot_not_given_back (h : ∀ c, (s.clock c).state = .loaded .new → (s.clock c).lot ≠ some n) :
    (eachClock closeClock (alarmed x s)).lot n = s.lot n := by
  have kept : allClocks.any (givesBack s n) = false :=
    List.any_eq_false.2 fun c _ hc => h c (of_decide_eq_true hc).1 (of_decide_eq_true hc).2
  rw [eachClock_closeClock_lot, givesBack_alarmed, kept, alarmed_lot]
  rfl

/-- Settles O23: CLOCK-OPEN by the state of the clock; the alarm at the clock of each state, and at every lot. -/
theorem tradingClosedAndReopened : Obligations.TradingClosedAndReopened := by
  unfold Obligations.TradingClosedAndReopened
  refine ⟨fun tag n c s hs hc => ⟨fun hst => ?_, fun hst => ?_⟩, fun x s hm ht hx ha => ?_⟩
  · exact exec_onClock hs tag (.clockOpen n) hc (requestOpen_of_openClock (openClock_closed (s := framed s) hst))
  · exact exec_onClock hs tag (.clockOpen n) hc (requestOpen_of_openClock (openClock_notClosed (s := framed s) hst))
  · have clock : ∀ c, (eachClock closeClock (alarmed x s)).clock c = shutForm (s.clock c) := fun c => by
      rw [eachClock_closeClock_clock, alarmed_clock]
    refine ⟨eachClock closeClock (alarmed x s), exec_calendarAdvance_fires hm ht hx ha, ?hall,
      fun hon hroom => ?report, fun c hst => ?idle, fun c hst => ⟨?new, ?mark, fun n l hn hl => ?back⟩,
      fun c h1 h2 => ⟨?other, ?board⟩, fun n hn => ?lots, ?lanes, ?bus, ?lines, ?buyers, ?invoices⟩
    case hall => rw [eachClock_keeps State.hall closeClock_hall, alarmed_hall]
    case report =>
      have behind : (raise (.tradingClose x s.hall.alarm) (advancedTo x s)).hlp.reports <+: _ :=
        eachClock_closeClock_reports_prefix (s := alarmed x s)
      exact report_of_prefix (s := advancedTo x s) hon hroom behind
    case idle => rw [clock, shutForm, if_pos hst]
    case new =>
      rw [clock, shutForm, if_neg (by simp [hst]), if_pos hst]
      rfl
    case mark => exact eachClock_closeClock_lotMark (by rwa [alarmed_clock])
    case back => exact lot_given_back hst hn hl
    case other => rw [clock, shutForm, if_neg h1, if_neg h2]
    case board => rw [eachClock_closeClock_board (by rwa [alarmed_clock]), alarmed_board]
    case lots => exact lot_not_given_back hn
    case lanes => rw [eachClock_keeps State.lanes closeClock_lanes, alarmed_lanes]
    case bus => rw [eachClock_keeps State.bus closeClock_bus, alarmed_bus]
    case lines => rw [eachClock_keeps (fun s => s.ledger.journal.lines) closeClock_lines, alarmed_ledger]
    case buyers => rw [eachClock_keeps (fun s => s.ledger.buyers) closeClock_buyers, alarmed_ledger]
    case invoices => rw [eachClock_keeps (fun s => s.ledger.invoices) closeClock_invoices, alarmed_ledger]

end Sys2Proof.Machine
end

section
/-! What a step keeps of the desks, the ticks, the calendar and the collections (R86, R91, R108, R182): the four
invariants together, as a relation between a state and what follows it, with what each of them reads. -/

set_option Elab.async false

namespace Sys2Proof.Machine

open Sys2Proof.Safety

variable {s t u : State} {c : ClockId} {d : DeskId} {n : Nat}

/-! ## Desks within their rows (0.5.5) -/

/-- A row written shows its own sixteen desks and leaves those of the other rows. -/
theorem State.setRow_desk (r : RowId) (x : Row) (d : DeskId) :
    (s.setRow r x).desk d = if rowOfDesk d = r then x.desks.get (seatOfDesk d) else s.desk d := by
  unfold State.desk
  split
  · next h => rw [h, State.setRow_row_self]
  · next h => rw [State.setRow_row_ne _ _ _ _ h]

theorem eq_of_row_seat {d d' : DeskId} (hrow : rowOfDesk d' = rowOfDesk d) (hseat : seatOfDesk d' = seatOfDesk d) :
    d' = d := by
  have hr : d'.val / 16 = d.val / 16 := congrArg Fin.val hrow
  have hs : d'.val % 16 = d.val % 16 := congrArg Fin.val hseat
  exact Fin.ext (by omega)

theorem State.setDesk_desk_ne {d' : DeskId} (x : Desk) (h : d' ≠ d) : (s.setDesk d x).desk d' = s.desk d' := by
  rw [State.setDesk, State.setRow_desk]
  split
  · next hrow =>
    have hseat : seatOfDesk d' ≠ seatOfDesk d := fun hs => h (eq_of_row_seat hrow hs)
    rw [vector_get_set_ne _ _ _ _ hseat, State.desk, hrow]
  · rfl

/-! ## What BindingsKept reads (R86) -/

/-- The accounts as BindingsKept reads them: number and bound-desk count. -/
def accounts (s : State) : List (Nat × Nat) := s.ledger.buyers.map fun b => (b.number, b.boundDesks)

/-- The account numbers. -/
def accountNumbers (s : State) : List Nat := (accounts s).map Prod.fst

/-- The number of the account that an operation will enter at its completion (R128). -/
def enters : Option Operation → Option Nat
  | some (.host _ (.buyerEnter a) _ .go) => some a.number
  | _ => none

theorem mem_accountNumbers : n ∈ accountNumbers s ↔ (s.buyer n).isSome := by
  simp [accountNumbers, accounts, State.buyer, findKey]

theorem buyer_eq_none_iff : s.buyer n = none ↔ n ∉ accountNumbers s := by
  rw [mem_accountNumbers, Option.not_isSome_iff_eq_none]

theorem enters_eq_some {o : Option Operation} :
    enters o = some n ↔ ∃ tag a line, o = some (.host tag (.buyerEnter a) line .go) ∧ a.number = n := by
  unfold enters
  split <;> simp_all

/-- BindingsKept said of what it reads. -/
theorem bindingsKept_iff : BindingsKept s ↔
    (accountNumbers s).Nodup ∧ (∀ a ∈ accounts s, a.2 = desksBoundTo s a.1) ∧
    (∀ d n, (s.desk d).binding = some n → n ∈ accountNumbers s) ∧
    ∀ n, enters s.ledger.arbiter.inProgress = some n → n ∉ accountNumbers s := by
  have hunique : s.ledger.buyers.Pairwise (fun a b => a.number ≠ b.number) ↔ (accountNumbers s).Nodup := by
    simp [accountNumbers, accounts, List.Nodup, List.pairwise_map]
  have hcounts : (∀ b ∈ s.ledger.buyers, b.boundDesks = desksBoundTo s b.number) ↔
      ∀ a ∈ accounts s, a.2 = desksBoundTo s a.1 := by simp [accounts]
  constructor
  · rintro ⟨unique, counts, named, fresh⟩
    refine ⟨hunique.1 unique, hcounts.1 counts, fun d n h => mem_accountNumbers.2 (named d n h), fun n h => ?_⟩
    obtain ⟨tag, a, line, hp, rfl⟩ := enters_eq_some.1 h
    exact buyer_eq_none_iff.1 (fresh tag a line hp)
  · rintro ⟨unique, counts, named, fresh⟩
    exact ⟨hunique.2 unique, hcounts.2 counts, fun d n h => mem_accountNumbers.1 (named d n h), fun tag a line h =>
      buyer_eq_none_iff.2 (fresh _ (enters_eq_some.2 ⟨tag, a, line, h, rfl⟩))⟩

theorem accountNumbers_congr (h : accounts t = accounts s) : accountNumbers t = accountNumbers s := by
  rw [accountNumbers, h, accountNumbers]

theorem desksBoundTo_congr (h : ∀ d, (t.desk d).binding = (s.desk d).binding) (n : Nat) :
    desksBoundTo t n = desksBoundTo s n := by simp only [desksBoundTo, h]

/-- BindingsKept where its accounts and bindings are the same and no other account is being entered. -/
theorem bindingsKept_of_same (h : BindingsKept s) (hacc : accounts t = accounts s)
    (hbind : ∀ d, (t.desk d).binding = (s.desk d).binding)
    (hent : ∀ n, enters t.ledger.arbiter.inProgress = some n → n ∉ accountNumbers s) : BindingsKept t := by
  obtain ⟨unique, counts, named, -⟩ := bindingsKept_iff.1 h
  refine bindingsKept_iff.2 ⟨?_, ?_, ?_, ?_⟩
  · rwa [accountNumbers_congr hacc]
  · simpa only [hacc, desksBoundTo_congr hbind] using counts
  · simpa only [accountNumbers_congr hacc, hbind] using named
  · simpa only [accountNumbers_congr hacc] using hent

/-! ## One desk is bound or unbound (R86) -/

/-- 1 where a binding names the buyer. -/
def oneIf (b : Option Nat) (n : Nat) : Nat := if b = some n then 1 else 0

@[simp] theorem oneIf_none : oneIf none n = 0 := rfl

@[simp] theorem oneIf_some {m : Nat} : oneIf (some m) n = if n = m then 1 else 0 := by simp [oneIf, eq_comm]

theorem desksBoundTo_eq_sum (s : State) (n : Nat) : desksBoundTo s n = ∑ d, oneIf (s.desk d).binding n := by
  simp only [oneIf, Finset.sum_boole, Nat.cast_id]
  rfl

theorem oneIf_le_desksBoundTo (s : State) (d : DeskId) (n : Nat) :
    oneIf (s.desk d).binding n ≤ desksBoundTo s n := by
  rw [desksBoundTo_eq_sum]
  exact Finset.single_le_sum (f := fun d => oneIf (s.desk d).binding n) (fun _ _ => Nat.zero_le _) (Finset.mem_univ d)

/-- Where one desk's binding changes, the desks bound to each buyer change by that desk. -/
theorem desksBoundTo_rebind (h : ∀ d', d' ≠ d → (t.desk d').binding = (s.desk d').binding) (n : Nat) :
    desksBoundTo t n + oneIf (s.desk d).binding n = desksBoundTo s n + oneIf (t.desk d).binding n := by
  have hrest : ∑ d' ∈ Finset.univ.erase d, oneIf (t.desk d').binding n =
      ∑ d' ∈ Finset.univ.erase d, oneIf (s.desk d').binding n :=
    Finset.sum_congr rfl fun d' hd => by rw [h d' (Finset.ne_of_mem_erase hd)]
  have ht := Finset.add_sum_erase Finset.univ (fun d => oneIf (t.desk d).binding n) (Finset.mem_univ d)
  have hs := Finset.add_sum_erase Finset.univ (fun d => oneIf (s.desk d).binding n) (Finset.mem_univ d)
  rw [desksBoundTo_eq_sum, desksBoundTo_eq_sum]
  omega

/-- One desk's binding changes, and the counts of the buyers it named and names follow it. -/
theorem bindingsKept_rebind (h : BindingsKept s) {x : Option Nat}
    (hacc : accounts t = (accounts s).map fun a => (a.1, a.2 - oneIf (s.desk d).binding a.1 + oneIf x a.1))
    (hd : (t.desk d).binding = x) (hbind : ∀ d', d' ≠ d → (t.desk d').binding = (s.desk d').binding)
    (hx : ∀ n, x = some n → n ∈ accountNumbers s)
    (hprog : t.ledger.arbiter.inProgress = s.ledger.arbiter.inProgress) : BindingsKept t := by
  obtain ⟨unique, counts, named, fresh⟩ := bindingsKept_iff.1 h
  have hnum : accountNumbers t = accountNumbers s := by simp [accountNumbers, hacc, Function.comp_def]
  refine bindingsKept_iff.2 ⟨hnum ▸ unique, fun a ha => ?_, fun d' n hn => ?_, by simpa only [hprog, hnum] using fresh⟩
  · rw [hacc] at ha
    obtain ⟨a, ha', rfl⟩ := List.mem_map.1 ha
    have hcount := desksBoundTo_rebind hbind a.1
    have hle := oneIf_le_desksBoundTo s d a.1
    rw [hd] at hcount
    show a.2 - oneIf (s.desk d).binding a.1 + oneIf x a.1 = desksBoundTo t a.1
    rw [counts a ha']
    omega
  · rw [hnum]
    by_cases h' : d' = d
    · exact hx n (by rw [← hd, ← h', hn])
    · exact named d' n (by rw [← hbind d' h', hn])

end Sys2Proof.Machine
end

section
/-! What keeps the four invariants of O6 and O9: nothing they read changes, a tick is handed over, a collection changes, a
desk is bound or unbound, an account is entered or removed. -/

set_option Elab.async false

namespace Sys2Proof.Machine

open Sys2Proof.Safety

variable {s t u : State} {c : ClockId} {d : DeskId} {n : Nat}

/-! ## The relation -/

/-- A collection of at most 16 presses of different desks (R108). -/
abbrev CollectionFits (l : List Press) : Prop := l.length ≤ 16 ∧ l.Pairwise fun p q => p.desk ≠ q.desk

/-- What `u` keeps of the invariants of O6 and O9, `s` keeps too. -/
structure Keeps (u s : State) : Prop where
  ticks : TicksKept u → TicksKept s
  calendar : CalendarKept u → CalendarKept s
  collections : CollectionsKept u → CollectionsKept s
  bindings : BindingsKept u → BindingsKept s

theorem Keeps.refl (s : State) : Keeps s s := ⟨id, id, id, id⟩

theorem Keeps.trans (h : Keeps u s) (h' : Keeps s t) : Keeps u t where
  ticks := h'.ticks ∘ h.ticks
  calendar := h'.calendar ∘ h.calendar
  collections := h'.collections ∘ h.collections
  bindings := h'.bindings ∘ h.bindings

/-! ## Nothing the invariants read changes -/

theorem collectionsKept_congr (h : CollectionsKept s) (hc : ∀ c, (t.clock c).collection = (s.clock c).collection) :
    CollectionsKept t := fun c => (hc c).symm ▸ h c

theorem bindingsKept_congr (h : BindingsKept s) (hacc : accounts t = accounts s)
    (hbind : ∀ d, (t.desk d).binding = (s.desk d).binding)
    (hprog : t.ledger.arbiter.inProgress = s.ledger.arbiter.inProgress) : BindingsKept t :=
  bindingsKept_of_same h hacc hbind (hprog ▸ (bindingsKept_iff.1 h).2.2.2)

/-- Each part of a state that the invariants read is the same, or all of it that they read. -/
theorem keeps_of_same (h : Keeps u s) (hticks : t.bus.ticks = s.bus.ticks := by rfl)
    (hcal : t.hall.calendar = s.hall.calendar := by rfl)
    (hclk : ∀ c, (t.clock c).collection = (s.clock c).collection := by intro; rfl)
    (hbind : ∀ d, (t.desk d).binding = (s.desk d).binding := by intro; rfl)
    (hacc : accounts t = accounts s := by rfl)
    (hprog : t.ledger.arbiter.inProgress = s.ledger.arbiter.inProgress := by rfl) : Keeps u t :=
  h.trans ⟨fun k => by simpa only [TicksKept, hticks] using k, fun k => by simpa only [CalendarKept, hcal] using k,
    fun k => collectionsKept_congr k hclk, fun k => bindingsKept_congr k hacc hbind hprog⟩

/-- Clocks, bus, ledger and hall are the same. -/
theorem keeps_congr (h : Keeps u s) (hclk : t.clocks = s.clocks := by simp) (hbus : t.bus = s.bus := by simp)
    (hled : t.ledger = s.ledger := by simp) (hhall : t.hall = s.hall := by simp) : Keeps u t :=
  keeps_of_same h (by rw [hbus]) (by rw [hhall]) (fun c => by simp only [State.clock, hclk])
    (fun d => by simp only [State.desk, State.row, hbus]) (by simp only [accounts, hled]) (by rw [hled])

theorem keeps_raise (h : Keeps u s) {b : ReportBody} : Keeps u (raise b s) := keeps_congr h

theorem keeps_placeReply (h : Keeps u s) {r : Reply} : Keeps u (placeReply r s) := keeps_of_same h

theorem keeps_askUpdate (h : Keeps u s) : Keeps u (askUpdate c s) := keeps_congr h

theorem keeps_markChanged (h : Keeps u s) : Keeps u (markChanged c s) := keeps_of_same h

theorem keeps_sendDisplay (h : Keeps u s) : Keeps u (sendDisplay c s) := keeps_of_same h

theorem keeps_reach (h : Keeps u s) {e : Nat} : Keeps u (s.reach e) := keeps_of_same h

theorem keeps_setBoard (h : Keeps u s) {x : Board} : Keeps u (s.setBoard c x) := keeps_of_same h

theorem keeps_setLane (h : Keeps u s) {x : Lane} : Keeps u (s.setLane c x) := keeps_of_same h

theorem keeps_modLot (h : Keeps u s) {f : Lot → Lot} : Keeps u (s.modLot n f) := keeps_of_same h

theorem keeps_setJournal (h : Keeps u s) {j : Journal} : Keeps u (s.setJournal j) := keeps_of_same h

theorem keeps_setLotMark (h : Keeps u s) {m : Option Nat} : Keeps u (setLotMark c m s) := keeps_of_same h

theorem keeps_writeLine (h : Keeps u s) {l : JournalLine} : Keeps u (writeLine l s) := keeps_of_same h

theorem keeps_count (h : Keeps u s) {f : LedgerCounters → LedgerCounters} : Keeps u (s.count f) := keeps_of_same h

theorem keeps_modInvoice (h : Keeps u s) {f : Invoice → Invoice} : Keeps u (s.modInvoice n f) := keeps_of_same h

theorem keeps_setLastSale (h : Keeps u s) {x : Option LastSale} : Keeps u (s.setLastSale c x) := keeps_of_same h

theorem keeps_testDepartures (h : Keeps u s) : Keeps u (testDepartures c s) := keeps_congr h

/-! ## Operations made on every clock, on a list, or under a guard -/

theorem keeps_eachClock {f : ClockId → State → State} (hf : ∀ c s, Keeps u s → Keeps u (f c s)) (h : Keeps u s) :
    Keeps u (eachClock f s) := hf 3 _ (hf 2 _ (hf 1 _ (hf 0 _ h)))

theorem keeps_foldl {α : Type} {f : State → α → State} (hf : ∀ a s, Keeps u s → Keeps u (f s a)) (l : List α)
    (h : Keeps u s) : Keeps u (l.foldl f s) := List.foldlRecOn l f h fun s hs a _ => hf a s hs

theorem keeps_whenPowered (h : Keeps u s) (ht : Keeps u t) : Keeps u (whenPowered s t) := by
  unfold whenPowered
  split
  · exact ht
  · exact h

/-! ## Collections (R108 to R111) -/

/-- One clock is replaced, its collection keeping the bounds of R108. -/
theorem keeps_setClock (h : Keeps u s) {x : Clock}
    (hx : CollectionFits (s.clock c).collection → CollectionFits x.collection := by exact id) :
    Keeps u (s.setClock c x) :=
  h.trans ⟨id, id, fun k d => by
    by_cases hd : d = c
    · subst hd
      simpa using hx (k d)
    · simpa only [State.setClock_clock_ne _ _ _ _ hd] using k d,
  fun k => bindingsKept_congr k rfl (fun _ => rfl) rfl⟩

theorem collectionFits_nil : CollectionFits [] := ⟨Nat.zero_le _, .nil⟩

theorem CollectionFits.tail {l : List Press} (h : CollectionFits l) : CollectionFits l.tail :=
  ⟨by rw [List.length_tail]; exact (Nat.sub_le _ _).trans h.1, h.2.tail⟩

theorem insertPress_perm (p : Press) (l : List Press) : (insertPress p l).Perm (p :: l) := by
  induction l with
  | nil => exact .refl _
  | cons q l ih =>
    simp only [insertPress]
    split
    · exact .refl _
    · exact (ih.cons q).trans (.swap p q l)

/-- A press of a desk without an entry joins a collection that is not full. -/
theorem CollectionFits.insert {p : Press} {l : List Press} (h : CollectionFits l) (hroom : l.length < 16)
    (hdesk : ∀ q ∈ l, q.desk ≠ p.desk) : CollectionFits (insertPress p l) := by
  have hperm := insertPress_perm p l
  refine ⟨by rw [hperm.length_eq, List.length_cons]; omega, ?_⟩
  rw [hperm.pairwise_iff fun h => h.symm, List.pairwise_cons]
  exact ⟨fun q hq => (hdesk q hq).symm, h.2⟩

/-! ## Ticks (R91, R92) -/

theorem pendingOf_cons (c : ClockId) (x : Tick) (q : List Tick) :
    pendingOf c (x :: q) = (if x.clock = c then 1 else 0) + pendingOf c q := by
  by_cases hx : x.clock = c <;> simp [pendingOf, hx, Nat.add_comm]

theorem pendingOf_concat (c : ClockId) (x : Tick) (q : List Tick) :
    pendingOf c (q ++ [x]) = pendingOf c q + if x.clock = c then 1 else 0 := by
  by_cases hx : x.clock = c <;> simp [pendingOf, hx]

theorem pendingOf_tail_le (c : ClockId) (q : List Tick) : pendingOf c q.tail ≤ pendingOf c q :=
  ((List.tail_sublist q).filter _).length_le

/-- Dropping a clock's oldest tick takes one of its ticks and none of another clock's. -/
theorem pendingOf_dropOldest (c d : ClockId) (q : List Tick) (h : 0 < pendingOf c q) :
    (pendingOf d (dropOldest c q) + if c = d then 1 else 0) = pendingOf d q := by
  induction q with
  | nil => simp [pendingOf] at h
  | cons x q ih =>
    rw [dropOldest, pendingOf_cons d]
    split
    · next hx => rw [hx, Nat.add_comm]
    · next hx =>
      rw [pendingOf_cons, if_neg hx, Nat.zero_add] at h
      rw [pendingOf_cons, Nat.add_assoc, ih h]

/-- The queue takes one more tick of a clock, and holds at most four of each (R91). -/
theorem pendingOf_queueTick (x : Tick) (b : DeskBus) (h : ∀ c, pendingOf c b.ticks ≤ 4) (c : ClockId) :
    pendingOf c (queueTick x b).ticks ≤ 4 := by
  rcases queueTick_cases x b with ⟨hroom, e⟩ | ⟨hfull, e⟩ <;> rw [e, pendingOf_concat]
  · split
    · next hx => rwa [← hx]
    · exact h c
  · rw [pendingOf_dropOldest _ _ _ (by omega)]
    exact h c

theorem keeps_handTick (h : Keeps u s) : Keeps u (handTick c s) :=
  h.trans ⟨fun k d => by rw [handTick_bus_ticks]; exact pendingOf_queueTick _ _ k d, id, id, fun k =>
    bindingsKept_congr k rfl (fun d => by simp only [State.desk, State.row, handTick_bus_rows]) rfl⟩

/-! ## Desks (R86, R96 to R102) -/

/-- One row is replaced, its desks bound as before. -/
theorem keeps_setRow (h : Keeps u s) {r : RowId} {x : Row}
    (hx : ∀ i, (x.desks.get i).binding = ((s.row r).desks.get i).binding := by intro; rfl) : Keeps u (s.setRow r x) :=
  keeps_of_same h (hbind := fun d => by
    rw [State.setRow_desk]
    split
    · next hd => rw [hx, State.desk, hd]
    · rfl)

/-- One desk is replaced, bound as before. -/
theorem keeps_setDesk (h : Keeps u s) {x : Desk} (hx : x.binding = (s.desk d).binding := by rfl) :
    Keeps u (s.setDesk d x) :=
  keeps_of_same h (hbind := fun d' => by
    by_cases hd : d' = d
    · rw [hd, State.setDesk_desk_self, hx]
    · rw [State.setDesk_desk_ne _ hd])

theorem keeps_pulseWin (h : Keeps u s) : Keeps u (pulseWin d s) := keeps_setDesk h

theorem keeps_pulseRefused (h : Keeps u s) : Keeps u (pulseRefused d s) := keeps_setDesk h

theorem keeps_countRefused (h : Keeps u s) {x : DeskRefusal} : Keeps u (countRefused d x s) := by
  cases x <;> exact keeps_setRow h

theorem keeps_refusePress (h : Keeps u s) {x : DeskRefusal} : Keeps u (refusePress d x c s) :=
  keeps_setDesk (keeps_countRefused h)

/-- An account is changed in neither its number nor its bound-desk count. -/
theorem keeps_modBuyer (h : Keeps u s) {f : Buyer → Buyer}
    (hf : ∀ b, (f b).number = b.number ∧ (f b).boundDesks = b.boundDesks := by intro; exact ⟨rfl, rfl⟩) :
    Keeps u (s.modBuyer n f) :=
  keeps_of_same h (hacc := by
    simp only [accounts, State.modBuyer_ledger_buyers, modKey, List.map_map]
    refine List.map_congr_left fun b _ => ?_
    simp only [Function.comp_apply]
    split
    · rw [(hf b).1, (hf b).2]
    · rfl)

/-- The bound-desk count of one account changes. -/
theorem accounts_modBuyer (f : Nat → Nat) : accounts (s.modBuyer n fun a => { a with boundDesks := f a.boundDesks }) =
    (accounts s).map fun a => (a.1, if a.1 = n then f a.2 else a.2) := by
  simp only [accounts, State.modBuyer_ledger_buyers, modKey, List.map_map]
  refine List.map_congr_left fun b _ => ?_
  simp only [Function.comp_apply]
  split <;> rfl

/-! ## Bindings (R86, R97 to R100) -/

theorem unbindDesk_binding (d : DeskId) (s : State) : ((unbindDesk d s).desk d).binding = none := by
  unfold unbindDesk
  split
  · next h => exact h
  · simp

theorem unbindDesk_ticks (d : DeskId) (s : State) : (unbindDesk d s).bus.ticks = s.bus.ticks := by
  unfold unbindDesk
  split <;> rfl

theorem bindDesk_ticks (d : DeskId) (n : Nat) (s : State) : (bindDesk d n s).bus.ticks = s.bus.ticks := by
  unfold bindDesk
  split
  · rfl
  · exact unbindDesk_ticks d s

theorem accountNumbers_unbindDesk : accountNumbers (unbindDesk d s) = accountNumbers s := by
  unfold unbindDesk
  split
  · rfl
  · rw [accountNumbers, accounts_modBuyer fun k => k - 1, List.map_map]
    rfl

theorem bindingsKept_unbindDesk (h : BindingsKept s) : BindingsKept (unbindDesk d s) := by
  unfold unbindDesk
  split
  · exact h
  · next b hb =>
    refine bindingsKept_rebind (d := d) (x := none) h ?_ (by simp) (fun d' hd => ?_) (by simp) rfl
    · rw [accounts_modBuyer fun k => k - 1]
      refine List.map_congr_left fun a _ => ?_
      rw [hb]
      by_cases ha : a.1 = b <;> simp [ha]
    · rw [State.modBuyer_desk, State.setDesk_desk_ne _ hd]

theorem bindingsKept_bindDesk (h : BindingsKept s) (hn : n ∈ accountNumbers s) : BindingsKept (bindDesk d n s) := by
  unfold bindDesk
  split
  · exact h
  · have hunbound : ((unbindDesk d s).desk d).binding = none := unbindDesk_binding d s
    refine bindingsKept_rebind (d := d) (x := some n) (bindingsKept_unbindDesk h) ?_ (by simp) (fun d' hd => ?_) ?_ rfl
    · rw [accounts_modBuyer fun k => k + 1]
      refine List.map_congr_left fun a _ => ?_
      rw [hunbound]
      by_cases ha : a.1 = n <;> simp [ha]
    · rw [State.modBuyer_desk, State.setDesk_desk_ne _ hd]
    · rintro m ⟨⟩
      rwa [accountNumbers_unbindDesk]

/-- What changes the bindings and the counts alone keeps the rest. -/
theorem keeps_of_bindings (h : Keeps u s) (hb : BindingsKept s → BindingsKept t)
    (hticks : t.bus.ticks = s.bus.ticks := by simp) (hclk : t.clocks = s.clocks := by simp)
    (hhall : t.hall = s.hall := by simp) : Keeps u t :=
  h.trans ⟨fun k => by simpa only [TicksKept, hticks] using k, fun k => by simpa only [CalendarKept, hhall] using k,
    fun k => collectionsKept_congr k fun c => by simp only [State.clock, hclk], hb⟩

theorem keeps_unbindDesk (h : Keeps u s) : Keeps u (unbindDesk d s) :=
  keeps_of_bindings h bindingsKept_unbindDesk (unbindDesk_ticks d s)

theorem keeps_bindDesk (h : Keeps u s) (hn : (s.buyer n).isSome) : Keeps u (bindDesk d n s) :=
  keeps_of_bindings h (fun k => bindingsKept_bindDesk k (mem_accountNumbers.2 hn)) (bindDesk_ticks d n s)

theorem keeps_refuseSignOn (h : Keeps u s) : Keeps u (refuseSignOn d s) :=
  keeps_pulseRefused (keeps_setDesk (keeps_unbindDesk h))

theorem keeps_signOn (h : Keeps u s) : Keeps u (signOn d n s) := by
  unfold signOn
  split
  · next a ha =>
    split
    · exact keeps_refuseSignOn h
    · exact keeps_bindDesk h (by simp [ha])
  · exact keeps_refuseSignOn h

end Sys2Proof.Machine
end

section
/-! The invariants of O6 and O9 through the moves of the Clock Engine and the boards (chapters 4 and 9), the ledger
operations (7 and 8) and the stop decisions (6). -/

set_option Elab.async false

namespace Sys2Proof.Machine

open Sys2Proof.Safety

variable {s t u : State} {c : ClockId} {d : DeskId} {n : Nat}

/-! ## Reservations and the run (R64 to R66) -/

theorem keeps_defer (h : Keeps u s) : Keeps u (defer c s) := by
  unfold defer
  split
  · exact h
  · exact keeps_setJournal h

theorem keeps_leaveLoaded (h : Keeps u s) : Keeps u (leaveLoaded c s) := keeps_setJournal (keeps_setClock h)

theorem keeps_runClock (h : Keeps u s) : Keeps u (runClock c s) :=
  keeps_markChanged (keeps_handTick (keeps_setClock (keeps_setClock (keeps_leaveLoaded h))))

theorem keeps_enterHeld (h : Keeps u s) {cause : HoldCause} : Keeps u (enterHeld c cause s) :=
  keeps_askUpdate (keeps_raise (keeps_setClock h))

theorem keeps_testNew (h : Keeps u s) : Keeps u (testNew c s) := by
  unfold testNew
  split
  · split
    · exact keeps_defer h
    · split
      · exact keeps_runClock (keeps_setClock h)
      · exact keeps_setClock h
  · exact h

theorem keeps_testRestart (h : Keeps u s) : Keeps u (testRestart c s) := by
  unfold testRestart
  split
  · exact keeps_enterHeld (keeps_leaveLoaded h)
  · split
    · exact keeps_runClock h
    · exact h

theorem keeps_askRestart (h : Keeps u s) : Keeps u (askRestart c s) := by
  unfold askRestart
  split
  · exact keeps_defer h
  · split
    · exact keeps_testRestart (keeps_setClock h)
    · exact keeps_setClock h

theorem keeps_tellClock (h : Keeps u s) : Keeps u (tellClock c s) := by
  unfold tellClock
  split
  · exact keeps_testNew h
  · split
    · exact keeps_testRestart h
    · exact h
  · exact h

theorem keeps_tellSpace (h : Keeps u s) : Keeps u (tellSpace c s) := by
  unfold tellSpace
  split
  · exact keeps_testNew h
  · split
    · exact keeps_testRestart h
    · exact keeps_askRestart h
  · exact h

theorem keeps_releaseDeferred (h : Keeps u s) : Keeps u (releaseDeferred c s) := by
  unfold releaseDeferred
  split
  · exact keeps_testNew h
  · split
    · exact h
    · exact keeps_askRestart h
  · exact h

theorem keeps_holdClock (h : Keeps u s) {cause : HoldCause} : Keeps u (holdClock c cause s) := by
  have pend : Keeps u (s.setClock c { s.clock c with
      holdPending := some ((s.clock c).holdPending.getD cause) }) := keeps_setClock h
  unfold holdClock
  cases (s.clock c).state with
  | running => exact keeps_enterHeld h
  | stopping | deciding | sold => exact pend
  | loaded | held | idle | closed => exact h

/-! ## Lots taken and ended, steps, pauses (R62, R67, R70, R71, R77, R78) -/

theorem keeps_takeLot (h : Keeps u s) {l : Lot} : Keeps u (takeLot c l s) :=
  keeps_askUpdate (keeps_setLastSale (keeps_setLotMark (keeps_setClock (keeps_modLot h))))

/-- A clock without a lot has no press. -/
theorem keeps_emptyClock (h : Keeps u s) {x : Clock} {state : ClockState} :
    Keeps u (s.setClock c (emptyClock x state)) := keeps_setClock h fun _ => collectionFits_nil

theorem keeps_endLot (h : Keeps u s) {cause : LotEndCause} : Keeps u (endLot c cause s) := by
  unfold endLot
  split
  · exact h
  · exact keeps_askUpdate (keeps_testDepartures (keeps_raise (keeps_raise (keeps_setLotMark (keeps_emptyClock
      (keeps_leaveLoaded (keeps_modLot h)))))))

theorem keeps_writeNoSale (h : Keeps u s) {cause : NoSaleCause} : Keeps u (writeNoSale c cause s) := by
  simp only [writeNoSale]
  split
  · exact keeps_setClock (keeps_writeLine h)
  · exact h

theorem keeps_stepClock (h : Keeps u s) : Keeps u (stepClock c s) := by
  simp only [stepClock]
  split
  · split
    · exact keeps_markChanged (keeps_handTick (keeps_setClock (keeps_setClock h)))
    · exact keeps_endLot (keeps_writeNoSale h)
  · exact h

theorem keeps_restartClock (h : Keeps u s) : Keeps u (restartClock c s) := by
  simp only [restartClock]
  split
  · exact keeps_askRestart (keeps_askUpdate (keeps_setClock h))
  · exact h

theorem keeps_closeClock (h : Keeps u s) : Keeps u (closeClock c s) := by
  have flag : Keeps u (s.setClock c { s.clock c with closing := true }) := keeps_setClock h
  simp only [closeClock]
  split
  · exact keeps_raise (keeps_setClock flag)
  · refine keeps_askUpdate (keeps_raise (keeps_setLotMark (keeps_emptyClock (keeps_leaveLoaded ?_))))
    split
    · exact keeps_modLot flag
    · exact flag
  · exact flag

theorem keeps_openClock (h : Keeps u s) : Keeps u (openClock c s) := by
  have flag : Keeps u (s.setClock c { s.clock c with closing := false }) := keeps_setClock h
  simp only [openClock]
  split
  · exact keeps_raise (keeps_setClock flag)
  · exact flag

/-! ## Board events that reach the clock (R174 to R176) -/

theorem keeps_linkFree (h : Keeps u s) : Keeps u (linkFree c s) := keeps_congr h

theorem keeps_missBoard (h : Keeps u s) : Keeps u (missBoard c s) := by
  simp only [missBoard]
  split
  · exact keeps_holdClock (keeps_raise (keeps_setBoard h))
  · exact keeps_linkFree (keeps_setBoard h)

theorem keeps_goodAnswer (h : Keeps u s) : Keeps u (goodAnswer c s) := by
  simp only [goodAnswer]
  split
  · exact keeps_linkFree (keeps_setBoard h)
  · exact keeps_tellClock (keeps_sendDisplay (keeps_raise (keeps_setBoard h)))

/-! ## SALE-COMMIT (R138, R139) -/

theorem keeps_openInvoice (h : Keeps u s) {buyer first : Nat} : Keeps u (openInvoice buyer first s) :=
  keeps_of_same (keeps_modBuyer (n := buyer) (f := fun b => { b with openInvoice := some (newInvoiceNumber s) }) h)

theorem keeps_writeSale (h : Keeps u s) {r : CommitRequest} {f : SaleFigures} : Keeps u (writeSale c r f s) := by
  unfold writeSale
  extract_lets seq opened number written clock unreserved invoiced charged sold last
  have hopened : Keeps u opened := by
    unfold opened
    split
    · exact h
    · exact keeps_openInvoice h
  have hunreserved : Keeps u unreserved := keeps_setClock (keeps_writeLine hopened)
  exact keeps_count (keeps_setLastSale (keeps_modLot (keeps_modBuyer (keeps_modInvoice hunreserved))))

theorem keeps_commitChanges (h : Keeps u s) {r : CommitRequest} {a : CommitAnswer} :
    Keeps u (commitChanges c r a s) := by
  cases a with
  | accepted f => exact keeps_writeSale h
  | refused x => exact keeps_of_same h

/-! ## Host ledger requests (R128 to R131, R141, R156 to R163) -/

theorem keeps_closeInvoice (h : Keeps u s) : Keeps u (closeInvoice n s) := by
  unfold closeInvoice
  split
  · exact h
  · exact keeps_modBuyer (keeps_modInvoice h)

theorem keeps_applyClose (h : Keeps u s) : Keeps u (applyClose n s).state := by
  unfold applyClose
  split
  · exact h
  · exact keeps_closeInvoice h

theorem keeps_applyDayClose (h : Keeps u s) : Keeps u (applyDayClose s).state :=
  keeps_foldl (fun _ _ hs => keeps_closeInvoice hs) _ h

theorem keeps_writeVoid (h : Keeps u s) {l : JournalLine} : Keeps u (writeVoid l s) := by
  refine keeps_setBoard ?_
  have last : ∀ t, Keeps u t → Keeps u (match t.ledger.lastSale.get l.clock with
      | some x => if x.sequence = l.sequence then t.setLastSale l.clock none else t
      | none => t) := fun t ht => by
    split
    · split
      · exact keeps_setLastSale ht
      · exact ht
    · exact ht
  exact last _ (keeps_modInvoice (keeps_modBuyer (keeps_modLot (keeps_setJournal (keeps_writeLine h)))))

theorem keeps_applyVoid (h : Keeps u s) : Keeps u (applyVoid n s).state := by
  unfold applyVoid
  split
  · exact h
  · split
    · exact h
    · exact keeps_writeVoid h

theorem keeps_applyPayment (h : Keeps u s) : Keeps u (applyPayment n s).state := by
  unfold applyPayment
  split
  · exact h
  · next i _ =>
    exact keeps_of_same (keeps_modBuyer (n := i.buyer)
      (f := fun b => { b with committed := b.committed - 10 * i.total.getD 0 }) h)

/-- BUYER-ENTER: no desk is bound to a number without an account, so the new account's count is right (R128). -/
theorem bindingsKept_enter (h : BindingsKept s) {b : Buyer} (hfree : b.number ∉ accountNumbers s)
    (hbound : b.boundDesks = 0) (hbuyers : t.ledger.buyers = insertKey Buyer.number b s.ledger.buyers)
    (hbind : ∀ d, (t.desk d).binding = (s.desk d).binding)
    (hprog : enters t.ledger.arbiter.inProgress = none) : BindingsKept t := by
  obtain ⟨unique, counts, named, -⟩ := bindingsKept_iff.1 h
  have hacc : (accounts t).Perm ((b.number, b.boundDesks) :: accounts s) := by
    rw [accounts, hbuyers]
    exact (insertKey_perm b s.ledger.buyers).map _
  have hnum : (accountNumbers t).Perm (b.number :: accountNumbers s) := hacc.map _
  have hnone : desksBoundTo s b.number = 0 := by
    rw [desksBoundTo_eq_sum]
    refine Finset.sum_eq_zero fun d _ => if_neg fun hd => hfree (named d _ hd)
  refine bindingsKept_iff.2 ⟨hnum.nodup_iff.2 (List.nodup_cons.2 ⟨hfree, unique⟩), fun a ha => ?_, fun d n hn => ?_,
    by simp [hprog]⟩
  · rw [desksBoundTo_congr hbind]
    rcases List.mem_cons.1 (hacc.mem_iff.1 ha) with rfl | ha
    · exact hbound.trans hnone.symm
    · exact counts a ha
  · exact hnum.mem_iff.2 (List.mem_cons_of_mem _ (named d n (hbind d ▸ hn)))

/-- BUYER-REMOVE: no desk is bound to an account whose count is 0 (R131). -/
theorem bindingsKept_remove (h : BindingsKept s) (hzero : ((s.buyer n).map Buyer.boundDesks).getD 0 = 0)
    (hbuyers : t.ledger.buyers = dropKey Buyer.number n s.ledger.buyers)
    (hbind : ∀ d, (t.desk d).binding = (s.desk d).binding)
    (hprog : t.ledger.arbiter.inProgress = s.ledger.arbiter.inProgress) : BindingsKept t := by
  obtain ⟨unique, counts, named, fresh⟩ := bindingsKept_iff.1 h
  have hacc : accounts t = (accounts s).filter fun a => a.1 ≠ n := by
    simp [accounts, hbuyers, dropKey, List.filter_map, Function.comp_def]
  have hnum : accountNumbers t = (accountNumbers s).filter fun m => m ≠ n := by
    simp [accountNumbers, hacc, List.filter_map, Function.comp_def]
  have hunbound : ∀ d, (s.desk d).binding ≠ some n := fun d hd => by
    obtain ⟨b, hb⟩ := Option.isSome_iff_exists.1 (h.named d n hd)
    have hcount := h.counts b (findKey_mem _ hb)
    have hone := oneIf_le_desksBoundTo s d n
    rw [findKey_key _ hb] at hcount
    simp [hb, hd, hcount] at hzero hone
    omega
  refine bindingsKept_iff.2 ⟨hnum ▸ unique.filter _, fun a ha => ?_, fun d m hm => ?_, fun m hm hmem => ?_⟩
  · rw [hacc] at ha
    rw [desksBoundTo_congr hbind, counts a (List.mem_of_mem_filter ha)]
  · rw [hbind] at hm
    rw [hnum, List.mem_filter]
    exact ⟨named d m hm, decide_eq_true fun e => hunbound d (by rw [hm, e])⟩
  · exact fresh m (hprog ▸ hm) (List.mem_of_mem_filter (hnum ▸ hmem))

end Sys2Proof.Machine
end

section
/-! The invariants of O6 and O9 through the arbiter, the completions, the presses and replies of the desk bus, the hall and
the starts (chapters 5 to 7, 10). -/

set_option Elab.async false

namespace Sys2Proof.Machine

open Sys2Proof.Safety

variable {s t u : State} {c : ClockId} {d : DeskId} {n : Nat}

/-! ## The arbiter (R134, R135) -/

/-- Another operation is in progress, or none: one that enters an account has found its number free (R128, R136). -/
theorem keeps_setArbiter (h : Keeps u s) {a : Arbiter}
    (ha : a.inProgress = s.ledger.arbiter.inProgress ∨ ∀ n, enters a.inProgress = some n → s.buyer n = none := by
      exact .inl rfl) : Keeps u (s.setArbiter a) :=
  keeps_of_bindings h (hticks := rfl) fun k => bindingsKept_of_same k rfl (fun _ => rfl) fun n hn => by
    rcases ha with e | hfree
    · exact (bindingsKept_iff.1 k).2.2.2 n (e ▸ hn)
    · exact buyer_eq_none_iff.1 (hfree n hn)

/-- A BUYER-ENTER that goes on at its service has found its number free (R128). -/
theorem buyer_eq_none_of_judgeRequest {a : BuyerEntry} (h : judgeRequest s (.buyerEnter a) = .go) :
    s.buyer a.number = none := by
  simp only [judgeRequest] at h
  split at h
  · cases h
  · next hn => simpa using hn

theorem keeps_serveChoice (h : Keeps u s) {x : Choice} : Keeps u (serveChoice x s) := by
  simp only [serveChoice]
  split
  · split
    · exact keeps_setArbiter h (.inr (by simp [enters]))
    · exact h
  · split
    · refine keeps_setArbiter h (.inr fun n hn => ?_)
      obtain ⟨tag, a, line, e, rfl⟩ := enters_eq_some.1 hn
      injection e with e
      injection e with _ hr _ hv
      exact buyer_eq_none_of_judgeRequest (hr ▸ hv)
    · exact h
  · exact h

theorem keeps_serveWaiting (h : Keeps u s) : Keeps u (serveWaiting s) := by
  unfold serveWaiting
  split
  · exact keeps_serveChoice h
  · exact h

theorem keeps_placeCommit (h : Keeps u s) : Keeps u (placeCommit c s) := by
  unfold placeCommit
  split
  · exact keeps_setArbiter h
  · exact h

theorem keeps_clearProgress (h : Keeps u s) : Keeps u (clearProgress s) :=
  keeps_setArbiter h (.inr (by simp [enters]))

/-! ## Host ledger requests carried out (R128 to R131, R134) -/

/-- Every request but BUYER-ENTER leaves the account numbers' freshness as it was. -/
theorem keeps_applyRequest (h : Keeps u s) {r : LedgerRequest} (hr : ∀ a, r ≠ .buyerEnter a) :
    Keeps u (applyRequest s r).state := by
  cases r with
  | buyerEnter a => exact absurd rfl (hr a)
  | buyerFlags a =>
    simp only [applyRequest]
    split <;> exact keeps_modBuyer h
  | buyerLimit number limit => exact keeps_modBuyer h
  | buyerRemove number =>
    simp only [applyRequest]
    split
    · next hzero => exact keeps_of_bindings h (fun k => bindingsKept_remove k hzero rfl (fun _ => rfl) rfl) rfl rfl rfl
    · exact h
  | tariffSet feeClass rate =>
    simp only [applyRequest]
    split
    · exact keeps_of_same h
    · exact h
  | saleVoid n => exact keeps_applyVoid h
  | paymentPost n => exact keeps_applyPayment h
  | invoiceClose which =>
    simp only [applyRequest]
    split
    · exact keeps_applyClose h
    · exact h
  | dayClose => exact keeps_applyDayClose h

/-- The operation in progress completes: a BUYER-ENTER with its number still free. -/
theorem keeps_requestChanges (h : Keeps u s) {tag : Byte} {r : LedgerRequest} {line : Option ClockId} {v : Service}
    (hprog : s.ledger.arbiter.inProgress = some (.host tag r line v)) :
    Keeps u (requestChanges r v (clearProgress s)).state := by
  cases v with
  | refuse status body => exact keeps_clearProgress h
  | go =>
    by_cases hr : ∃ a, r = .buyerEnter a
    · obtain ⟨a, rfl⟩ := hr
      refine keeps_of_bindings h (fun k => ?_) rfl rfl rfl
      exact bindingsKept_enter (b := newBuyer a) k (buyer_eq_none_iff.1 (k.fresh tag a line hprog)) rfl rfl
        (fun _ => rfl) rfl
    · exact keeps_applyRequest (keeps_clearProgress h) fun a e => hr ⟨a, e⟩

/-! ## The clock's part in a completion (R116 to R120) -/

theorem keeps_allRefused (h : Keeps u s) : Keeps u (allRefused c s) := by
  unfold allRefused
  split
  · exact keeps_enterHeld h
  · exact keeps_askUpdate (keeps_setClock (keeps_setClock h))

theorem keeps_reportCredit (h : Keeps u s) {r : CommitRequest} {x : CommitRefusal} : Keeps u (reportCredit c r x s) := by
  cases x with
  | credit f => exact keeps_raise h
  | notSigned | blocked | notPermitted | invoiceFull => exact h

theorem keeps_clockRefused (h : Keeps u s) {r : CommitRequest} {x : CommitRefusal} : Keeps u (clockRefused c r x s) := by
  have reported : Keeps u (reportCredit c r x (pulseRefused r.desk (refusePress r.desk (refusalReason x) c
      (s.setClock c { s.clock c with collection := (s.clock c).collection.tail })))) :=
    keeps_reportCredit (keeps_pulseRefused (keeps_refusePress (keeps_setClock h CollectionFits.tail)))
  simp only [clockRefused]
  split
  · exact keeps_allRefused reported
  · exact keeps_placeCommit reported

theorem keeps_clockAccepted (h : Keeps u s) {r : CommitRequest} {f : SaleFigures} {seq : Nat} :
    Keeps u (clockAccepted c r f seq s) := by
  have answered : Keeps u (pulseWin r.desk ((s.clock c).collection.tail.foldl
      (fun s p => refusePress p.desk .outbid c s) (s.setClock c { s.clock c with collection := [] }))) :=
    keeps_pulseWin (keeps_foldl (fun _ _ hs => keeps_refusePress hs) _ (keeps_setClock h fun _ => collectionFits_nil))
  simp only [clockAccepted]
  split
  · exact answered
  · split
    · exact keeps_askUpdate (keeps_setClock (keeps_raise answered))
    · exact keeps_askUpdate (keeps_endLot (keeps_raise answered))

theorem keeps_clockAnswered (h : Keeps u s) {r : CommitRequest} {a : CommitAnswer} : Keeps u (clockAnswered c r a s) := by
  cases a with
  | accepted f => exact keeps_clockAccepted h
  | refused x => exact keeps_clockRefused h

/-! ## Completions (R134, R138, R145, R152, R202) -/

theorem keeps_releaseAllDeferred (h : Keeps u s) : Keeps u (releaseAllDeferred s) :=
  keeps_foldl (fun _ _ hs => keeps_releaseDeferred hs) _ (keeps_setJournal h)

theorem keeps_continueReset (h : Keeps u s) : Keeps u (continueReset s) := by
  unfold continueReset
  split
  · exact keeps_of_same h
  · exact h

theorem keeps_afterCompletion (h : Keeps u s) {x : Choice} : Keeps u (afterCompletion x s) :=
  keeps_continueReset (keeps_serveWaiting (keeps_serveChoice h))

theorem keeps_completeCommit (h : Keeps u s) {r : CommitRequest} {a : CommitAnswer} : Keeps u (completeCommit c r a s) := by
  have changed := keeps_commitChanges (c := c) (r := r) (a := a) (keeps_clearProgress h)
  simp only [completeCommit]
  split
  · exact changed
  · exact keeps_afterCompletion (keeps_clockAnswered changed)

theorem keeps_completeHost (h : Keeps u s) {tag : Byte} {r : LedgerRequest} {line : Option ClockId} {v : Service}
    (hprog : s.ledger.arbiter.inProgress = some (.host tag r line v)) : Keeps u (completeHost tag r v s) := by
  have changed := keeps_requestChanges h hprog
  simp only [completeHost]
  split
  · exact changed
  · refine keeps_afterCompletion ?_
    split
    · exact keeps_releaseAllDeferred (keeps_placeReply changed)
    · exact keeps_placeReply changed

theorem keeps_settleInProgress (h : Keeps u s) : Keeps u (settleInProgress s) := by
  unfold settleInProgress
  split
  · exact h
  · exact keeps_commitChanges (keeps_clearProgress h)
  · next hprog => exact keeps_requestChanges h hprog

/-! ## Presses and row replies (R88 to R99, R108 to R112) -/

theorem keeps_enterDeciding (h : Keeps u s) : Keeps u (enterDeciding c s) :=
  keeps_serveWaiting (keeps_placeCommit (keeps_setClock h))

/-- A press placed in a full collection takes the place of the last entry (R111). -/
theorem CollectionFits.replaceLast {p : Press} {l : List Press} (h : CollectionFits l) (hne : l ≠ [])
    (hdesk : ∀ q ∈ l, q.desk ≠ p.desk) : CollectionFits (insertPress p l.dropLast) := by
  have hlen : l.dropLast.length < 16 := by
    have := List.length_pos_iff.2 hne
    have := h.1
    rw [List.length_dropLast]
    omega
  exact CollectionFits.insert ⟨hlen.le, h.2.sublist (List.dropLast_sublist l)⟩ hlen
    fun q hq => hdesk q (List.mem_of_mem_dropLast hq)

theorem keeps_collect (h : Keeps u s) {p : Press} : Keeps u (collect c p s) := by
  simp only [collect]
  split
  · exact keeps_refusePress h
  · next hnew =>
    have hdesk : ∀ q ∈ (s.clock c).collection, q.desk ≠ p.desk := by simpa using hnew
    split
    · next hroom => exact keeps_setClock h fun k => k.insert hroom hdesk
    · split
      · exact h
      · next last hlast =>
        have hne : (s.clock c).collection ≠ [] := fun e => by simp [e] at hlast
        split
        · exact keeps_refusePress (keeps_setClock h fun k => k.replaceLast hne hdesk)
        · exact keeps_refusePress h

theorem keeps_stopClock (h : Keeps u s) {p : Press} : Keeps u (stopClock c p s) := by
  have first : ∀ {x : Clock}, x.collection = [p] → Keeps u (s.setClock c x) := fun e =>
    keeps_setClock h fun _ => by rw [e]; exact ⟨by simp, List.pairwise_singleton ..⟩
  simp only [stopClock]
  split
  · exact keeps_serveWaiting (keeps_placeCommit (keeps_askUpdate (keeps_setClock (first rfl))))
  · exact keeps_askUpdate (first rfl)

theorem keeps_takePress (h : Keeps u s) {run tag offset packs : Nat} :
    Keeps u (takePress d c run tag offset packs s) := by
  have numbered : Keeps u { s with bus := { s.bus with nextArrival := (s.bus.nextArrival + 1) % 4294967296 } } :=
    keeps_of_same h
  simp only [takePress]
  split
  · exact keeps_refusePress numbered
  · split
    · exact keeps_stopClock numbered
    · exact keeps_collect numbered

theorem keeps_takeEvent (h : Keeps u s) {e : DeskEvent} : Keeps u (takeEvent e s) := by
  cases e with
  | press d c run tag offset packs =>
    simp only [takeEvent]
    split
    · exact keeps_takePress h
    · exact h
  | signOn d b =>
    simp only [takeEvent]
    split
    · exact keeps_signOn h
    · exact h
  | signOff d =>
    simp only [takeEvent]
    split
    · exact keeps_unbindDesk h
    · exact h

theorem keeps_goodRow (h : Keeps u s) {r : RowId} : Keeps u (goodRow r s) := by
  simp only [goodRow]
  split
  · exact keeps_setRow h
  · exact keeps_raise (keeps_setRow h)

theorem keeps_missRow (h : Keeps u s) {r : RowId} : Keeps u (missRow r s) := by
  simp only [missRow]
  split
  · exact keeps_raise (keeps_setRow h)
  · exact keeps_setRow h

theorem keeps_takeReply (h : Keeps u s) {r : RowId} {y : RowReply} : Keeps u (takeReply r y s) := by
  simp only [takeReply]
  split
  · exact keeps_goodRow h
  · exact keeps_foldl (fun _ _ hs => keeps_takeEvent hs) _ (keeps_setRow (keeps_goodRow h))

theorem keeps_endWait (h : Keeps u s) {held : Bool} : Keeps u (endWait held s) := keeps_of_same h

theorem keeps_badReply (h : Keeps u s) {r : RowId} : Keeps u (badReply r s) :=
  keeps_endWait (keeps_missRow (keeps_setRow h))

theorem keeps_tickGone (h : Keeps u s) {x : Tick} {rest : List Tick} (hx : s.bus.ticks = x :: rest) :
    Keeps u (tickGone rest s) :=
  h.trans ⟨fun k c => (pendingOf_tail_le c (x :: rest)).trans (hx ▸ k c), id, id, fun k =>
    bindingsKept_congr k rfl (fun _ => rfl) rfl⟩

theorem moveLamps_binding (commands : Bool × Bool) (x : Desk) : (moveLamps commands x).binding = x.binding := rfl

theorem keeps_pollGone (h : Keeps u s) {p : Poll} : Keeps u (pollGone p s) :=
  keeps_setRow (keeps_of_same h) fun i => by simp [visitRow, Vector.get_eq_getElem, moveLamps_binding]

/-! ## The calendar and the hall (R182 to R191, R197) -/

theorem daysOf_pos (year month : Nat) : 1 ≤ daysOf year month := by
  unfold daysOf
  repeat' split
  all_goals decide

/-- An advance shows a date that exists where it found one (R183). -/
theorem dateExists_nextHundredth {x : Stamp} (h : DateExists x) : DateExists (nextHundredth x) := by
  obtain ⟨year, month, day, hour, minute, second, hundredth⟩ := x
  have hnext := daysOf_pos year (month + 1)
  have hyear := daysOf_pos (year + 1) 1
  simp only [DateExists, nextHundredth] at h ⊢
  split_ifs
  case neg => decide
  all_goals dsimp only; omega

/-- A time that HALL-TIME-SET accepts exists (R185). -/
theorem dateExists_of_timeFault {x : Stamp} (h : timeFault x = none) : DateExists x := by
  have checks := firstFault_eq_none_iff.1 h
  simp [inRange] at checks
  omega

/-- The hall is replaced, showing a date that exists where it did. -/
theorem keeps_setHall (h : Keeps u s) {x : Hall}
    (hx : DateExists s.hall.calendar → DateExists x.calendar := by exact id) : Keeps u { s with hall := x } :=
  h.trans ⟨id, hx, id, fun k => bindingsKept_congr k rfl (fun _ => rfl) rfl⟩

theorem keeps_setTime (h : Keeps u s) : Keeps u (setTime s) := by
  unfold setTime
  split
  · exact h
  · exact keeps_eachClock (fun _ _ hs => keeps_tellClock hs) (keeps_setHall h)

theorem keeps_clearTime (h : Keeps u s) : Keeps u (clearTime s) := by
  unfold clearTime
  split
  · exact keeps_eachClock (fun _ _ hs => keeps_holdClock hs) (keeps_setHall h)
  · exact h

theorem keeps_advanceCalendar (h : Keeps u s) : Keeps u (advanceCalendar s) := by
  unfold advanceCalendar
  extract_lets old _ advanced _ ended
  have hadvanced : Keeps u advanced := keeps_setHall h dateExists_nextHundredth
  have hended : Keeps u ended := by
    unfold ended
    split
    · exact keeps_clearTime hadvanced
    · exact hadvanced
  split
  · split
    · exact keeps_setHall hadvanced
    · exact hadvanced
  · split
    · exact keeps_eachClock (fun _ _ hs => keeps_closeClock hs) (keeps_raise hended)
    · exact hended

theorem keeps_changeKey (h : Keeps u s) {new : KeyPosition} : Keeps u (changeKey new s) := by
  have changed : Keeps u (raise (.key s.hall.key new s.hall.calendar)
      { s with hall := { s.hall with key := new, keyCounter := 0, keyRaw := new } }) := keeps_raise (keeps_setHall h)
  simp only [changeKey]
  split
  · exact keeps_eachClock (fun _ _ hs => keeps_holdClock hs) changed
  · split
    · exact keeps_eachClock (fun _ _ hs => keeps_tellClock hs) changed
    · exact changed

theorem keeps_sampleKey (h : Keeps u s) {x : KeyPosition} : Keeps u (sampleKey x s) := by
  unfold sampleKey
  extract_lets hall count
  split
  · exact keeps_setHall h
  · split
    · exact keeps_setHall h
    · exact keeps_changeKey h

theorem keeps_changeBackup (h : Keeps u s) {x : BackupSupply} : Keeps u (changeBackup x s) := by
  unfold changeBackup
  split
  · exact keeps_raise (keeps_setHall h)
  · exact keeps_setHall h

theorem keeps_restoreHost (h : Keeps u s) : Keeps u (restoreHost s) := by
  unfold restoreHost
  split
  · exact h
  · exact keeps_eachClock (fun _ _ hs => keeps_tellClock hs) (keeps_raise (keeps_of_same h))

theorem keeps_frameArrives (h : Keeps u s) : Keeps u (frameArrives s) := keeps_restoreHost (keeps_of_same h)

theorem keeps_loseHost (h : Keeps u s) : Keeps u (loseHost s) :=
  keeps_eachClock (fun _ _ hs => keeps_tellClock hs) (keeps_raise (keeps_of_same h))

/-! ## Supply failure and starts (R84, R105, R106, R144, R190 to R193) -/

theorem keeps_failMain (h : Keeps u s) : Keeps u (failMain s) :=
  keeps_of_same h (hclk := fun c => by simp [failMain, dropWaiting, State.clock, stopClockTimers])

/-- With no desk bound and every count 0 there is nothing that binds (R105, R106). -/
theorem bindingsKept_unbound (hunique : (accountNumbers t).Nodup) (hzero : ∀ a ∈ accounts t, a.2 = 0)
    (hbind : ∀ d, (t.desk d).binding = none) (hprog : t.ledger.arbiter.inProgress = none) : BindingsKept t :=
  bindingsKept_iff.2 ⟨hunique, fun a ha => by
    rw [hzero a ha, desksBoundTo_eq_sum]
    exact (Finset.sum_eq_zero fun d _ => by rw [hbind, oneIf_none]).symm,
  fun d n hd => by simp [hbind] at hd, by simp [hprog, enters]⟩

theorem busAtStart_binding (h : t.bus = .atStart) (d : DeskId) : (t.desk d).binding = none := by
  simp [State.desk, State.row, h, DeskBus.atStart, Row.atStart, Desk.atStart, Vector.get_eq_getElem]

theorem busAtStart_ticksKept (h : t.bus = .atStart) : TicksKept t := fun c => by
  simp [h, DeskBus.atStart, pendingOf]

theorem keeps_warmValues (h : Keeps u s) {kind : StartKind} {backup : BackupSupply} :
    Keeps u (warmValues kind backup s) :=
  (keeps_settleInProgress h).trans ⟨fun _ => busAtStart_ticksKept rfl, id,
    fun _ c => by simp [warmValues, State.clock, warmClock, Clock.atStart],
    fun k => by
      have hacc : accounts (warmValues kind backup s) = (accountNumbers (settleInProgress s)).map fun n => (n, 0) := by
        simp [accounts, accountNumbers, warmValues, warmLedger]
      refine bindingsKept_unbound ?_ (by simp [hacc]) (busAtStart_binding rfl) rfl
      simpa [accountNumbers, hacc, Function.comp_def] using (bindingsKept_iff.1 k).1⟩

theorem keeps_reportBackup (h : Keeps u s) {backup : BackupSupply} : Keeps u (reportBackup backup s) := by
  cases backup
  · exact h
  · exact keeps_raise h

theorem keeps_reportMainFail (h : Keeps u s) {kind : StartKind} : Keeps u (reportMainFail kind s) := by
  cases kind
  · exact h
  · exact keeps_raise h
  · exact h

theorem keeps_warmStart (h : Keeps u s) {kind : StartKind} {mainReturn : Bool} {backup : BackupSupply} :
    Keeps u (warmStart kind mainReturn backup s) := by
  unfold warmStart
  extract_lets values reported
  have hreported : Keeps u reported := by
    unfold reported
    split
    · exact keeps_reportMainFail (keeps_warmValues h)
    · exact keeps_warmValues h
  exact keeps_eachClock (fun _ _ hs => keeps_testDepartures hs) (keeps_reportBackup hreported)

theorem dateExists_origin : DateExists calendarOrigin := by decide

/-- A cold start has nothing to keep: the calendar's origin exists, and tables, queues and bindings are empty. -/
theorem keeps_coldStart {backup : BackupSupply} : Keeps u (coldStart backup s) := by
  refine keeps_reportBackup ⟨fun _ => busAtStart_ticksKept rfl, fun _ => dateExists_origin, fun _ c => ?_, fun _ =>
    bindingsKept_unbound (by simp [accountNumbers, accounts, State.reset, Ledger.atStart])
      (by simp [accounts, State.reset, Ledger.atStart]) (busAtStart_binding rfl) rfl⟩
  simp [State.clock, State.reset, Clock.atStart]

theorem keeps_startBySupply (h : Keeps u s) {mainReturn : Bool} {backup : BackupSupply} :
    Keeps u (startBySupply mainReturn backup s) := by
  unfold startBySupply
  split
  · exact keeps_warmStart h
  · exact keeps_coldStart

end Sys2Proof.Machine
end

section
/-! The invariants of O6 and O9 through the lanes, the requests, the dispatch and every command, and so through a step. -/

set_option Elab.async false

namespace Sys2Proof.Machine

open Sys2Proof.Safety

variable {s t u : State} {c : ClockId} {d : DeskId} {n : Nat}

/-! ## Lots and lanes (chapter 2) -/

theorem keeps_modLots (h : Keeps u s) {f : Lot → Lot} {l : List (Option Nat)} : Keeps u (modLots f l s) := keeps_congr h

theorem keeps_gateChanges (h : Keeps u s) : Keeps u (gateChanges c s) := keeps_congr h

theorem keeps_gapRunsOut (h : Keeps u s) : Keeps u (gapRunsOut c s) := keeps_congr h

theorem keeps_sampleGate (h : Keeps u s) {blocked : Bool} : Keeps u (sampleGate c blocked s) := by
  simp only [sampleGate]
  split
  · exact keeps_setLane h
  · split
    · exact keeps_setLane h
    · exact keeps_gateChanges h

theorem keeps_doLotEnter (h : Keeps u s) {a : LotFields} : Keeps u (doLotEnter a s).state := by
  simp only [doLotEnter]
  split
  · exact h
  · exact h
  · split
    · exact h
    · split
      · exact h
      · exact keeps_of_same h

theorem keeps_doLotAmend (h : Keeps u s) {a : LotAmendment} : Keeps u (doLotAmend a s).state := by
  simp only [doLotAmend]
  split
  · exact h
  · split
    · split
      · exact h
      · exact keeps_modLot h
    · exact h

theorem keeps_doLotRemove (h : Keeps u s) : Keeps u (doLotRemove n s).state := by
  simp only [doLotRemove]
  split
  · exact h
  · split
    · exact keeps_of_same h
    · exact h

theorem keeps_queuePlaces {train trolley : Nat} (l : List Nat) {place : Nat} (h : Keeps u s) :
    Keeps u (queuePlaces c train trolley place l s) := by
  induction l generalizing place s with
  | nil => exact h
  | cons n l ih => exact ih (keeps_modLot h)

theorem keeps_queueTrolleys {train : Nat} (l : List TrolleyEntry) {trolley : Nat} (h : Keeps u s) :
    Keeps u (queueTrolleys c train trolley l s) := by
  induction l generalizing trolley s with
  | nil => exact h
  | cons x l ih => exact ih (keeps_queuePlaces x.lots h)

theorem keeps_doTrainAnnounce (h : Keeps u s) {a : TrainAnnouncement} : Keeps u (doTrainAnnounce a s).state := by
  simp only [doTrainAnnounce]
  split
  · exact h
  · exact h
  · split
    · exact h
    · split
      · exact h
      · split
        · exact h
        · exact keeps_queueTrolleys a.trolleys (keeps_setLane h)

theorem keeps_doTrainCancel (h : Keeps u s) {lane train : Nat} : Keeps u (doTrainCancel lane train s).state := by
  simp only [doTrainCancel]
  split
  · exact h
  · exact h
  · split
    · exact h
    · split
      · exact keeps_modLots (keeps_setLane h)
      · exact h

theorem keeps_doLaneSet (h : Keeps u s) {a : LaneSettings} : Keeps u (doLaneSet a s).state := by
  simp only [doLaneSet]
  split
  · exact h
  · split
    · exact keeps_setLane h
    · exact keeps_of_same h

/-! ## Clock requests (R59, R74 to R78) -/

theorem keeps_setClockParams (h : Keeps u s) {a : ClockSettings} : Keeps u (setClockParams a c s).1 := by
  simp only [setClockParams]
  split
  · exact keeps_setClock h
  · exact h

theorem keeps_requestHold (h : Keeps u s) : Keeps u (requestHold c s).1 := by
  simp only [requestHold]
  split
  · exact h
  · exact h
  · exact keeps_holdClock h

theorem keeps_resumeClock (h : Keeps u s) : Keeps u (resumeClock c s) :=
  keeps_askUpdate (keeps_handTick (keeps_setClock (keeps_setClock h)))

theorem keeps_requestResume (h : Keeps u s) : Keeps u (requestResume c s).1 := by
  simp only [requestResume]
  split
  · exact h
  · split
    · exact h
    · split
      · exact h
      · split
        · exact h
        · exact keeps_resumeClock h

theorem keeps_withdrawLot (h : Keeps u s) : Keeps u (withdrawLot c s).1 := by
  refine keeps_endLot ?_
  split
  · exact keeps_writeNoSale h
  · exact h

theorem keeps_requestWithdraw (h : Keeps u s) : Keeps u (requestWithdraw c s).1 := by
  simp only [requestWithdraw]
  split
  · exact h
  · exact h
  · exact h
  · exact h
  · split
    · exact h
    · exact keeps_withdrawLot h
  · exact keeps_withdrawLot h
  · exact keeps_withdrawLot h
  · exact keeps_withdrawLot h

theorem keeps_onClocks {f : ClockStep} (hf : ∀ c s, Keeps u s → Keeps u (f c s).1) (h : Keeps u s) :
    Keeps u (onClocks n f s).state := by
  simp only [onClocks]
  split
  · exact hf 3 _ (hf 2 _ (hf 1 _ (hf 0 _ h)))
  · split
    · exact h
    · exact hf _ _ h

theorem keeps_doClockSet (h : Keeps u s) {a : ClockSettings} : Keeps u (doClockSet a s).state := by
  simp only [doClockSet]
  split
  · exact h
  · split
    · exact h
    · exact keeps_onClocks (fun _ _ hs => keeps_setClockParams hs) h

/-! ## The other requests (R59, R100, R155, R177, R185, R188, R199 to R202) -/

theorem keeps_doDeskRelease (h : Keeps u s) : Keeps u (doDeskRelease n s).state := by
  simp only [doDeskRelease]
  split
  · exact h
  · exact keeps_unbindDesk h

theorem keeps_doJournalRelease (h : Keeps u s) : Keeps u (doJournalRelease n s).state := by
  unfold doJournalRelease
  extract_lets j freed
  split
  · exact h
  · split
    · exact h
    · show Keeps u (eachClock tellSpace freed)
      exact keeps_eachClock (fun _ _ hs => keeps_tellSpace hs) (keeps_setJournal h)

theorem keeps_doBoardSet (h : Keeps u s) {board period : Nat} : Keeps u (doBoardSet board period s).state := by
  simp only [doBoardSet]
  split
  · exact h
  · split
    · exact keeps_setBoard h
    · exact keeps_of_same h

theorem keeps_doHallTimeSet (h : Keeps u s) {time : Stamp} : Keeps u (doHallTimeSet time s).state := by
  simp only [doHallTimeSet]
  split
  · exact h
  · split
    · exact keeps_clearTime h
    · next hgood => exact keeps_setTime (keeps_setHall h fun _ => dateExists_of_timeFault hgood)

theorem keeps_doCloseAlarmSet (h : Keeps u s) {a : Alarm} : Keeps u (doCloseAlarmSet a s).state := by
  simp only [doCloseAlarmSet]
  split
  · exact h
  · split
    · exact h
    · exact keeps_setHall h

theorem keeps_doReportTake (h : Keeps u s) : Keeps u (doReportTake n s).state := by
  simp only [doReportTake]
  split
  · exact keeps_of_same h
  · exact h

theorem clearStats_desk : (clearStats s).desk d = s.desk d := by
  simp [clearStats, State.desk, State.row, clearRow]

theorem keeps_clearStats (h : Keeps u s) : Keeps u (clearStats s) :=
  keeps_of_same h (by simp only [clearStats]) (by simp only [clearStats])
    (fun c => by simp only [clearStats, State.clock]) (fun d => by rw [clearStats_desk])
    (by simp only [clearStats, accounts]) (by simp only [clearStats])

theorem keeps_doLinkSet (h : Keeps u s) {rate : Nat} {x : Option Supervision} : Keeps u (doLinkSet rate x s).state := by
  simp only [doLinkSet]
  split
  · exact h
  · split
    · exact h
    · exact h
    · exact keeps_of_same h

/-! ## Dispatch (R134, R196, R202) -/

theorem keeps_finish {a : Answer} (h : Keeps u a.state) {tag : Byte} {r : Request} {after : AfterReply} :
    Keeps u (finish tag r after a) := keeps_placeReply h

theorem keeps_arriveLedger (h : Keeps u s) {tag : Byte} {r : LedgerRequest} : Keeps u (arriveLedger tag r s) := by
  simp only [arriveLedger]
  split
  · exact keeps_placeReply h
  · split
    · exact keeps_placeReply h
    · split
      · exact keeps_placeReply (keeps_count h)
      · exact keeps_serveWaiting (keeps_of_same h)

theorem keeps_beginReset (h : Keeps u s) {tag : Byte} : Keeps u (beginReset tag s) :=
  keeps_continueReset (keeps_of_same h)

theorem keeps_dispatchRequest (h : Keeps u s) {tag : Byte} {r : Request} : Keeps u (dispatchRequest tag r s) := by
  cases r with
  | identify | hallTimeRead | statsRead | unknown => exact keeps_finish h
  | lotEnter a => exact keeps_finish (keeps_doLotEnter h)
  | lotAmend a => exact keeps_finish (keeps_doLotAmend h)
  | lotRemove n => exact keeps_finish (keeps_doLotRemove h)
  | lotQuery q => exact keeps_finish ((doLotQuery_state q).symm ▸ h)
  | trainAnnounce a => exact keeps_finish (keeps_doTrainAnnounce h)
  | trainCancel lane train => exact keeps_finish (keeps_doTrainCancel h)
  | laneQuery q => exact keeps_finish ((doLaneQuery_state q).symm ▸ h)
  | laneSet a => exact keeps_finish (keeps_doLaneSet h)
  | clockSet a => exact keeps_finish (keeps_doClockSet h)
  | clockQuery n => exact keeps_finish ((doClockQuery_state n).symm ▸ h)
  | clockHold n => exact keeps_finish (keeps_onClocks (fun _ _ hs => keeps_requestHold hs) h)
  | clockResume n => exact keeps_finish (keeps_onClocks (fun _ _ hs => keeps_requestResume hs) h)
  | clockWithdraw n => exact keeps_finish (keeps_onClocks (fun _ _ hs => keeps_requestWithdraw hs) h)
  | clockOpen n => exact keeps_finish (keeps_onClocks (fun _ _ hs => keeps_openClock hs) h)
  | deskQuery q => exact keeps_finish ((doDeskQuery_state q).symm ▸ h)
  | deskRelease n => exact keeps_finish (keeps_doDeskRelease h)
  | ledger r => exact keeps_arriveLedger h
  | buyerQuery q => exact keeps_finish ((doBuyerQuery_state q).symm ▸ h)
  | invoiceQuery q => exact keeps_finish ((doInvoiceQuery_state q).symm ▸ h)
  | journalRead start count => exact keeps_finish ((doJournalRead_state start count).symm ▸ h)
  | journalRelease n => exact keeps_finish (keeps_doJournalRelease h)
  | boardSet board period => exact keeps_finish (keeps_doBoardSet h)
  | boardQuery n => exact keeps_finish ((doBoardQuery_state n).symm ▸ h)
  | hallTimeSet time => exact keeps_finish (keeps_doHallTimeSet h)
  | closeAlarmSet a => exact keeps_finish (keeps_doCloseAlarmSet h)
  | reportTake n => exact keeps_finish (keeps_doReportTake h)
  | reportEnable e => exact keeps_finish (keeps_of_same h)
  | statsClear => exact keeps_finish (keeps_clearStats h)
  | linkSet rate x => exact keeps_finish (keeps_doLinkSet h)
  | controllerReset => exact keeps_beginReset h

theorem keeps_frameFails (h : Keeps u s) : Keeps u (frameFails s) := keeps_of_same h

theorem keeps_countOverrun (h : Keeps u s) : Keeps u (countOverrun s) := keeps_of_same h

theorem keeps_routeRequest (h : Keeps u s) {tag : Byte} {r : Request} : Keeps u (routeRequest tag r s) := by
  simp only [routeRequest]
  split
  · exact keeps_countOverrun h
  · split
    · exact keeps_dispatchRequest h
    · exact keeps_of_same h

theorem keeps_hostRequest (h : Keeps u s) {tag : Byte} {r : Request} : Keeps u (hostRequest tag r s) :=
  keeps_whenPowered h (keeps_routeRequest (keeps_frameArrives h))

/-! ## The line's bytes and the replies (R195, R196) -/

theorem keeps_dispatchHeld (h : Keeps u s) : Keeps u (dispatchHeld s) := by
  simp only [dispatchHeld]
  split
  · split
    · exact keeps_dispatchRequest (keeps_of_same h)
    · exact h
  · exact h

theorem keeps_afterReply (h : Keeps u s) {x : AfterReply} {backup : BackupSupply} : Keeps u (afterReply x backup s) := by
  cases x with
  | nothing => exact h
  | newRate rate => exact keeps_of_same h
  | warmStart => exact keeps_warmStart h

theorem keeps_replyGone (h : Keeps u s) {backup : BackupSupply} : Keeps u (replyGone backup s) := by
  simp only [replyGone]
  split
  · exact h
  · exact keeps_dispatchHeld (keeps_afterReply (keeps_of_same h))

theorem keeps_receiveBytes (h : Keeps u s) {bytes : List LineByte} :
    Keeps u (bytes.foldl (fun s b => receiveByte b s) s) :=
  receiveBytes_keep (fun _ _ _ hs => keeps_of_same hs) (fun _ hs => keeps_frameFails hs)
    (fun _ _ _ hs => keeps_routeRequest (keeps_frameArrives hs)) bytes s h

/-! ## Every command -/

/-- A command's effect while the main supply is PRESENT. -/
theorem after_whenPowered_keeps (h : Keeps u s) (ht : Keeps u t) : After (.next (whenPowered s t)) (Keeps u) :=
  after_next (keeps_whenPowered h ht)

theorem keeps_discardAnswer (h : Keeps u s) : Keeps u (discardAnswer c s) := keeps_congr h

theorem keeps_refreshWindow (h : Keeps u s) : Keeps u (refreshBoard c (nextWindow c s)) := by
  have next : Keeps u (nextWindow c s) := keeps_setBoard (keeps_reach h)
  exact keeps_congr next

theorem keeps_exec (h : Keeps u s) (i : Instr) : After (exec i s) (Keeps u) := by
  cases i with
  | identify | lotEnter | lotAmend | lotRemove | lotQuery | trainAnnounce | trainCancel | laneQuery | laneSet
  | clockSet | clockQuery | clockHold | clockResume | clockWithdraw | clockOpen | deskQuery | deskRelease
  | buyerEnter | buyerFlags | buyerLimit | buyerRemove | buyerQuery | tariffSet | saleVoid | paymentPost
  | invoiceClose | dayClose | invoiceQuery | journalRead | journalRelease | boardSet | boardQuery | hallTimeSet
  | hallTimeRead | closeAlarmSet | reportTake | reportEnable | statsRead | statsClear | linkSet | controllerReset
  | unknownRequest => exact after_next (keeps_hostRequest h)
  | frameOverrun =>
    refine after_whenPowered_keeps h ?_
    split
    · exact keeps_countOverrun (keeps_frameArrives h)
    · exact h
  | frameBad why =>
    refine after_whenPowered_keeps h ?_
    split
    · exact keeps_frameFails h
    · exact h
  | receiverIdleTimeout =>
    refine after_whenPowered_keeps h ?_
    split
    · exact h
    · exact keeps_frameFails (keeps_reach h)
  | replySent backup => exact after_whenPowered_keeps h (keeps_replyGone h)
  | supervisionExpiry =>
    refine after_whenPowered_keeps h ?_
    split
    · exact h
    · exact keeps_loseHost (keeps_reach h)
  | ledgerOperationComplete =>
    refine after_next ?_
    split
    · exact h
    · next hprog => exact keeps_completeHost h hprog
    · exact h
    · exact h
  | saleCommitComplete =>
    refine after_next ?_
    split
    · exact keeps_completeCommit h
    · exact h
    · exact h
  | saleVoidComplete =>
    refine after_next ?_
    split
    · next hprog => exact keeps_completeHost h hprog
    · exact h
    · exact h
    · exact h
  | takeLot c =>
    refine after_whenPowered_keeps h ?_
    split
    · exact keeps_takeLot h
    · exact h
  | previewExpiry c =>
    refine after_whenPowered_keeps h ?_
    split
    · exact keeps_testNew (keeps_setClock (keeps_reach h))
    · exact h
  | stepTimerExpiry c =>
    refine after_whenPowered_keeps h ?_
    split
    · exact keeps_stepClock (keeps_reach h)
    · exact h
  | windowExpiry c =>
    refine after_whenPowered_keeps h ?_
    split
    · exact keeps_enterDeciding (keeps_reach h)
    · exact h
  | pauseExpiry c =>
    refine after_whenPowered_keeps h ?_
    split
    · exact keeps_restartClock (keeps_reach h)
    · exact h
  | gateQualifiedChange lane => exact after_whenPowered_keeps h (keeps_gateChanges h)
  | gapExpiry lane =>
    refine after_whenPowered_keeps h ?_
    split
    · exact h
    · exact keeps_gapRunsOut (keeps_reach h)
  | tickSent =>
    refine after_whenPowered_keeps h ?_
    split
    · next hticks => exact keeps_tickGone h hticks
    · exact h
    · exact h
    · exact h
  | pollSent =>
    refine after_whenPowered_keeps h ?_
    split
    · exact keeps_pollGone h
    · split
      · exact keeps_pollGone h
      · exact h
    · exact h
    · exact h
  | rowReplyGood reply =>
    refine after_whenPowered_keeps h ?_
    split
    · split
      · exact keeps_endWait (keeps_takeReply h)
      · exact keeps_badReply h
    · exact h
    · exact h
  | rowReplyBad =>
    refine after_whenPowered_keeps h ?_
    split
    · exact keeps_badReply h
    · exact h
    · exact h
  | rowReplyTimeout part =>
    refine after_whenPowered_keeps h ?_
    split
    · exact keeps_endWait (keeps_missRow (keeps_reach h))
    · exact h
    · exact h
  | refreshWindow b => exact after_whenPowered_keeps h (keeps_refreshWindow h)
  | boardTransmitEnd b =>
    refine after_whenPowered_keeps h ?_
    split
    · exact keeps_setBoard h
    · exact h
    · exact h
  | boardAnswerGood b number =>
    refine after_whenPowered_keeps h ?_
    split
    · split
      · exact keeps_goodAnswer h
      · exact keeps_discardAnswer h
    · exact keeps_discardAnswer h
    · exact keeps_discardAnswer h
  | boardAnswerBad b => exact after_whenPowered_keeps h (keeps_discardAnswer h)
  | boardAnswerTimeout b =>
    refine after_whenPowered_keeps h ?_
    split
    · exact keeps_missBoard (keeps_reach h)
    · exact h
    · exact h
  | calendarAdvance => exact after_next (keeps_advanceCalendar (keeps_of_same h))
  | keyQualifiedChange position =>
    refine after_whenPowered_keeps h ?_
    split
    · exact h
    · exact keeps_changeKey h
  | mainSupplyFail => exact after_whenPowered_keeps h (keeps_failMain h)
  | mainSupplyAboveThreshold =>
    refine after_next ?_
    split
    · exact keeps_setHall h
    · exact h
    · exact h
  | mainSupplyReturn backup =>
    refine after_next ?_
    split
    · exact keeps_startBySupply (keeps_reach h)
    · exact h
    · exact h
  | powerOn backup => exact after_next (keeps_startBySupply h)
  | backupChange reading =>
    refine after_next ?_
    split
    · exact h
    · exact keeps_changeBackup h
  | gateSample lane blocked => exact after_whenPowered_keeps h (keeps_sampleGate h)
  | keySample saleClosed setupClosed => exact after_whenPowered_keeps h (keeps_sampleKey h)
  | mainSupplyBelowThreshold =>
    refine after_next ?_
    split
    · exact keeps_setHall h
    · exact keeps_failMain h
  | startByteReceived bytes => exact after_whenPowered_keeps h (keeps_receiveBytes h)
  | deskBusLineIdle =>
    refine after_whenPowered_keeps h ?_
    split
    · exact keeps_endWait h
    · exact h

theorem keeps_idle (h : Keeps u s) : Keeps u (idle s) := by
  simp only [idle]
  split
  · simp only [goOn]
    split
    · exact keeps_of_same h
    · exact keeps_of_same h
  · exact keeps_of_same h

/-- A step is the part's own going on, or a command carried out. -/
theorem keeps_step (h : step s = .next t) : Keeps s t := by
  unfold step at h
  split at h
  · cases h
    exact keeps_idle (.refl s)
  · exact keeps_exec (keeps_of_same (.refl s)) _ t h

/-- Settles O9: every operation of a step that reaches the bindings or the accounts changes both together. -/
theorem bindingsKeptByStep : Obligations.BindingsKeptByStep := by
  unfold Obligations.BindingsKeptByStep
  exact fun _ _ h hstep => (keeps_step hstep).bindings h

/-- Settles O6: a fifth tick of a clock drops its oldest, the calendar carries from a date to a date, and a collection
takes a press where it has room and no entry of the desk. -/
theorem ticksAndCalendarKeptByStep : Obligations.TicksAndCalendarKeptByStep := by
  unfold Obligations.TicksAndCalendarKeptByStep
  exact ⟨fun _ _ h hstep => (keeps_step hstep).ticks h, fun _ _ h hstep => (keeps_step hstep).calendar h,
    fun _ _ h hstep => (keeps_step hstep).collections h⟩

end Sys2Proof.Machine
end

section
/-! The desk bus when it transmits and is given up (5.4), and the release of a desk (R100). -/

set_option Elab.async false

namespace Sys2Proof.Machine

open Sys2Proof.Safety

variable {s : State} {d : DeskId} {n b : Nat} {p : Poll}

/-! ## Unbinding a desk (R99, R100) -/

theorem unbindDesk_of_none (h : (s.desk d).binding = none) : unbindDesk d s = s := by simp [unbindDesk, h]

theorem unbindDesk_of_some (h : (s.desk d).binding = some b) : unbindDesk d s =
    (s.setDesk d { s.desk d with binding := none }).modBuyer b fun a => { a with boundDesks := a.boundDesks - 1 } := by
  simp [unbindDesk, h]

theorem doDeskRelease_badField (h : n = 0 ∨ 480 < n) : doDeskRelease n s = ⟨s, .badField, .field 1⟩ := by
  simp [doDeskRelease, deskNumbered_eq_none h, badField]

theorem doDeskRelease_ok (h : deskNumbered n = some d) :
    doDeskRelease n s = ⟨unbindDesk d s, .ok, .released (s.desk d).binding⟩ := by
  simp [doDeskRelease, h, accept]

/-- Settles O32: a numbered desk is unbound as it stands in the framed state, whose bindings are those of the state. -/
theorem deskReleased : Obligations.DeskReleased := by
  unfold Obligations.DeskReleased
  refine fun tag n s hs => ⟨fun d b hd hb => ?_, fun d hd hb => ?_, fun hn => ?_⟩
  · have answer := exec_of_answer hs tag (.deskRelease n) (doDeskRelease_ok (s := framed s) hd) rfl
    rwa [unbindDesk_of_some (s := framed s) hb, framed_desk, hb] at answer
  · have answer := exec_of_answer hs tag (.deskRelease n) (doDeskRelease_ok (s := framed s) hd) rfl
    rwa [unbindDesk_of_none (s := framed s) hb, framed_desk, hb] at answer
  · exact exec_of_answer hs tag (.deskRelease n) (doDeskRelease_badField (s := framed s) hn) rfl

/-! ## Ticks, polls and the line (R87, R89, R92) -/

theorem pollDue_iff : pollDue s = true ↔
    s.bus.activity = .idle ∧ s.bus.lineHeld = false ∧ s.bus.ticks = [] ∧ s.bus.poll = none := by
  simp [pollDue, and_assoc]

section
variable (h : s.hall.main = .present)
include h

theorem exec_tickSent_sending {x : Tick} {rest : List Tick} (ha : s.bus.activity = .sending)
    (ht : s.bus.ticks = x :: rest) : exec .tickSent s = .next (tickGone rest s) := by
  show Host.Outcome.next (whenPowered s _) = _
  rw [whenPowered_present h, ha, ht]

theorem exec_tickSent_idle (ha : s.bus.activity ≠ .sending) : exec .tickSent s = .next s := by
  show Host.Outcome.next (whenPowered s _) = _
  rw [whenPowered_present h]
  split
  · next e _ => exact absurd e ha
  · rfl
  · rfl
  · rfl

theorem exec_pollSent_built (ha : s.bus.activity = .idle) (hp : s.bus.poll = some p) :
    exec .pollSent s = .next (pollGone p s) := by
  show Host.Outcome.next (whenPowered s _) = _
  rw [whenPowered_present h, ha, hp]

theorem exec_pollSent_unbuilt (ha : s.bus.activity = .idle) (hp : s.bus.poll = none) :
    exec .pollSent s = .next (if pollDue s then pollGone (pollOf s) s else s) := by
  show Host.Outcome.next (whenPowered s _) = _
  rw [whenPowered_present h, ha, hp]

theorem exec_pollSent_busy (ha : s.bus.activity ≠ .idle) : exec .pollSent s = .next s := by
  show Host.Outcome.next (whenPowered s _) = _
  rw [whenPowered_present h]
  split
  · next e _ => exact absurd e ha
  · next e _ => exact absurd e ha
  · rfl
  · rfl

theorem exec_deskBusLineIdle : exec .deskBusLineIdle s = .next (if s.bus.lineHeld then endWait false s else s) :=
  congrArg Host.Outcome.next (whenPowered_present h _)

/-- With no command waiting and nothing due, a poll that may be sent begins (R92). -/
theorem step_beginPoll (hq : s.pending = []) (hdue : dueCommands s = []) (hpoll : pollDue s = true) :
    step s = .next (beginPoll s) := by
  simp [step, hq, idle, hdue, goOn, h, hpoll]

end

/-- Settles O33: each command and the step by the guard of what it may do; the poll built is the one a step would build. -/
theorem busTransmissions : Obligations.BusTransmissions := by
  unfold Obligations.BusTransmissions
  rintro s _ h rfl
  refine ⟨fun x rest ha hl ht => ?_, exec_tickSent_idle h, fun ha hl ht hp hq hdue => ?_, fun p ha hp => ?_, fun hno => ?_,
    fun hl => ?_, fun hl => ?_⟩
  · rw [exec_tickSent_sending h ha ht]
    simp [tickGone, busFree, freeBus, hl, top16]
  · exact step_beginPoll h hq hdue (pollDue_iff.2 ⟨ha, hl, ht, hp⟩)
  · rcases hp with hp | ⟨hp, hl, ht, rfl⟩
    · exact exec_pollSent_built h ha hp
    · rw [exec_pollSent_unbuilt h ha hp, if_pos (pollDue_iff.2 ⟨ha, hl, ht, hp⟩)]
      rfl
  · by_cases ha : s.bus.activity = .idle
    · obtain ⟨hp, hbusy⟩ := hno.resolve_left fun e => e ha
      rw [exec_pollSent_unbuilt h ha hp, if_neg]
      rw [pollDue_iff]
      rintro ⟨-, hl, ht, -⟩
      simp [hl, ht] at hbusy
    · exact exec_pollSent_busy h ha
  · rw [exec_deskBusLineIdle h, if_pos hl]
    simp [endWait, busFree, freeBus]
  · rw [exec_deskBusLineIdle h, hl]
    rfl

end Sys2Proof.Machine
end

section
/-! What a row's reply does to its row (R88 to R90, R93), and what each of its events leaves unchanged. -/

set_option Elab.async false

namespace Sys2Proof.Machine

open Sys2Proof.Safety

variable {s t u v : State} {c : ClockId} {d : DeskId} {n b : Nat} {p : Poll} {r : RowId} {y : RowReply}

/-! ## A row answers, or misses (R88 to R90) -/

/-- A row that has answered well (R88, R90). -/
abbrev goodForm (x : Row) : Row := { x with framesGood := countUp 65535 x.framesGood, misses := 0, online := true }

/-- A row that has missed once more (R89, R90). -/
abbrev missedForm (x : Row) : Row := { x with
  missCount := countUp 65535 x.missCount, misses := countUp 8 x.misses
  online := x.online && decide (countUp 8 x.misses ≠ 8) }

theorem goodRow_bus : (goodRow r s).bus = (s.setRow r (goodForm (s.row r))).bus := by
  simp only [goodRow]
  split
  · rfl
  · exact raise_bus ..

theorem goodRow_row_self : (goodRow r s).row r = goodForm (s.row r) := by
  rw [State.row, goodRow_bus]
  exact State.setRow_row_self ..

theorem goodRow_row_ne {q : RowId} (h : q ≠ r) : (goodRow r s).row q = s.row q := by
  rw [State.row, goodRow_bus]
  exact State.setRow_row_ne _ _ _ _ h

theorem missRow_bus : (missRow r s).bus = (s.setRow r (missedForm (s.row r))).bus := by
  unfold missRow
  extract_lets x n y
  have hmissed : missedForm x = { y with online := x.online && decide (n ≠ 8) } := rfl
  split
  · next h =>
    replace h : (x.online && decide (n = 8)) = true := h
    obtain ⟨hon, hlimit⟩ : x.online = true ∧ n = 8 := by simpa using h
    rw [raise_bus, hmissed, hlimit, hon]
    rfl
  · next h =>
    replace h : ¬ (x.online && decide (n = 8)) = true := h
    have hon : (x.online && decide (n ≠ 8)) = x.online := by simpa using h
    rw [hmissed, hon]

theorem missRow_row_self : (missRow r s).row r = missedForm (s.row r) := by
  rw [State.row, missRow_bus]
  exact State.setRow_row_self ..

theorem missRow_row_ne {q : RowId} (h : q ≠ r) : (missRow r s).row q = s.row q := by
  rw [State.row, missRow_bus]
  exact State.setRow_row_ne _ _ _ _ h

theorem endWait_activity (held : Bool) (s : State) :
    (endWait held s).bus.activity = if held || s.bus.ticks.isEmpty then .idle else .sending := rfl

/-! ## The reply's command (R88, R89) -/

section
variable (h : s.hall.main = .present) {e : Nat} (ha : s.bus.activity = .awaiting p e)
include h ha

theorem exec_rowReplyGood (hy : goodReply p y = true) :
    exec (.rowReplyGood y) s = .next (endWait false (takeReply p.row y s)) := by
  show Host.Outcome.next (whenPowered s _) = _
  rw [whenPowered_present h, ha]
  exact congrArg Host.Outcome.next (if_pos hy)

theorem exec_rowReplyGood_bad (hy : goodReply p y = false) :
    exec (.rowReplyGood y) s = .next (badReply p.row s) := by
  show Host.Outcome.next (whenPowered s _) = _
  rw [whenPowered_present h, ha]
  exact congrArg Host.Outcome.next (if_neg (by simp [hy]))

theorem exec_rowReplyBad : exec .rowReplyBad s = .next (badReply p.row s) := by
  show Host.Outcome.next (whenPowered s _) = _
  rw [whenPowered_present h, ha]

theorem exec_rowReplyTimeout (part : Bool) :
    exec (.rowReplyTimeout part) s = .next (endWait part (missRow p.row (s.reach e))) := by
  show Host.Outcome.next (whenPowered s _) = _
  rw [whenPowered_present h, ha]

end

/-! ## A new batch (R88) -/

theorem raise_setRow (x : ReportBody) (z : Row) : (raise x s).setRow r z = raise x (s.setRow r z) := by
  by_cases hon : classOn s.hlp.enables x.cls = true
  · by_cases hroom : s.hlp.reports.length < Config.reportPlaces
    · rw [raise, raise, if_pos hon, if_pos hroom, if_pos (by exact hon), if_pos (by exact hroom)]
      rfl
    · rw [raise, raise, if_pos hon, if_neg hroom, if_pos (by exact hon), if_neg (by exact hroom)]
      rfl
  · rw [raise, raise, if_neg hon, if_neg (by exact hon)]

/-- The state in which the events of a new batch meet the part: the row has answered well, and its batch is taken. -/
def answered (r : RowId) (b : Nat) (s : State) : State :=
  (if (s.row r).online then id else raise (.row r true (s.row r).missCount))
    (s.setRow r { goodForm (s.row r) with lastBatch := b })

theorem setRow_goodRow :
    (goodRow r s).setRow r { (goodRow r s).row r with lastBatch := b } = answered r b s := by
  rw [goodRow_row_self]
  simp only [goodRow, answered]
  split
  · exact State.setRow_setRow ..
  · rw [raise_setRow, State.setRow_setRow]

theorem takeReply_old (hb : y.batch = 0 ∨ y.batch = (s.row r).lastBatch) : takeReply r y s = goodRow r s := by
  simp only [takeReply, goodRow_row_self]
  exact if_pos hb

theorem takeReply_new (h0 : y.batch ≠ 0) (hb : y.batch ≠ (s.row r).lastBatch) :
    takeReply r y s = y.events.foldl (fun s e => takeEvent e s) (answered r y.batch s) := by
  have hnew : ¬ (y.batch = 0 ∨ y.batch = ((goodRow r s).row r).lastBatch) := by simp [goodRow_row_self, h0, hb]
  simp only [takeReply, if_neg hnew, setRow_goodRow]

/-- A batch with an event is not numbered 0 (R88). -/
theorem batch_ne_zero (hy : goodReply p y = true) (he : y.events ≠ []) : y.batch ≠ 0 := by
  have hzero : decide (y.batch = 0) = y.events.isEmpty := by
    simp only [goodReply, Bool.and_eq_true, beq_iff_eq] at hy
    exact hy.2
  intro h
  rw [h] at hzero
  exact he (List.isEmpty_iff.1 hzero.symm)

section
variable (r : RowId) (b : Nat) (s : State)

theorem answered_bus : (answered r b s).bus = (s.setRow r { goodForm (s.row r) with lastBatch := b }).bus := by
  unfold answered
  split
  · rfl
  · exact raise_bus ..

@[simp] theorem answered_row_self : (answered r b s).row r = { goodForm (s.row r) with lastBatch := b } := by
  rw [State.row, answered_bus]
  exact State.setRow_row_self ..

theorem answered_row (q : RowId) :
    (answered r b s).row q = if q = r then { goodForm (s.row r) with lastBatch := b } else s.row q := by
  split
  · next h => rw [h, answered_row_self]
  · next h =>
    rw [State.row, answered_bus]
    exact State.setRow_row_ne _ _ _ _ h

@[simp] theorem answered_desk : (answered r b s).desk d = s.desk d := by
  rw [State.desk, answered_row]
  split
  · next h => rw [State.desk, h]
  · rfl

@[simp] theorem answered_ticks : (answered r b s).bus.ticks = s.bus.ticks := by rw [answered_bus]; rfl

@[simp] theorem answered_nextArrival : (answered r b s).bus.nextArrival = s.bus.nextArrival := by rw [answered_bus]; rfl

@[simp] theorem answered_timebase : (answered r b s).timebase = s.timebase := by unfold answered; split <;> simp

@[simp] theorem answered_clocks : (answered r b s).clocks = s.clocks := by unfold answered; split <;> simp

@[simp] theorem answered_lots : (answered r b s).lots = s.lots := by unfold answered; split <;> simp

@[simp] theorem answered_lanes : (answered r b s).lanes = s.lanes := by unfold answered; split <;> simp

@[simp] theorem answered_ledger : (answered r b s).ledger = s.ledger := by unfold answered; split <;> simp

@[simp] theorem answered_hall : (answered r b s).hall = s.hall := by unfold answered; split <;> simp

@[simp] theorem answered_resetting : (answered r b s).hlp.resetting = s.hlp.resetting := by
  unfold answered
  split
  · rfl
  · unfold raise
    split
    · split <;> rfl
    · rfl

@[simp] theorem answered_clock : (answered r b s).clock c = s.clock c := by simp [State.clock]

@[simp] theorem answered_buyer : (answered r b s).buyer n = s.buyer n := by simp [State.buyer]

end

/-- The events of a new batch are taken in reply order, and the wait ends (R88, R92). -/
theorem exec_newBatch (h : s.hall.main = .present) {e : Nat} (ha : s.bus.activity = .awaiting p e)
    (hy : goodReply p y = true) (h0 : y.batch ≠ 0) (hb : y.batch ≠ (s.row p.row).lastBatch) :
    exec (.rowReplyGood y) s =
      .next (endWait false (y.events.foldl (fun s e => takeEvent e s) (answered p.row y.batch s))) := by
  rw [exec_rowReplyGood h ha hy, takeReply_new h0 hb]

/-! ## What an event leaves unchanged (R94 to R99) -/

/-- What a row keeps of its replies while their events are taken. -/
def heard (x : Row) : Nat × Nat × Bool × Nat := (x.framesGood, x.misses, x.online, x.lastBatch)

/-- The arrival number after one that is taken (R93). -/
def arrivalAfter (n : Nat) : Nat := (n + 1) % 4294967296

theorem arrivalAfter_iterate (hn : n < 4294967296) (k : Nat) : arrivalAfter^[k] n = (n + k) % 4294967296 := by
  induction k with
  | zero => exact (Nat.mod_eq_of_lt hn).symm
  | succ k ih =>
    rw [Function.iterate_succ_apply', ih, arrivalAfter]
    omega

/-- Between `s` and `t` nothing has happened but what the events of a reply do, `k` presses among them: rows keep what
they were heard to say, and ticks, lots, lanes, journal, invoices and hall are the same. -/
structure EventKeeps (k : Nat) (s t : State) : Prop where
  rows : ∀ r, heard (t.row r) = heard (s.row r)
  ticks : t.bus.ticks = s.bus.ticks
  nextArrival : t.bus.nextArrival = arrivalAfter^[k] s.bus.nextArrival
  lots : t.lots = s.lots
  lanes : t.lanes = s.lanes
  journal : t.ledger.journal = s.ledger.journal
  invoices : t.ledger.invoices = s.ledger.invoices
  hall : t.hall = s.hall

/-- A press is taken with the next arrival number (R93). -/
def arrived (s : State) : State := { s with bus := { s.bus with nextArrival := arrivalAfter s.bus.nextArrival } }

@[simp] theorem arrived_clocks (s : State) : (arrived s).clocks = s.clocks := rfl

@[simp] theorem arrived_clock (s : State) : (arrived s).clock c = s.clock c := rfl

@[simp] theorem arrived_desk (s : State) : (arrived s).desk d = s.desk d := rfl

@[simp] theorem arrived_timebase (s : State) : (arrived s).timebase = s.timebase := rfl

@[simp] theorem arrived_ledger (s : State) : (arrived s).ledger = s.ledger := rfl

@[simp] theorem arrived_hlp (s : State) : (arrived s).hlp = s.hlp := rfl

@[simp] theorem arrived_hall (s : State) : (arrived s).hall = s.hall := rfl

@[simp] theorem arrived_lots (s : State) : (arrived s).lots = s.lots := rfl

@[simp] theorem arrived_lanes (s : State) : (arrived s).lanes = s.lanes := rfl

theorem EventKeeps.refl (s : State) : EventKeeps 0 s s := ⟨fun _ => rfl, rfl, rfl, rfl, rfl, rfl, rfl, rfl⟩

section
variable {k : Nat} (h : EventKeeps k u s)
include h

theorem eventKeeps_arrived : EventKeeps (k + 1) u (arrived s) :=
  ⟨h.rows, h.ticks, by rw [Function.iterate_succ_apply', ← h.nextArrival]; rfl, h.lots, h.lanes, h.journal, h.invoices,
    h.hall⟩

theorem eventKeeps_setRow {x : Row} (hx : heard x = heard (s.row r) := by rfl) : EventKeeps k u (s.setRow r x) :=
  ⟨fun q => by
    by_cases hq : q = r
    · rw [hq, State.setRow_row_self, hx, h.rows]
    · rw [State.setRow_row_ne _ _ _ _ hq, h.rows],
  h.ticks, h.nextArrival, h.lots, h.lanes, h.journal, h.invoices, h.hall⟩

theorem eventKeeps_setDesk {x : Desk} : EventKeeps k u (s.setDesk d x) := eventKeeps_setRow h

theorem eventKeeps_elsewhere (hbus : t.bus = s.bus := by rfl) (hlots : t.lots = s.lots := by rfl)
    (hlanes : t.lanes = s.lanes := by rfl) (hjournal : t.ledger.journal = s.ledger.journal := by rfl)
    (hinvoices : t.ledger.invoices = s.ledger.invoices := by rfl) (hhall : t.hall = s.hall := by rfl) :
    EventKeeps k u t :=
  ⟨fun r => by rw [State.row, hbus]; exact h.rows r, hbus ▸ h.ticks, hbus ▸ h.nextArrival, hlots.trans h.lots,
    hlanes.trans h.lanes, hjournal.trans h.journal, hinvoices.trans h.invoices, hhall.trans h.hall⟩

theorem eventKeeps_askUpdate : EventKeeps k u (askUpdate c s) :=
  eventKeeps_elsewhere h (askUpdate_bus ..) (askUpdate_lots ..) (askUpdate_lanes ..) (by rw [askUpdate_ledger])
    (by rw [askUpdate_ledger]) (askUpdate_hall ..)

theorem eventKeeps_refusePress {x : DeskRefusal} : EventKeeps k u (refusePress d x c s) := by
  refine eventKeeps_setDesk ?_
  cases x <;> exact eventKeeps_setRow h

theorem eventKeeps_unbindDesk : EventKeeps k u (unbindDesk d s) := by
  unfold unbindDesk
  split
  · exact h
  · exact eventKeeps_elsewhere (eventKeeps_setDesk (x := { s.desk d with binding := none }) h)

theorem eventKeeps_bindDesk : EventKeeps k u (bindDesk d n s) := by
  simp only [bindDesk]
  split
  · exact h
  · exact eventKeeps_elsewhere (eventKeeps_setDesk
      (x := { (unbindDesk d s).desk d with binding := some n }) (eventKeeps_unbindDesk h))

theorem eventKeeps_signOn : EventKeeps k u (signOn d n s) := by
  have refused : EventKeeps k u (refuseSignOn d s) := eventKeeps_setDesk (eventKeeps_setDesk (eventKeeps_unbindDesk h))
  unfold signOn
  split
  · split
    · exact refused
    · exact eventKeeps_bindDesk h
  · exact refused

theorem eventKeeps_placeCommit : EventKeeps k u (placeCommit c s) := by
  simp only [placeCommit]
  split
  · exact eventKeeps_elsewhere h
  · exact h

theorem eventKeeps_serveWaiting : EventKeeps k u (serveWaiting s) := by
  simp only [serveWaiting]
  split
  · unfold serveChoice
    extract_lets a
    split
    · split
      · exact eventKeeps_elsewhere h
      · exact h
    · split
      · exact eventKeeps_elsewhere h
      · exact h
    · exact h
  · exact h

theorem eventKeeps_stopClock {x : Press} : EventKeeps k u (stopClock c x s) := by
  simp only [stopClock]
  split
  · exact eventKeeps_serveWaiting (eventKeeps_placeCommit (eventKeeps_askUpdate (eventKeeps_elsewhere h)))
  · exact eventKeeps_askUpdate (eventKeeps_elsewhere h)

theorem eventKeeps_collect {x : Press} : EventKeeps k u (collect c x s) := by
  simp only [collect]
  split
  · exact eventKeeps_refusePress h
  · split
    · exact eventKeeps_elsewhere h
    · split
      · exact h
      · split
        · exact eventKeeps_refusePress (eventKeeps_elsewhere h)
        · exact eventKeeps_refusePress h

theorem eventKeeps_takePress {run tag offset packs : Nat} :
    EventKeeps (k + 1) u (takePress d c run tag offset packs s) := by
  have taken := eventKeeps_arrived h
  simp only [takePress]
  split
  · exact eventKeeps_refusePress taken
  · split
    · exact eventKeeps_stopClock taken
    · exact eventKeeps_collect taken

end

/-! ## The events of a batch, by kind (R88, R94 to R99) -/

theorem takeEvent_press {run tag offset packs : Nat} : takeEvent (.press (numberOf d) (numberOf c) run tag offset packs) s =
    takePress d c run tag offset packs s := by simp [takeEvent]

theorem takeEvent_signOn : takeEvent (.signOn (numberOf d) n) s = signOn d n s := by simp [takeEvent]

theorem takeEvent_signOff : takeEvent (.signOff (numberOf d)) s = unbindDesk d s := by simp [takeEvent]

/-- A desk named by a good event of a row. -/
theorem exists_desk {m : Nat} (h : (deskNumbered m).map rowOfDesk = some r) : ∃ d, deskNumbered m = some d := by
  obtain ⟨d, hd, -⟩ := Option.map_eq_some_iff.1 h
  exact ⟨d, hd⟩

/-- An event that is a press. -/
def isPress : DeskEvent → Bool
  | .press _ _ _ _ _ _ => true
  | .signOn _ _ => false
  | .signOff _ => false

theorem eventKeeps_takeEvent {k : Nat} (h : EventKeeps k u s) {e : DeskEvent} (he : goodEvent r e = true) :
    EventKeeps (k + if isPress e then 1 else 0) u (takeEvent e s) := by
  cases e with
  | press m l run tag offset packs =>
    simp only [goodEvent, Bool.and_eq_true, decide_eq_true_eq] at he
    obtain ⟨⟨⟨⟨hm, hlo⟩, hhi⟩, -⟩, -⟩ := he
    obtain ⟨d, hd⟩ := exists_desk hm
    obtain ⟨c, hc⟩ : ∃ c, clockNumbered l = some c := ⟨_, dif_pos ⟨hlo, hhi⟩⟩
    simp only [takeEvent, hd, hc]
    exact eventKeeps_takePress h
  | signOn m b =>
    simp only [goodEvent, Bool.and_eq_true, decide_eq_true_eq] at he
    obtain ⟨⟨hm, -⟩, -⟩ := he
    obtain ⟨d, hd⟩ := exists_desk hm
    simp only [takeEvent, hd]
    exact eventKeeps_signOn h
  | signOff m =>
    obtain ⟨d, hd⟩ := exists_desk (of_decide_eq_true he)
    simp only [takeEvent, hd]
    exact eventKeeps_unbindDesk h

theorem eventKeeps_takeEvents {l : List DeskEvent} (hl : ∀ e ∈ l, goodEvent r e = true) {k : Nat}
    (h : EventKeeps k u s) :
    EventKeeps (k + (l.filter isPress).length) u (l.foldl (fun s e => takeEvent e s) s) := by
  induction l generalizing k s with
  | nil => exact h
  | cons e l ih =>
    have rest := ih (List.forall_mem_cons.1 hl).2 (eventKeeps_takeEvent h (List.forall_mem_cons.1 hl).1)
    have count : k + ((e :: l).filter isPress).length =
        k + (if isPress e then 1 else 0) + (l.filter isPress).length := by
      cases he : isPress e <;> simp [he]
      omega
    rw [count]
    exact rest

theorem goodReply_events (hy : goodReply p y = true) : ∀ e ∈ y.events, goodEvent p.row e = true := by
  simp only [goodReply, Bool.and_eq_true] at hy
  obtain ⟨⟨⟨-, hall⟩, -⟩, -⟩ := hy
  exact List.all_eq_true.1 hall

end Sys2Proof.Machine
end

section
/-! The events of a batch one by one: sign-ons and sign-offs (R97 to R99), and presses (R94 to R96, R109 to R112). -/

set_option Elab.async false

namespace Sys2Proof.Machine

open Sys2Proof.Safety

variable {s : State} {c : ClockId} {d : DeskId} {n b m : Nat} {a : Buyer} {p : Press}

/-! ## Bindings (R86, R97 to R99) -/

theorem unbindDesk_desk_self : (unbindDesk d s).desk d = { s.desk d with binding := none } := by
  cases h : (s.desk d).binding with
  | none => rw [unbindDesk_of_none h, ← h]
  | some b => rw [unbindDesk_of_some h, State.modBuyer_desk, State.setDesk_desk_self]

theorem unbindDesk_desk_ne {d' : DeskId} (h : d' ≠ d) : (unbindDesk d s).desk d' = s.desk d' := by
  unfold unbindDesk
  split
  · rfl
  · rw [State.modBuyer_desk, State.setDesk_desk_ne _ h]

@[simp] theorem setDesk_buyer (x : Desk) : (s.setDesk d x).buyer n = s.buyer n := rfl

theorem modBuyer_bound_self (f : Nat → Nat) :
    (s.modBuyer n fun a => { a with boundDesks := f a.boundDesks }).buyer n =
      (s.buyer n).map fun a => { a with boundDesks := f a.boundDesks } :=
  State.modBuyer_buyer_self s (fun a => { a with boundDesks := f a.boundDesks }) (fun _ => rfl) n

theorem modBuyer_bound_ne (f : Nat → Nat) (h : m ≠ n) :
    (s.modBuyer n fun a => { a with boundDesks := f a.boundDesks }).buyer m = s.buyer m :=
  State.modBuyer_buyer_ne s (fun a => { a with boundDesks := f a.boundDesks }) (fun _ => rfl) h

/-- The account of the desk's buyer counts one desk less (R99). -/
theorem unbindDesk_buyer : (unbindDesk d s).buyer n =
    (s.buyer n).map fun a => { a with boundDesks := a.boundDesks - oneIf (s.desk d).binding n } := by
  cases h : (s.desk d).binding with
  | none => simp [unbindDesk_of_none h]
  | some b =>
    rw [unbindDesk_of_some h]
    by_cases hn : n = b
    · rw [hn, modBuyer_bound_self fun k => k - 1]
      simp
    · rw [modBuyer_bound_ne (fun k => k - 1) hn]
      simp [hn]

theorem bindDesk_of_bound (h : (s.desk d).binding = some n) : bindDesk d n s = s := if_pos h

theorem bindDesk_of_other (h : (s.desk d).binding ≠ some n) : bindDesk d n s =
    ((unbindDesk d s).setDesk d { s.desk d with binding := some n }).modBuyer n
      fun a => { a with boundDesks := a.boundDesks + 1 } := by
  simp only [bindDesk, if_neg h, unbindDesk_desk_self]

theorem bindDesk_desk_self : (bindDesk d n s).desk d = { s.desk d with binding := some n } := by
  by_cases h : (s.desk d).binding = some n
  · rw [bindDesk_of_bound h, ← h]
  · rw [bindDesk_of_other h, State.modBuyer_desk, State.setDesk_desk_self]

theorem bindDesk_desk_ne {d' : DeskId} (h : d' ≠ d) : (bindDesk d n s).desk d' = s.desk d' := by
  by_cases hb : (s.desk d).binding = some n
  · rw [bindDesk_of_bound hb]
  · rw [bindDesk_of_other hb, State.modBuyer_desk, State.setDesk_desk_ne _ h, unbindDesk_desk_ne h]

theorem bindDesk_buyer_self (h : (s.desk d).binding ≠ some n) : (bindDesk d n s).buyer n =
    (s.buyer n).map fun a => { a with boundDesks := a.boundDesks + 1 } := by
  rw [bindDesk_of_other h, modBuyer_bound_self fun k => k + 1, setDesk_buyer, unbindDesk_buyer]
  simp [oneIf, h]

theorem bindDesk_buyer_ne (hm : m ≠ n) : (bindDesk d n s).buyer m =
    (s.buyer m).map fun a => { a with boundDesks := a.boundDesks - oneIf (s.desk d).binding m } := by
  by_cases h : (s.desk d).binding = some n
  · simp [bindDesk_of_bound h, h, hm]
  · rw [bindDesk_of_other h, modBuyer_bound_ne (fun k => k + 1) hm, setDesk_buyer, unbindDesk_buyer]

/-! ## Sign-on (R97, R98) -/

theorem signOn_binds (ha : s.buyer n = some a) (hb : a.flags.blocked = false) : signOn d n s = bindDesk d n s := by
  simp [signOn, ha, hb]

theorem signOn_refused (h : s.buyer n = none ∨ ∃ a, s.buyer n = some a ∧ a.flags.blocked = true) :
    signOn d n s = refuseSignOn d s := by
  rcases h with h | ⟨a, h, hb⟩ <;> simp [signOn, *]

theorem refuseSignOn_desk_self : (refuseSignOn d s).desk d = { s.desk d with
    binding := none, refused := pulseLamp (s.desk d).refused
    lastRefusal := some { reason := .notSigned, clock := none, lot := none } } := by
  simp [refuseSignOn, pulseRefused, unbindDesk_desk_self]

theorem refuseSignOn_desk_ne {d' : DeskId} (h : d' ≠ d) : (refuseSignOn d s).desk d' = s.desk d' := by
  rw [refuseSignOn, pulseRefused, State.setDesk_desk_ne _ h, State.setDesk_desk_ne _ h, unbindDesk_desk_ne h]

theorem refuseSignOn_buyer : (refuseSignOn d s).buyer n = (unbindDesk d s).buyer n := rfl

theorem refuseSignOn_ledger : (refuseSignOn d s).ledger = (unbindDesk d s).ledger := rfl

/-! ## The judgement of a press (R95, R96) -/

section
variable {x : Clock} {run tag step : Nat}

theorem judgePress_ok (hst : x.state = .running ∨ x.state = .stopping) (hrun : run = x.run)
    (hstep : pressStep x.k tag x.params.ageLimit = some step) : judgePress x run tag = .ok step := by
  rcases hst with hst | hst <;> simp [judgePress, hst, hrun, hstep]

theorem judgePress_idle (hrunning : x.state ≠ .running) (hstopping : x.state ≠ .stopping) :
    judgePress x run tag = .error .idleClock := by simp [judgePress, hrunning, hstopping]

theorem judgePress_late (hst : x.state = .running ∨ x.state = .stopping)
    (h : run ≠ x.run ∨ pressStep x.k tag x.params.ageLimit = none) : judgePress x run tag = .error .late := by
  have hlive : ¬ (x.state ≠ .running ∧ x.state ≠ .stopping) := fun ⟨hr, hs⟩ => hst.elim hr hs
  rw [judgePress, if_neg hlive]
  split
  · rfl
  · next hrun => rw [h.resolve_left hrun]

end

section
variable {run tag offset packs step : Nat}

theorem takePress_eq : takePress d c run tag offset packs s =
    match judgePress (s.clock c) run tag with
    | .error reason => refusePress d reason c (arrived s)
    | .ok step =>
      let p : Press := { desk := d, packs := packs, offset := offset, step := step, arrival := s.bus.nextArrival }
      if (s.clock c).state = .running then stopClock c p (arrived s) else collect c p (arrived s) := rfl

theorem takePress_refused {reason : DeskRefusal} (h : judgePress (s.clock c) run tag = .error reason) :
    takePress d c run tag offset packs s = refusePress d reason c (arrived s) := by rw [takePress_eq, h]

/-- The first admitted press of a RUNNING clock (R94). -/
theorem takePress_first (hst : (s.clock c).state = .running)
    (hstep : pressStep (s.clock c).k tag (s.clock c).params.ageLimit = some step) :
    takePress d c (s.clock c).run tag offset packs s =
      stopClock c { desk := d, packs := packs, offset := offset, step := step, arrival := s.bus.nextArrival }
        (arrived s) := by
  rw [takePress_eq, judgePress_ok (.inl hst) rfl hstep]
  exact if_pos hst

/-- A further admitted press of a STOPPING clock (R94). -/
theorem takePress_more (hst : (s.clock c).state = .stopping) (hrun : run = (s.clock c).run)
    (hstep : pressStep (s.clock c).k tag (s.clock c).params.ageLimit = some step) :
    takePress d c run tag offset packs s =
      collect c { desk := d, packs := packs, offset := offset, step := step, arrival := s.bus.nextArrival }
        (arrived s) := by
  have hno : ¬ (s.clock c).state = .running := by simp [hst]
  rw [takePress_eq, judgePress_ok (.inr hst) hrun hstep]
  exact if_neg hno

end

/-! ## The stop of a clock (R68, R112) -/

/-- The clock that its first admitted press stops, its step timer to expire at `ends` (R68, R108, R112). -/
def stopped (p : Press) (ends now : Nat) (x : Clock) : Clock := { x with
  state := .stopping, stepTimer := .halted (ends - now), collection := [p]
  windowEnds := some (now + x.params.window * 250) }

section
variable {ends : Nat} (ht : (s.clock c).stepTimer = .running ends)
include ht

theorem stopClock_window (hw : (s.clock c).params.window ≠ 0) :
    stopClock c p s = askUpdate c (s.setClock c (stopped p ends s.timebase (s.clock c))) := by
  simp only [stopClock, ht, if_neg hw]
  rfl

/-- With no window to run the clock decides at once (R112). -/
theorem stopClock_noWindow (hw : (s.clock c).params.window = 0) :
    stopClock c p s = serveWaiting (placeCommit c (askUpdate c (s.setClock c
      { stopped p ends s.timebase (s.clock c) with state := .deciding, windowEnds := none }))) := by
  simp only [stopClock, ht, if_pos hw, State.setClock_clock_self, State.setClock_setClock]
  rfl

end

/-! ## The collection of a press (R109 to R111) -/

theorem collect_duplicate (h : ∃ q ∈ (s.clock c).collection, q.desk = p.desk) :
    collect c p s = refusePress p.desk .duplicate c s := if_pos (by simpa using h)

section
variable (hnew : ∀ q ∈ (s.clock c).collection, q.desk ≠ p.desk)
include hnew

theorem collect_room (hroom : (s.clock c).collection.length < 16) :
    collect c p s = s.setClock c { s.clock c with collection := insertPress p (s.clock c).collection } :=
  (if_neg (by simpa using hnew)).trans (if_pos hroom)

variable {front : List Press} {last : Press} (hlast : (s.clock c).collection = front ++ [last])
  (hfull : 16 ≤ (s.clock c).collection.length)
include hlast hfull

theorem collect_full : collect c p s = if earlierKey p last then
      refusePress last.desk .outbid c (s.setClock c { s.clock c with collection := insertPress p front })
    else refusePress p.desk .outbid c s := by
  have hdup : ((s.clock c).collection.any fun q => q.desk = p.desk) = false := by simpa using hnew
  have hno : ¬ (s.clock c).collection.length < Config.collectionEntries := Nat.not_lt.2 hfull
  simp only [collect, hdup, if_neg hno, Bool.false_eq_true, if_false]
  rw [hlast, List.getLast?_concat, List.dropLast_concat]

/-- A press with the smaller key takes the place of the last of sixteen (R111). -/
theorem collect_replace (h : p.step < last.step ∨ (p.step = last.step ∧ p.offset < last.offset)) :
    collect c p s =
      refusePress last.desk .outbid c (s.setClock c { s.clock c with collection := insertPress p front }) := by
  rw [collect_full hnew hlast hfull, if_pos (by simpa [earlierKey] using h)]

theorem collect_outbid (h : ¬ (p.step < last.step ∨ (p.step = last.step ∧ p.offset < last.offset))) :
    collect c p s = refusePress p.desk .outbid c s := by
  rw [collect_full hnew hlast hfull, if_neg (by simpa [earlierKey] using h)]

end

end Sys2Proof.Machine
end

section
/-! Sign-ons, sign-offs and the first press of a stop, each as the one event of a new batch (R94, R97 to R99). -/

set_option Elab.async false

namespace Sys2Proof.Machine

open Sys2Proof.Safety

variable {s t v : State} {c : ClockId} {d : DeskId} {n k e b : Nat} {p : Poll} {r : RowId} {y : RowReply}

/-! ## What follows a new batch (R88) -/

namespace EventKeeps

variable (h : EventKeeps k s t) (r : RowId)
include h

theorem framesGood : (t.row r).framesGood = (s.row r).framesGood := congrArg (fun x => x.1) (h.rows r)

theorem misses : (t.row r).misses = (s.row r).misses := congrArg (fun x => x.2.1) (h.rows r)

theorem online : (t.row r).online = (s.row r).online := congrArg (fun x => x.2.2.1) (h.rows r)

theorem lastBatch : (t.row r).lastBatch = (s.row r).lastBatch := congrArg (fun x => x.2.2.2) (h.rows r)

end EventKeeps

/-- A new batch of one event. -/
theorem exec_oneEvent (h : s.hall.main = .present) (ha : s.bus.activity = .awaiting p e) (hy : goodReply p y = true)
    (hb : y.batch ≠ (s.row p.row).lastBatch) {x : DeskEvent} (hx : y.events = [x]) :
    exec (.rowReplyGood y) s = .next (endWait false (takeEvent x (answered p.row y.batch s))) := by
  rw [exec_newBatch h ha hy (batch_ne_zero hy (by simp [hx])) hb, hx]
  rfl

/-- What the events of a new batch leave as it was, after the wait has ended. -/
theorem newBatch_frame (h : EventKeeps k (answered r b s) v) :
    ((endWait false v).row r).lastBatch = b ∧ (endWait false v).lots = s.lots ∧ (endWait false v).lanes = s.lanes ∧
      (endWait false v).ledger.journal = s.ledger.journal ∧
      (endWait false v).ledger.invoices = s.ledger.invoices ∧ (endWait false v).hall = s.hall :=
  ⟨by rw [endWait_row, h.lastBatch, answered_row_self], by rw [endWait_lots, h.lots, answered_lots],
    by rw [endWait_lanes, h.lanes, answered_lanes], by rw [endWait_ledger, h.journal, answered_ledger],
    by rw [endWait_ledger, h.invoices, answered_ledger], by rw [endWait_hall, h.hall, answered_hall]⟩

/-! ## Sign-on and sign-off (R97 to R99) -/

theorem signOffReply (h : s.hall.main = .present) (ha : s.bus.activity = .awaiting p e)
    (hb : b ≠ (s.row p.row).lastBatch)
    (hy : goodReply p { row := numberOf p.row, batch := b, events := [.signOff (numberOf d)] } = true) :
    exec (.rowReplyGood { row := numberOf p.row, batch := b, events := [.signOff (numberOf d)] }) s =
      .next (endWait false (unbindDesk d (answered p.row b s))) := by
  rw [exec_oneEvent h ha hy hb rfl, takeEvent_signOff]

theorem signOnReply (h : s.hall.main = .present) (ha : s.bus.activity = .awaiting p e)
    (hb : b ≠ (s.row p.row).lastBatch)
    (hy : goodReply p { row := numberOf p.row, batch := b, events := [.signOn (numberOf d) n] } = true) :
    exec (.rowReplyGood { row := numberOf p.row, batch := b, events := [.signOn (numberOf d) n] }) s =
      .next (endWait false (signOn d n (answered p.row b s))) := by
  rw [exec_oneEvent h ha hy hb rfl, takeEvent_signOn]

theorem signOn_desk_ne {d' : DeskId} (h : d' ≠ d) : (signOn d n s).desk d' = s.desk d' := by
  unfold signOn
  split
  · split
    · exact refuseSignOn_desk_ne h
    · exact bindDesk_desk_ne h
  · exact refuseSignOn_desk_ne h

/-- The accounts after a desk has been unbound: its buyer's counts one desk less (R99). -/
theorem unbindDesk_accounts :
    ((s.desk d).binding = none → (unbindDesk d (answered r b s)).ledger = s.ledger) ∧
    (∀ m x, (s.desk d).binding = some m → s.buyer m = some x →
      (unbindDesk d (answered r b s)).buyer m = some { x with boundDesks := x.boundDesks - 1 }) ∧
    ∀ m, (s.desk d).binding ≠ some m → (unbindDesk d (answered r b s)).buyer m = s.buyer m := by
  refine ⟨fun hd => ?_, fun m x hd hx => ?_, fun m hd => ?_⟩
  · rw [unbindDesk_of_none (by rwa [answered_desk]), answered_ledger]
  · simp [unbindDesk_buyer, hx, hd]
  · simp [unbindDesk_buyer, oneIf, hd]

/-- Settles O37: binding and unbinding said of the desk and of each account, on the state in which the row has answered. -/
theorem signOnBinds : Obligations.SignOnBinds := by
  unfold Obligations.SignOnBinds
  intro p e b n d s h ha hb
  constructor
  · rintro _ rfl hy
    obtain ⟨hbatch, hlots, hlanes, hjournal, hinvoices, hhall⟩ :=
      newBatch_frame (eventKeeps_signOn (d := d) (n := n) (.refl (answered p.row b s)))
    refine ⟨_, signOnReply h ha hb hy, hbatch, by simp, hlots, hlanes, hjournal, hinvoices, hhall,
      fun d' hd' => ?others, fun a hn hok => ?binds, fun hno => ?refused⟩
    case others => rw [endWait_desk, signOn_desk_ne hd', answered_desk]
    case binds =>
      rw [signOn_binds ((answered_buyer ..).trans hn) hok]
      refine ⟨?desk, fun hd => ?again, fun hd => ?rises, fun m x hm hd hx => ?falls, fun m hm hd => ?stays⟩
      case desk => rw [endWait_desk, bindDesk_desk_self, answered_desk]
      case again => rw [endWait_ledger, bindDesk_of_bound (by rwa [answered_desk]), answered_ledger]
      case rises =>
        rw [endWait_buyer, bindDesk_buyer_self (by rwa [answered_desk]), answered_buyer, hn]
        rfl
      case falls => simp [bindDesk_buyer_ne hm, hx, hd]
      case stays => simp [bindDesk_buyer_ne hm, oneIf, hd]
    case refused =>
      rw [signOn_refused (by simpa using hno)]
      simp only [endWait_desk, endWait_ledger, endWait_buyer, refuseSignOn_desk_self, refuseSignOn_ledger,
        refuseSignOn_buyer, answered_desk]
      exact ⟨trivial, unbindDesk_accounts⟩
  · rintro _ rfl hy
    obtain ⟨hbatch, hlots, hlanes, hjournal, hinvoices, hhall⟩ :=
      newBatch_frame (eventKeeps_unbindDesk (d := d) (.refl (answered p.row b s)))
    refine ⟨_, signOffReply h ha hb hy, hbatch, by simp, hlots, hlanes, hjournal, hinvoices, hhall,
      fun d' hd' => by rw [endWait_desk, unbindDesk_desk_ne hd', answered_desk], ?_⟩
    simp only [endWait_desk, endWait_ledger, endWait_buyer, unbindDesk_desk_self, answered_desk]
    exact ⟨trivial, unbindDesk_accounts⟩

/-! ## The first press of a stop (R68, R94, R112) -/

/-- The press event of a run on a clock, alone in a new batch. -/
theorem pressReply {run tag offset packs : Nat} (h : s.hall.main = .present) (ha : s.bus.activity = .awaiting p e)
    (hb : y.batch ≠ (s.row p.row).lastBatch) (hy : goodReply p y = true)
    (hx : y.events = [.press (numberOf d) (numberOf c) run tag offset packs]) :
    exec (.rowReplyGood y) s =
      .next (endWait false (takePress d c run tag offset packs (answered p.row y.batch s))) := by
  rw [exec_oneEvent h ha hy hb hx, takeEvent_press]

/-- A first press stops the clock of `s`, whatever else has changed that `s` does not show. -/
theorem stopClock_window_answered {x : Press} {ends : Nat} (ht : (s.clock c).stepTimer = .running ends)
    (hw : (s.clock c).params.window ≠ 0) :
    stopClock c x (arrived (answered r b s)) =
      askUpdate c ((arrived (answered r b s)).setClock c (stopped x ends s.timebase (s.clock c))) := by
  rw [stopClock_window (ends := ends) (by simpa using ht) (by simpa using hw), arrived_timebase, arrived_clock,
    answered_timebase, answered_clock]

/-- Settles O35: the row has answered, the press has its arrival number, and the clock is stopped. -/
theorem firstPressStops : Obligations.FirstPressStops := by
  unfold Obligations.FirstPressStops
  intro p e ends b tag offset packs step d c s h ha hst ht hw hstep hy hb
  have first := takePress_first (s := answered p.row b s) (d := d) (offset := offset) (packs := packs)
    (by simpa using hst) (by simpa using hstep)
  rw [answered_clock, answered_nextArrival, stopClock_window_answered ht hw] at first
  have keeps := eventKeeps_takePress (d := d) (c := c) (run := (s.clock c).run) (tag := tag) (offset := offset)
    (packs := packs) (.refl (answered p.row b s))
  rw [first] at keeps
  obtain ⟨hbatch, hlots, hlanes, -, -, hhall⟩ := newBatch_frame keeps
  refine ⟨_, pressReply h ha hb hy rfl, ?_⟩
  rw [first]
  refine ⟨?clocks, hbatch, ?arrival, hlots, hlanes, ?ledger, hhall⟩
  case clocks => simp [stopped]
  case arrival => exact keeps.nextArrival.trans (congrArg arrivalAfter (answered_nextArrival ..))
  case ledger => simp

end Sys2Proof.Machine
end

section
/-! The replies of a row counted (R88 to R90), and a new batch taken event by event (R93, R97, R99, R109, R110). -/

set_option Elab.async false

namespace Sys2Proof.Machine

open Sys2Proof.Safety

variable {s v : State} {c : ClockId} {d : DeskId} {n k e b : Nat} {p : Poll} {r : RowId} {y : RowReply}

/-! ## Replies without a new batch, and misses -/

/-- What no reply without a new batch changes, and what the end of the wait leaves. -/
theorem endWait_congr (held : Bool) (hrow : ∀ q, q ≠ r → v.row q = s.row q) (hticks : v.bus.ticks = s.bus.ticks)
    (hclocks : v.clocks = s.clocks) (hlots : v.lots = s.lots) (hledger : v.ledger = s.ledger)
    (hhall : v.hall = s.hall) :
    (∀ q, q ≠ r → (endWait held v).row q = s.row q) ∧ (endWait held v).bus.ticks = s.bus.ticks ∧
      (endWait held v).bus.lineHeld = held ∧
      (endWait held v).bus.activity = (if held || s.bus.ticks.isEmpty then .idle else .sending) ∧
      (endWait held v).bus.poll = none ∧ (endWait held v).clocks = s.clocks ∧ (endWait held v).lots = s.lots ∧
      (endWait held v).ledger = s.ledger ∧ (endWait held v).hall = s.hall :=
  ⟨fun q hq => (endWait_row ..).trans (hrow q hq), (endWait_bus_ticks ..).trans hticks, endWait_bus_lineHeld ..,
    by rw [endWait_activity, hticks], rfl, (endWait_clocks ..).trans hclocks, (endWait_lots ..).trans hlots,
    (endWait_ledger ..).trans hledger, (endWait_hall ..).trans hhall⟩

theorem goodRow_ticks : (goodRow r s).bus.ticks = s.bus.ticks := by rw [goodRow_bus]; rfl

theorem missRow_ticks : (missRow r s).bus.ticks = s.bus.ticks := by rw [missRow_bus]; rfl

/-- A bad reply counted, and the miss with it (R89). -/
theorem badReply_row : (badReply r s).row r = { missedForm (s.row r) with
    framesBad := countUp 65535 (s.row r).framesBad } := by
  rw [badReply, endWait_row, missRow_row_self, State.setRow_row_self]
  rfl

/-! ## The events of a new batch in order -/

@[simp] theorem arrived_nextArrival (s : State) :
    (arrived s).bus.nextArrival = (s.bus.nextArrival + 1) % 4294967296 := rfl

/-- The events of a new batch, taken in reply order. -/
def takeEvents (l : List DeskEvent) (s : State) : State := l.foldl (fun s e => takeEvent e s) s

@[simp] theorem takeEvents_nil : takeEvents [] s = s := rfl

@[simp] theorem takeEvents_cons (x : DeskEvent) (l : List DeskEvent) :
    takeEvents (x :: l) s = takeEvents l (takeEvent x s) := rfl

/-- A desk signed off and on again in one batch (R97, R99). -/
theorem takeEvents_signOff_signOn {a : Buyer} (ha : s.buyer n = some a) (hb : a.flags.blocked = false) :
    ((takeEvents [.signOff (numberOf d), .signOn (numberOf d) n] s).desk d).binding = some n := by
  have hbuyer := unbindDesk_buyer (s := s) (d := d) (n := n)
  rw [ha] at hbuyer
  rw [takeEvents_cons, takeEvents_cons, takeEvents_nil, takeEvent_signOff, takeEvent_signOn, signOn_binds hbuyer hb,
    bindDesk_desk_self]

section
variable {ends tag offset packs step : Nat} (hst : (s.clock c).state = .running)
  (ht : (s.clock c).stepTimer = .running ends) (hw : (s.clock c).params.window ≠ 0)
  (hstep : pressStep (s.clock c).k tag (s.clock c).params.ageLimit = some step)
include hst ht hw hstep

/-- The first admitted press of a RUNNING clock with a window to run (R94). -/
theorem takeEvent_first : takeEvent (.press (numberOf d) (numberOf c) (s.clock c).run tag offset packs) s =
    askUpdate c ((arrived s).setClock c (stopped
      { desk := d, packs := packs, offset := offset, step := step, arrival := s.bus.nextArrival }
      ends s.timebase (s.clock c))) := by
  rw [takeEvent_press, takePress_first hst hstep, stopClock_window (s := arrived s) ht hw]
  rfl

/-- A first press and then its desk's sign-off: the press stands, the desk is unbound (R99). -/
theorem takeEvents_first_signOff :
    ((takeEvents [.press (numberOf d) (numberOf c) (s.clock c).run tag offset packs, .signOff (numberOf d)] s).clock
      c).collection = [{ desk := d, packs := packs, offset := offset, step := step, arrival := s.bus.nextArrival }] ∧
    ((takeEvents [.press (numberOf d) (numberOf c) (s.clock c).run tag offset packs, .signOff (numberOf d)] s).desk
      d).binding = none := by
  rw [takeEvents_cons, takeEvents_cons, takeEvents_nil, takeEvent_first hst ht hw hstep, takeEvent_signOff]
  exact ⟨by simp [stopped], unbindDesk_binding ..⟩

/-- A first press and then an admitted press of another desk: the second is placed by its key (R94, R110). -/
theorem takeEvents_first_second {tag' offset' packs' step' : Nat} {d' : DeskId} (hd : d' ≠ d)
    (hstep' : pressStep (s.clock c).k tag' (s.clock c).params.ageLimit = some step') :
    let t := takeEvents [.press (numberOf d) (numberOf c) (s.clock c).run tag offset packs,
      .press (numberOf d') (numberOf c) (s.clock c).run tag' offset' packs'] s
    (t.clock c).state = .stopping ∧ (t.clock c).collection = insertPress
      { desk := d', packs := packs', offset := offset', step := step'
        arrival := (s.bus.nextArrival + 1) % 4294967296 }
      [{ desk := d, packs := packs, offset := offset, step := step, arrival := s.bus.nextArrival }] := by
  intro t
  unfold t
  rw [takeEvents_cons, takeEvents_cons, takeEvents_nil, takeEvent_first hst ht hw hstep, takeEvent_press,
    takePress_more (step := step') (by simp [stopped]) (by simp [stopped]) (by simpa [stopped] using hstep'),
    collect_room (by simpa [stopped] using hd.symm) (by simp [stopped])]
  simp [stopped]

end

/-- Settles O34: the reply's own counters, its events folded in order on the row that has answered, and the misses. -/
theorem repliesCounted : Obligations.RepliesCounted := by
  unfold Obligations.RepliesCounted
  intro p e s h ha
  refine ⟨fun y hy hold => ?old, fun y hy h0 hb => ?new, fun y hy => ?notGood, ?bad, fun part => ?timeout⟩
  case old =>
    refine ⟨_, exec_rowReplyGood h ha hy, ?_⟩
    rw [takeReply_old hold]
    exact ⟨by rw [endWait_row, goodRow_row_self], endWait_congr false (fun q hq => goodRow_row_ne hq) goodRow_ticks
      (goodRow_clocks ..) (goodRow_lots ..) (goodRow_ledger ..) (goodRow_hall ..)⟩
  case new =>
    have keeps := eventKeeps_takeEvents (goodReply_events hy) (.refl (answered p.row y.batch s))
    obtain ⟨hbatch, hlots, hlanes, -, -, hhall⟩ := newBatch_frame keeps
    refine ⟨_, _, _, exec_newBatch h ha hy h0 hb, rfl, rfl, rfl, ?framesGood, ?misses, ?online, hbatch, fun hn => ?arrival,
      ?ticks, hlots, hlanes, hhall, fun d n a hev hn hok => ?rebound,
      fun d c ends tag offset packs step second x hst ht hw hstep hev hx => ⟨fun hoff => ?signedOff,
        fun d' tag' offset' packs' step' hd hmore hstep' => ?second⟩⟩
    case framesGood => rw [endWait_row, keeps.framesGood, answered_row_self]
    case misses => rw [endWait_row, keeps.misses, answered_row_self]
    case online => rw [endWait_row, keeps.online, answered_row_self]
    case arrival =>
      have count := keeps.nextArrival
      rw [answered_nextArrival, arrivalAfter_iterate hn, Nat.zero_add] at count
      exact count
    case ticks => rw [endWait_bus_ticks, keeps.ticks, answered_ticks]
    case rebound =>
      rw [endWait_desk, hev]
      exact takeEvents_signOff_signOn ((answered_buyer ..).trans hn) hok
    case signedOff =>
      have first := takeEvents_first_signOff (s := answered p.row y.batch s) (d := d) (c := c) (ends := ends)
        (tag := tag) (offset := offset) (packs := packs) (step := step) (by simpa using hst) (by simpa using ht)
        (by simpa using hw) (by simpa using hstep)
      rw [answered_clock, answered_nextArrival] at first
      rw [endWait_desk, endWait_clock, hev, hoff, hx]
      exact first
    case second =>
      have both := takeEvents_first_second (s := answered p.row y.batch s) (d := d) (c := c) (ends := ends)
        (tag := tag) (offset := offset) (packs := packs) (step := step) (tag' := tag') (offset' := offset')
        (packs' := packs') (step' := step') (by simpa using hst) (by simpa using ht) (by simpa using hw)
        (by simpa using hstep) hd (by simpa using hstep')
      rw [answered_clock, answered_nextArrival] at both
      rw [endWait_clock, hev, hmore, hx]
      exact both
  case notGood => rw [exec_rowReplyGood_bad h ha hy, exec_rowReplyBad h ha]
  case bad =>
    refine ⟨_, exec_rowReplyBad h ha, badReply_row, endWait_congr false (fun q hq => ?_) missRow_ticks
      (missRow_clocks ..) (missRow_lots ..) (missRow_ledger ..) (missRow_hall ..)⟩
    rw [missRow_row_ne hq, State.setRow_row_ne _ _ _ _ hq]
  case timeout =>
    refine ⟨_, exec_rowReplyTimeout h ha part, by simp [State.reach], ?row, endWait_congr part
      (fun q hq => missRow_row_ne hq) missRow_ticks (missRow_clocks ..) (missRow_lots ..) (missRow_ledger ..)
      (missRow_hall ..)⟩
    case row => rw [endWait_row, missRow_row_self]; rfl

end Sys2Proof.Machine
end

section
/-! A press judged (R94, R96, R108 to R112, R114): what a stop without a window places at the arbiter, and what a press of
a STOPPING clock or of another state meets. -/

set_option Elab.async false

namespace Sys2Proof.Machine

open Sys2Proof.Safety

variable {s t u : State} {c : ClockId} {d : DeskId} {n e b : Nat} {p : Poll} {x : Press} {y : RowReply}

/-! ## The arbiter takes the commit of a clock (R114, R134, R136) -/

theorem placeCommit_first {l : List Press} (hc : (s.clock c).collection = x :: l) (hn : (s.clock c).lot = some n) :
    placeCommit c s = s.setArbiter { s.ledger.arbiter with
      commits := s.ledger.arbiter.commits.set c
        (some { lot := n, desk := x.desk, packs := x.packs, step := x.step }) } := by
  simp only [placeCommit, hc, hn]

theorem serveWaiting_busy {op : Operation} (h : s.ledger.arbiter.inProgress = some op) : serveWaiting s = s := by
  simp [serveWaiting, mayServe, h]

theorem find_serviceOrder : ∀ last c : ClockId, (serviceOrder last).find? (fun d => decide (d = c)) = some c := by decide

/-- The one commit that waits is the arbiter's choice. -/
theorem choose_only {a : Arbiter} {r : CommitRequest} (h : ∀ c, a.commits.get c = none) :
    choose { a with commits := a.commits.set c (some r) } = .commit c := by
  have waits : (fun d => ((a.commits.set c (some r)).get d).isSome) = fun d => decide (d = c) := by
    funext d
    by_cases hd : d = c
    · simp [hd]
    · rw [vector_get_set_ne _ _ _ _ hd, h d]
      simp [hd]
  simp only [choose, waits, find_serviceOrder]

/-- A commit placed at an arbiter with nothing else to do is served at once, and judged then (R136). -/
theorem serveWaiting_only {r : CommitRequest} (hprog : s.ledger.arbiter.inProgress = none)
    (hreset : s.hlp.resetting = none) (hmain : s.hall.main = .present)
    (hnone : ∀ c, s.ledger.arbiter.commits.get c = none) :
    serveWaiting (s.setArbiter { s.ledger.arbiter with commits := s.ledger.arbiter.commits.set c (some r) }) =
      s.setArbiter { s.ledger.arbiter with
        inProgress := some (.commit c r (judgeCommit s c r)), lastServed := c } := by
  have hserve : mayServe (s.setArbiter { s.ledger.arbiter with
      commits := s.ledger.arbiter.commits.set c (some r) }) = true := by simp [mayServe, hprog, hreset, hmain]
  have hempty : (s.ledger.arbiter.commits.set c (some r)).set c none = s.ledger.arbiter.commits := by
    rw [vector_set_set, ← hnone c, vector_set_get]
  rw [serveWaiting, if_pos hserve, State.setArbiter_ledger_arbiter, choose_only hnone]
  simp only [serveChoice, State.setArbiter_ledger_arbiter, vector_get_set_self, hempty]
  rfl

theorem judgeCommit_congr {r : CommitRequest} (hdesk : (t.desk r.desk).binding = (s.desk r.desk).binding)
    (hledger : t.ledger = s.ledger) (hlots : t.lots = s.lots) (hprice : (t.clock c).startPrice = (s.clock c).startPrice)
    (hparams : (t.clock c).params = (s.clock c).params) : judgeCommit t c r = judgeCommit s c r := by
  have hbuyer : t.buyer = s.buyer := by funext n; simp only [State.buyer, hledger]
  have hlot : t.lot = s.lot := by funext n; simp only [State.lot, hlots]
  simp only [judgeCommit, hdesk, hbuyer, hlot, hprice, hparams, hledger, rateOf]

/-! ## A stop without a window (R112, R114) -/

/-- The state in which a clock that a press stopped with no window asks for its commit. -/
def decidingOn (c : ClockId) (x : Press) (ends : Nat) (s : State) : State :=
  askUpdate c ((arrived s).setClock c
    { stopped x ends s.timebase (s.clock c) with state := .deciding, windowEnds := none })

section
variable {ends : Nat}

@[simp] theorem decidingOn_clocks : (decidingOn c x ends s).clocks = (s.setClock c
    { stopped x ends s.timebase (s.clock c) with state := .deciding, windowEnds := none }).clocks := by
  simp [decidingOn]

@[simp] theorem decidingOn_desk : (decidingOn c x ends s).desk d = s.desk d := by simp [decidingOn]

@[simp] theorem decidingOn_lots : (decidingOn c x ends s).lots = s.lots := by simp [decidingOn]

@[simp] theorem decidingOn_ledger : (decidingOn c x ends s).ledger = s.ledger := by simp [decidingOn]

@[simp] theorem decidingOn_hlp : (decidingOn c x ends s).hlp = s.hlp := by simp [decidingOn]

@[simp] theorem decidingOn_hall : (decidingOn c x ends s).hall = s.hall := by simp [decidingOn]

theorem takePress_noWindow {tag offset packs step : Nat} (hst : (s.clock c).state = .running)
    (ht : (s.clock c).stepTimer = .running ends) (hw : (s.clock c).params.window = 0)
    (hstep : pressStep (s.clock c).k tag (s.clock c).params.ageLimit = some step) (hn : (s.clock c).lot = some n)
    (hx : x = { desk := d, packs := packs, offset := offset, step := step, arrival := s.bus.nextArrival }) :
    takePress d c (s.clock c).run tag offset packs s = serveWaiting ((decidingOn c x ends s).setArbiter
      { s.ledger.arbiter with
        commits := s.ledger.arbiter.commits.set c (some { lot := n, desk := d, packs := packs, step := step }) }) := by
  rw [takePress_first hst hstep, ← hx, stopClock_noWindow (s := arrived s) ht hw]
  show serveWaiting (placeCommit c (decidingOn c x ends s)) = _
  have hclock : (decidingOn c x ends s).clock c =
      { stopped x ends s.timebase (s.clock c) with state := .deciding, windowEnds := none } := by simp [decidingOn]
  rw [placeCommit_first (x := x) (l := []) (n := n) (by rw [hclock]; rfl) (by rw [hclock]; exact hn), decidingOn_ledger,
    hx]

end

/-! ## What a press leaves of the accounts -/

/-- Service reaches the arbiter alone. -/
theorem serveWaiting_eq_setArbiter (s : State) : ∃ a, serveWaiting s = s.setArbiter a := by
  have none : ∃ a, s = s.setArbiter a := ⟨s.ledger.arbiter, rfl⟩
  simp only [serveWaiting]
  split
  · unfold serveChoice
    extract_lets a
    split
    · split
      · exact ⟨_, rfl⟩
      · exact none
    · split
      · exact ⟨_, rfl⟩
      · exact none
    · exact none
  · exact none

@[simp] theorem serveWaiting_clocks : (serveWaiting s).clocks = s.clocks := by
  obtain ⟨a, ha⟩ := serveWaiting_eq_setArbiter s
  rw [ha, State.setArbiter_clocks]

@[simp] theorem serveWaiting_buyers : (serveWaiting s).ledger.buyers = s.ledger.buyers := by
  obtain ⟨a, ha⟩ := serveWaiting_eq_setArbiter s
  rw [ha, State.setArbiter_ledger_buyers]

@[simp] theorem placeCommit_buyers : (placeCommit c s).ledger.buyers = s.ledger.buyers := by
  simp only [placeCommit]
  split <;> rfl

theorem stopClock_buyers : (stopClock c x s).ledger.buyers = s.ledger.buyers := by
  simp only [stopClock]
  split <;> simp

theorem collect_buyers : (collect c x s).ledger.buyers = s.ledger.buyers := by
  simp only [collect]
  split
  · simp
  · split
    · simp
    · split
      · rfl
      · split <;> simp

theorem takePress_buyers {run tag offset packs : Nat} :
    (takePress d c run tag offset packs s).ledger.buyers = s.ledger.buyers := by
  rw [takePress_eq]
  split
  · simp
  · extract_lets x
    split
    · exact stopClock_buyers
    · exact collect_buyers

/-! ## A press refused (R96) -/

theorem countRefused_desk (reason : DeskRefusal) (d' : DeskId) : (countRefused d reason s).desk d' = s.desk d' := by
  have same : ∀ x : Row, x.desks = (s.row (rowOfDesk d)).desks → (s.setRow (rowOfDesk d) x).desk d' = s.desk d' :=
    fun x hx => by
      rw [State.setRow_desk, hx]
      split
      · next h => rw [State.desk, h]
      · rfl
  cases reason <;> exact same _ rfl

/-- A press refused on a state that shows the desks, the row's counts and the clock's lot as `s` does. -/
theorem pressRefused_endWait {reason : DeskRefusal} (hdesk : ∀ d', u.desk d' = s.desk d')
    (hlate : (u.row (rowOfDesk d)).pressesLate = (s.row (rowOfDesk d)).pressesLate)
    (hrefused : (u.row (rowOfDesk d)).pressesRefused = (s.row (rowOfDesk d)).pressesRefused)
    (hlot : (u.clock c).lot = (s.clock c).lot) :
    PressRefused s (endWait false (refusePress d reason c u)) d c reason := by
  have hclock : (countRefused d reason u).clock c = u.clock c := by simp [State.clock]
  refine ⟨?_, fun d' hd => ?_, ?_, ?_⟩
  · rw [endWait_desk, refusePress, State.setDesk_desk_self, countRefused_desk, hclock, hdesk, hlot]
  · rw [endWait_desk, refusePress, State.setDesk_desk_ne _ hd, countRefused_desk, hdesk]
  · rw [endWait_row, refusePress, State.setDesk, State.setRow_row_self]
    cases reason <;> simp [countRefused, hlate, top16]
  · rw [endWait_row, refusePress, State.setDesk, State.setRow_row_self]
    cases reason <;> simp [countRefused, hrefused, top16]

/-- The row that answers counts its good frame, not its presses. -/
theorem answered_pressesLate {r q : RowId} : ((answered r b s).row q).pressesLate = (s.row q).pressesLate := by
  rw [answered_row]
  split
  · next h => rw [h]
  · rfl

theorem answered_pressesRefused {r q : RowId} : ((answered r b s).row q).pressesRefused = (s.row q).pressesRefused := by
  rw [answered_row]
  split
  · next h => rw [h]
  · rfl

/-- A press refused as the one event of a new batch, the clock's collection changed or not. -/
theorem pressRefused_answered {r : RowId} {reason : DeskRefusal} (hbus : u.bus = (arrived (answered r b s)).bus)
    (hlot : (u.clock c).lot = (s.clock c).lot) :
    PressRefused s (endWait false (refusePress d reason c u)) d c reason := by
  have hrow : ∀ q, u.row q = (answered r b s).row q := fun q => by rw [State.row, hbus]; rfl
  refine pressRefused_endWait (fun d' => ?_) ?_ ?_ hlot
  · rw [State.desk, hrow]
    exact answered_desk ..
  · rw [hrow, answered_pressesLate]
  · rw [hrow, answered_pressesRefused]

/-- Settles O36: a press with no window places its commit, which is served at once where nothing else is; of the others
each is refused or placed by the branch of its judgement. -/
theorem pressesJudged : Obligations.PressesJudged := by
  unfold Obligations.PressesJudged
  rintro p e b run tag offset packs d c y s h ha hb rfl hy
  have keeps := eventKeeps_takePress (d := d) (c := c) (run := run) (tag := tag) (offset := offset)
    (packs := packs) (.refl (answered p.row b s))
  obtain ⟨hbatch, hlots, hlanes, hjournal, hinvoices, hhall⟩ := newBatch_frame keeps
  have arrival := keeps.nextArrival.trans (congrArg arrivalAfter (answered_nextArrival ..))
  have buyers := (takePress_buyers (d := d) (c := c) (run := run) (tag := tag) (offset := offset)
    (packs := packs) (s := answered p.row b s)).trans (congrArg Ledger.buyers (answered_ledger ..))
  refine ⟨fun ends step n x hst ht hw hrun hstep hn hx => ?noWindow,
    _, pressReply h ha hb hy rfl, hbatch, arrival, fun hno hno' => ?idle, fun hst hno => ?late,
    fun step x hst hrun hstep hx => ⟨fun hdup => ?duplicate, fun hnew hroom => ?placed,
      fun front last hnew hlast hfull => ⟨fun hkey => ?replaces, fun hkey => ?outbid⟩⟩,
    hlots, hlanes, buyers, hjournal, hinvoices, hhall⟩
  case noWindow =>
    have stop := takePress_noWindow (s := answered p.row b s) (d := d) (c := c) (ends := ends) (tag := tag)
      (offset := offset) (packs := packs) (step := step) (n := n) (by simpa using hst) (by simpa using ht)
      (by simpa using hw) (by simpa using hstep) (by simpa using hn) rfl
    rw [answered_clock, answered_nextArrival, answered_ledger, ← hrun, ← hx] at stop
    refine ⟨_, pressReply h ha hb hy rfl, ?clocks, fun op hop => ?busy, fun hprog hnothing hreset => ?served,
      arrival, hlots, hlanes, buyers, hjournal, hhall⟩
    case clocks =>
      rw [endWait_clocks, stop]
      simp [stopped]
    case busy =>
      rw [endWait_ledger, stop, serveWaiting_busy (op := op) (by simpa using hop)]
      rfl
    case served =>
      obtain ⟨hrequests, hcommits⟩ := hnothing
      have served := serveWaiting_only (c := c) (r := x) (s := decidingOn c
        { desk := d, packs := packs, offset := offset, step := step, arrival := s.bus.nextArrival } ends
        (answered p.row b s)) (by simpa using hprog) (by simpa using hreset) (by simpa using h) (by simpa using hcommits)
      rw [decidingOn_ledger, answered_ledger, judgeCommit_congr (s := s) (by simp) (by simp) (by simp)
        (by simp [decidingOn, stopped]) (by simp [decidingOn, stopped])] at served
      rw [stop, served]
      exact ⟨rfl, ⟨hrequests, hcommits⟩, rfl⟩
  case idle =>
    rw [takePress_refused (judgePress_idle (by simpa using hno) (by simpa using hno'))]
    exact ⟨by simp, pressRefused_answered rfl (by simp)⟩
  case late =>
    rw [takePress_refused (judgePress_late (by simpa using hst) (by simpa using hno))]
    exact ⟨by simp, pressRefused_answered rfl (by simp)⟩
  all_goals
    have more := takePress_more (s := answered p.row b s) (d := d) (c := c) (offset := offset) (packs := packs)
      (by simpa using hst) (by simpa using hrun) (by simpa using hstep)
    rw [answered_nextArrival, ← hx] at more
    rw [more]
    have hdesk : x.desk = d := by rw [hx]
  case duplicate =>
    rw [collect_duplicate (by simpa [hdesk] using hdup), hdesk]
    exact ⟨by simp, pressRefused_answered rfl (by simp)⟩
  case placed =>
    rw [collect_room (by simpa [hdesk] using hnew) (by simpa using hroom)]
    exact ⟨by simp, fun d' => by simp⟩
  case replaces =>
    rw [collect_replace (by simpa [hdesk] using hnew) (by simpa using hlast) (by simpa using hfull)
      (by simpa [hx] using hkey)]
    exact ⟨by simp, pressRefused_answered rfl (by simp)⟩
  case outbid =>
    rw [collect_outbid (by simpa [hdesk] using hnew) (by simpa using hlast) (by simpa using hfull)
      (by simpa [hx] using hkey), hdesk]
    exact ⟨by simp, pressRefused_answered rfl (by simp)⟩

end Sys2Proof.Machine
end

section
/-! The wire layouts read back (11.8.1 to 11.8.3): numbers, host frames, journal line records, and row replies. -/

set_option Elab.async false

namespace Sys2Proof.Machine

open Sys2Proof.Safety

variable {n x : Nat} {l : List Byte}

/-! ## Numbers (11.8) -/

@[simp] theorem bytesOf_length (n x : Nat) : (bytesOf n x).length = n := by
  induction n with
  | zero => rfl
  | succ n ih => simp [bytesOf, ih]

theorem readFrom_bytesOf (acc n x : Nat) (l : List Byte) :
    readFrom acc n (bytesOf n x ++ l) = some (acc * 256 ^ n + x % 256 ^ n, l) := by
  induction n generalizing acc with
  | zero => simp [bytesOf, readFrom, Nat.mod_one]
  | succ n ih =>
    rw [bytesOf, List.cons_append, readFrom, ih, BitVec.toNat_ofNat, Nat.mod_pow_succ (x := x)]
    congr 2
    ring

theorem readNumber_bytesOf (h : x < 256 ^ n) (l : List Byte) : readNumber n (bytesOf n x ++ l) = some (x, l) := by
  rw [readNumber, readFrom_bytesOf, Nat.zero_mul, Nat.zero_add, Nat.mod_eq_of_lt h]

theorem readByte_bytesOf (h : x < 256) (l : List Byte) : readNumber 1 (bytesOf 1 x ++ l) = some (x, l) :=
  readNumber_bytesOf h l

theorem readCheck (m l : List Byte) : readNumber 2 (bytesOf 2 (crc m) ++ l) = some (crc m, l) :=
  readNumber_bytesOf (BitVec.isLt _) l

theorem takeExactly_append {a : List Byte} (h : a.length = n) (l : List Byte) : takeExactly n (a ++ l) = some (a, l) := by
  simp [takeExactly, ← h]

/-- The bytes that a check covers, as the reader takes them off the front. -/
theorem take_withCheck {a : List Byte} (h : a.length = n) : (withCheck a).take n = a := List.take_left' h

/-! ## Host frames (11.8.1) -/

theorem readHostFrame_of_parts {l l1 l2 l3 body : List Byte} {len kind : Nat} {tag : Byte}
    (hlen : readNumber 2 l = some (len, l1)) (hshort : len ≤ 512) (hkind : readNumber 1 l1 = some (kind, l2))
    (hhead : takeExactly (len + 1) l2 = some (tag :: body, l3))
    (hcheck : readNumber 2 l3 = some (crc (l.take (len + 4)), [])) :
    readHostFrame (Config.hostStartByte :: l) = some { kind := kind, tag := tag, body := body } := by
  simp [readHostFrame, hlen, hkind, hhead, hcheck, Nat.not_lt.2 hshort]

theorem readHostFrame_writeHostFrame (f : HostFrame) (hkind : f.kind < 256) (hbody : f.body.length ≤ 512) :
    readHostFrame (writeHostFrame f) = some f := by
  let covered := bytesOf 2 f.body.length ++ bytesOf 1 f.kind ++ f.tag :: f.body
  have htake : (withCheck covered).take (f.body.length + 4) = covered := take_withCheck (by simp [covered]; omega)
  have hsplit : withCheck covered = bytesOf 2 f.body.length ++ (bytesOf 1 f.kind ++
      ((f.tag :: f.body) ++ bytesOf 2 (crc covered))) := by simp [withCheck, covered]
  refine readHostFrame_of_parts (l := withCheck covered) (l3 := bytesOf 2 (crc covered)) ?_ hbody
    (readByte_bytesOf hkind _) (takeExactly_append (a := f.tag :: f.body) rfl _) ?_
  · rw [hsplit]
    exact readNumber_bytesOf (by omega) _
  · rw [htake]
    simpa using readCheck covered []

/-! ## Bus frames (11.8.3) -/

theorem readBusFrame_of_parts {l l1 l2 l3 l4 body : List Byte} {address type len : Nat}
    (haddress : readNumber 1 l = some (address, l1)) (htype : readNumber 1 l1 = some (type, l2))
    (hlen : readNumber 1 l2 = some (len, l3)) (hshort : len ≤ 64) (hbody : takeExactly len l3 = some (body, l4))
    (hcheck : readNumber 2 l4 = some (crc (l.take (len + 3)), [])) :
    readBusFrame (busStartByte :: l) = some { address := address, type := type, body := body } := by
  simp [readBusFrame, haddress, htype, hlen, hbody, hcheck, Nat.not_lt.2 hshort]

theorem readBusFrame_writeBusFrame (f : BusFrame) (haddress : f.address < 256) (htype : f.type < 256)
    (hbody : f.body.length ≤ 64) : readBusFrame (writeBusFrame f) = some f := by
  let covered := bytesOf 1 f.address ++ bytesOf 1 f.type ++ bytesOf 1 f.body.length ++ f.body
  have htake : (withCheck covered).take (f.body.length + 3) = covered := take_withCheck (by simp [covered]; omega)
  have hsplit : withCheck covered = bytesOf 1 f.address ++ (bytesOf 1 f.type ++ (bytesOf 1 f.body.length ++
      (f.body ++ bytesOf 2 (crc covered)))) := by simp [withCheck, covered]
  refine readBusFrame_of_parts (l := withCheck covered) (l4 := bytesOf 2 (crc covered)) ?_
    (readByte_bytesOf htype _) (readByte_bytesOf (by omega) _) hbody (takeExactly_append rfl _) ?_
  · rw [hsplit]
    exact readByte_bytesOf haddress _
  · rw [htake]
    simpa using readCheck covered []

/-! ## Desk events and row replies (11.8.3) -/

theorem fits_iff : Sys2Proof.fits n x = true ↔ x < 256 ^ n := decide_eq_true_iff

theorem readEvent_eventBytes {e : DeskEvent} (h : e.fits = true) (l : List Byte) :
    readEvent (eventBytes e ++ l) = some (e, l) := by
  have htype : ∀ {k : Nat}, k < 4 → ∀ m, readNumber 1 (bytesOf 1 k ++ m) = some (k, m) := fun hk m =>
    readByte_bytesOf (by omega) m
  cases e with
  | press desk clock run tag offset packs =>
    simp only [DeskEvent.fits, Bool.and_eq_true, fits_iff] at h
    obtain ⟨⟨⟨⟨⟨hdesk, hclock⟩, hrun⟩, htag⟩, hoffset⟩, hpacks⟩ := h
    simp [readEvent, eventBytes, htype, readNumber_bytesOf hdesk, readNumber_bytesOf hclock, readNumber_bytesOf hrun,
      readNumber_bytesOf htag, readNumber_bytesOf hoffset, readNumber_bytesOf hpacks]
  | signOn desk buyer =>
    simp only [DeskEvent.fits, Bool.and_eq_true, fits_iff] at h
    obtain ⟨hdesk, hbuyer⟩ := h
    simp [readEvent, eventBytes, htype, readNumber_bytesOf hdesk, readNumber_bytesOf hbuyer]
  | signOff desk =>
    have hdesk := fits_iff.1 h
    simp [readEvent, eventBytes, htype, readNumber_bytesOf hdesk]

theorem readEvents_flatMap {events : List DeskEvent} (h : ∀ e ∈ events, e.fits = true) (l : List Byte) :
    readEvents events.length (events.flatMap eventBytes ++ l) = some (events, l) := by
  induction events with
  | nil => rfl
  | cons e events ih =>
    obtain ⟨he, hrest⟩ := List.forall_mem_cons.1 h
    simp [readEvents, readEvent_eventBytes he, ih hrest]

theorem eventBytes_length_le (e : DeskEvent) : (eventBytes e).length ≤ 10 := by
  cases e <;> simp [eventBytes]

theorem flatMap_eventBytes_length_le (events : List DeskEvent) :
    (events.flatMap eventBytes).length ≤ 10 * events.length := by
  induction events with
  | nil => simp
  | cons e events ih =>
    have := eventBytes_length_le e
    simp only [List.flatMap_cons, List.length_append, List.length_cons]
    omega

theorem readRowReply_replyFrame {r : RowReply} (h : r.fits = true) :
    readRowReply (writeBusFrame (replyFrame r)) = some r := by
  simp only [RowReply.fits, Bool.and_eq_true, fits_iff, decide_eq_true_eq, List.all_eq_true] at h
  obtain ⟨⟨⟨hrow, hbatch⟩, hcount⟩, hevents⟩ := h
  have hbody : (replyFrame r).body.length ≤ 64 := by
    have := flatMap_eventBytes_length_le r.events
    simp only [replyFrame, List.length_append, bytesOf_length]
    omega
  have hframe := readBusFrame_writeBusFrame (replyFrame r) hrow (show 3 < 256 by decide) hbody
  have hread := readEvents_flatMap hevents []
  rw [List.append_nil] at hread
  have hcount' : r.events.length < 256 := by omega
  rw [readRowReply, hframe]
  simp [replyFrame, readNumber_bytesOf hbatch, readByte_bytesOf hcount', Nat.not_lt.2 hcount, hread]

/-! ## Journal line records (11.8.2) -/

/-- A reader that has succeeded hands its value on. -/
theorem bind_of_eq_some {α β : Type} {r : Option α} {a : α} (h : r = some a) (f : α → Option β) :
    (r >>= f) = f a := by
  rw [h]
  rfl

theorem lineKindOf_code (k : LineKind) : lineKindOf (lineKindCode k) = some k := by cases k <;> rfl

theorem lineKindCode_lt (k : LineKind) : lineKindCode k < 256 := by cases k <;> decide

theorem absentIfZero_orZero {b : Option Nat} (h : ∀ n, b = some n → 0 < n ∧ n < x) : absentIfZero (orZero b) = b := by
  cases b with
  | none => rfl
  | some n => exact if_neg (h n rfl).1.ne'

theorem orZero_lt {b : Option Nat} (h : ∀ n, b = some n → 0 < n ∧ n < x) (hx : 0 < x) : orZero b < x := by
  cases b with
  | none => exact hx
  | some n => exact (h n rfl).2

theorem deskNumbered_orZero (b : Option DeskId) : deskNumbered (orZero (b.map numberOf)) = b := by
  cases b with
  | none => rfl
  | some d => exact deskNumbered_numberOf d

theorem desk_orZero_lt (b : Option DeskId) : orZero (b.map numberOf) < 256 ^ 2 := by
  cases b with
  | none => decide
  | some d =>
    show d.val + 1 < 65536
    omega

section
variable (l : JournalLine)

theorem lineFlags_lt : lineFlags l < 256 := by
  unfold lineFlags flagBit
  split_ifs <;> decide

theorem bitOf_lineFlags : bitOf 1 (lineFlags l) = l.stampValid ∧ bitOf 2 (lineFlags l) = l.voided ∧
    bitOf 4 (lineFlags l) = decide (l.cause = some .withdrawn) := by
  unfold lineFlags flagBit
  cases l.stampValid <;> cases l.voided <;> by_cases h : l.cause = some .withdrawn <;> simp [h, bitOf]

/-- Only a NO_SALE line has a cause, and its flag names it (R148). -/
theorem cause_read (h : l.cause.isSome ↔ l.kind = .noSale) :
    (if l.kind = .noSale then some (if decide (l.cause = some .withdrawn) = true then NoSaleCause.withdrawn else .reserve)
      else none) = l.cause := by
  cases hc : l.cause with
  | none => simp [← h, hc]
  | some x =>
    have hk : l.kind = .noSale := h.1 (by simp [hc])
    cases x <;> simp [hk]

end

theorem readStamp_stampBytes {t : Stamp} (hyear : t.year < 256 ^ 2) (hmonth : t.month < 256) (hday : t.day < 256)
    (hhour : t.hour < 256) (hminute : t.minute < 256) (hsecond : t.second < 256) (hhundredth : t.hundredth < 256)
    (l : List Byte) : readStamp (stampBytes t ++ l) = some (t, l) := by
  simp [readStamp, stampBytes, readNumber_bytesOf hyear, readByte_bytesOf hmonth, readByte_bytesOf hday,
    readByte_bytesOf hhour, readByte_bytesOf hminute, readByte_bytesOf hsecond, readByte_bytesOf hhundredth]

theorem writeLineRecord_length (l : JournalLine) : (writeLineRecord l).length = 56 := by
  simp [writeLineRecord, stampBytes]

theorem readLineRecord_writeLineRecord {l : JournalLine} (h : LineFits l) (rest : List Byte) :
    readLineRecord (writeLineRecord l ++ rest) = some (l, rest) := by
  obtain ⟨hsequence, hyear, hmonth, hday, hhour, hminute, hsecond, hhundredth, hrun, hlot, hbuyer, hinvoice, hvoided,
    hpacks, hunits, hprice, hamount, hlevy, hdebit, hcause⟩ := h
  obtain ⟨hvalid, hvoid, hwithdrawn⟩ := bitOf_lineFlags l
  have hclock : numberOf l.clock < 256 := by
    show l.clock.val + 1 < 256
    omega
  have hstamp := fun m => readStamp_stampBytes hyear hmonth hday hhour hminute hsecond hhundredth m
  have hb : orZero l.buyer < 256 ^ 2 := orZero_lt hbuyer (Nat.pow_pos (by decide))
  have hi : orZero l.invoice < 256 ^ 4 := orZero_lt hinvoice (Nat.pow_pos (by decide))
  have hv : orZero l.voidedSequence < 256 ^ 4 := orZero_lt hvoided (Nat.pow_pos (by decide))
  have hfields : readLineRecord (writeLineRecord l ++ rest) = some ({ l with
      stampValid := bitOf 1 (lineFlags l), buyer := absentIfZero (orZero l.buyer)
      desk := deskNumbered (orZero (l.desk.map numberOf)), invoice := absentIfZero (orZero l.invoice)
      voidedSequence := absentIfZero (orZero l.voidedSequence), voided := bitOf 2 (lineFlags l)
      cause := if l.kind = .noSale then some (if bitOf 4 (lineFlags l) then .withdrawn else .reserve) else none },
      rest) := by
    simp only [writeLineRecord, List.append_assoc]
    exact (bind_of_eq_some (readNumber_bytesOf hsequence _) _).trans <|
      (bind_of_eq_some (readByte_bytesOf (lineKindCode_lt l.kind) _) _).trans <|
      (bind_of_eq_some (lineKindOf_code l.kind) _).trans <|
      (bind_of_eq_some (readByte_bytesOf (lineFlags_lt l) _) _).trans <|
      (bind_of_eq_some (hstamp _) _).trans <|
      (bind_of_eq_some (readByte_bytesOf hclock _) _).trans <|
      (bind_of_eq_some (clockNumbered_numberOf l.clock) _).trans <|
      (bind_of_eq_some (readByte_bytesOf hrun _) _).trans <|
      (bind_of_eq_some (readNumber_bytesOf hlot _) _).trans <|
      (bind_of_eq_some (readNumber_bytesOf hb _) _).trans <|
      (bind_of_eq_some (readNumber_bytesOf (desk_orZero_lt l.desk) _) _).trans <|
      (bind_of_eq_some (readNumber_bytesOf hi _) _).trans <|
      (bind_of_eq_some (readNumber_bytesOf hv _) _).trans <|
      (bind_of_eq_some (readNumber_bytesOf hpacks _) _).trans <|
      (bind_of_eq_some (readNumber_bytesOf hunits _) _).trans <|
      (bind_of_eq_some (readNumber_bytesOf hprice _) _).trans <|
      (bind_of_eq_some (readNumber_bytesOf hamount _) _).trans <|
      (bind_of_eq_some (readNumber_bytesOf hlevy _) _).trans <|
      bind_of_eq_some (readNumber_bytesOf hdebit _) _
  rw [hfields, hvalid, hvoid, hwithdrawn, cause_read l hcause, absentIfZero_orZero hbuyer, absentIfZero_orZero hinvoice,
    absentIfZero_orZero hvoided, deskNumbered_orZero]

/-- Settles O60: what each writer puts down its reader takes off the front again; the check value by evaluation. -/
theorem framesReadBack : Obligations.FramesReadBack := by
  unfold Obligations.FramesReadBack
  exact ⟨fun _ h => readRowReply_replyFrame h, readHostFrame_writeHostFrame, by decide +kernel,
    fun l rest h => ⟨writeLineRecord_length l, readLineRecord_writeLineRecord h rest⟩⟩

end Sys2Proof.Machine
end

section
/-! Stop decisions (chapter 6): the head of a collection offered as its window ends (R112, R114), and a candidate
refused, with the next one offered behind it or the clock back in RUNNING or HELD (R116, R117, R120). -/

set_option Elab.async false

namespace Sys2Proof.Machine

open Sys2Proof.Safety

variable {s : State} {c : ClockId} {d : DeskId} {r : CommitRequest} {x : CommitRefusal} {n : Nat}

/-! ## The end of the window (R112, R114) -/

theorem exec_windowExpiry {e : Nat} (h : s.hall.main = .present) (hst : (s.clock c).state = .stopping)
    (he : (s.clock c).windowEnds = some e) : exec (.windowExpiry c) s = .next (enterDeciding c (s.reach e)) := by
  refine (congrArg Host.Outcome.next (whenPowered_present h _)).trans ?_
  simp only [hst, he]

/-- The clock in DECIDING, its candidate not yet placed (R112). -/
def toDeciding (c : ClockId) (s : State) : State :=
  s.setClock c { s.clock c with state := .deciding, windowEnds := none }

theorem enterDeciding_places {p : Press} {rest : List Press} (hc : (s.clock c).collection = p :: rest)
    (hn : (s.clock c).lot = some n) :
    enterDeciding c s = serveWaiting ((toDeciding c s).setArbiter { s.ledger.arbiter with
      commits := s.ledger.arbiter.commits.set c
        (some { lot := n, desk := p.desk, packs := p.packs, step := p.step }) }) := by
  have placed := placeCommit_first (s := toDeciding c s) (c := c) (x := p) (l := rest) (n := n)
    (by simp [toDeciding, hc]) (by simp [toDeciding, hn])
  exact congrArg serveWaiting placed

/-- What the candidate is judged on does not change as the clock enters DECIDING. -/
theorem judgeCommit_toDeciding_reach (e : Nat) : judgeCommit (toDeciding c (s.reach e)) c r = judgeCommit s c r :=
  judgeCommit_congr rfl rfl rfl (by simp [toDeciding]) (by simp [toDeciding])

/-- Settles O28: the candidate placed waits behind an operation in progress, and is served where nothing else is. -/
theorem windowEndsInDeciding : Obligations.WindowEndsInDeciding := by
  unfold Obligations.WindowEndsInDeciding
  intro c e n p rest s hmain hst he hc hn
  have placed := (exec_windowExpiry hmain hst he).trans
    (congrArg _ (enterDeciding_places (s := s.reach e) (c := c) hc hn))
  refine ⟨fun op hop => ?busy, fun hprog ⟨hrequests, hcommits⟩ hreset => ?served⟩
  case busy =>
    exact placed.trans (congrArg _ (serveWaiting_busy (op := op) hop))
  case served =>
    have served := serveWaiting_only (s := toDeciding c (s.reach e)) (c := c)
      (r := { lot := n, desk := p.desk, packs := p.packs, step := p.step }) hprog hreset hmain hcommits
    rw [judgeCommit_toDeciding_reach] at served
    exact ⟨_, placed.trans (congrArg _ served), rfl, rfl, rfl, hcommits, hrequests, rfl, rfl, rfl, rfl, rfl, rfl, rfl,
      rfl⟩

/-! ## The refusal of a candidate (R116, R117, R142) -/

/-- A report raised changes the report queue alone. -/
theorem raise_eq_hlp (b : ReportBody) (s : State) :
    ∃ h : HostLink, h.resetting = s.hlp.resetting ∧ raise b s = { s with hlp := h } := by
  refine ⟨(raise b s).hlp, raise_hlp_resetting .., ?_⟩
  unfold raise
  split
  · split <;> rfl
  · rfl

theorem reportCredit_eq_hlp (c : ClockId) (r : CommitRequest) (x : CommitRefusal) (s : State) :
    ∃ h : HostLink, h.resetting = s.hlp.resetting ∧ reportCredit c r x s = { s with hlp := h } := by
  cases x with
  | credit f => exact raise_eq_hlp _ s
  | notSigned | blocked | notPermitted | invoiceFull => exact ⟨s.hlp, rfl, rfl⟩

/-- The desk told of a refused press and its lamp pulsed: the bus alone changes, and no tick of it. -/
theorem pulseRefused_refusePress_eq_bus (d : DeskId) (reason : DeskRefusal) (c : ClockId) (s : State) :
    ∃ b : DeskBus, b.ticks = s.bus.ticks ∧ pulseRefused d (refusePress d reason c s) = { s with bus := b } := by
  cases reason <;> exact ⟨(pulseRefused d (refusePress d _ c s)).bus, rfl, rfl⟩

theorem pulseRefused_refusePress_desk_self {reason : DeskRefusal} :
    (pulseRefused d (refusePress d reason c s)).desk d = { s.desk d with
      refused := pulseLamp (s.desk d).refused
      lastRefusal := some { reason := reason, clock := some c, lot := (s.clock c).lot } } := by
  rw [pulseRefused, State.setDesk_desk_self, refusePress, State.setDesk_desk_self, countRefused_desk,
    countRefused_clock]

theorem pulseRefused_refusePress_desk_ne {reason : DeskRefusal} {d' : DeskId} (h : d' ≠ d) :
    (pulseRefused d (refusePress d reason c s)).desk d' = s.desk d' := by
  rw [pulseRefused, State.setDesk_desk_ne _ h, refusePress, State.setDesk_desk_ne _ h, countRefused_desk]

/-- A refused candidate with nothing left in progress: the refusal counted, the candidate off its collection, its desk
told and pulsed, and a CREDIT refusal reported. -/
def candidateRefused (c : ClockId) (r : CommitRequest) (x : CommitRefusal) (s : State) : State :=
  reportCredit c r x (pulseRefused r.desk (refusePress r.desk (refusalReason x) c
    ((countRefusal x (free s)).setClock c { s.clock c with collection := (s.clock c).collection.tail })))

/-- The refusal reaches the arbiter's progress, the counters, the collection, the report queue and the desks. -/
theorem candidateRefused_eq (c : ClockId) (r : CommitRequest) (x : CommitRefusal) (s : State) :
    ∃ (f : LedgerCounters → LedgerCounters) (h : HostLink) (b : DeskBus),
      h.resetting = s.hlp.resetting ∧ b.ticks = s.bus.ticks ∧
      candidateRefused c r x s = { ((free s).count f).setClock c { s.clock c with
        collection := (s.clock c).collection.tail } with hlp := h, bus := b } := by
  obtain ⟨b, hb, hdesk⟩ := pulseRefused_refusePress_eq_bus r.desk (refusalReason x) c
    ((countRefusal x (free s)).setClock c { s.clock c with collection := (s.clock c).collection.tail })
  obtain ⟨h, hh, hreport⟩ := reportCredit_eq_hlp c r x { (countRefusal x (free s)).setClock c { s.clock c with
    collection := (s.clock c).collection.tail } with bus := b }
  exact ⟨_, h, b, hh, hb, by rw [candidateRefused, hdesk, hreport]; rfl⟩

@[simp] theorem candidateRefused_clock_self :
    (candidateRefused c r x s).clock c = { s.clock c with collection := (s.clock c).collection.tail } := by
  obtain ⟨f, h, b, -, -, e⟩ := candidateRefused_eq c r x s
  rw [e]
  exact State.setClock_clock_self ..

theorem candidateRefused_bus : (candidateRefused c r x s).bus =
    (pulseRefused r.desk (refusePress r.desk (refusalReason x) c ((countRefusal x (free s)).setClock c
      { s.clock c with collection := (s.clock c).collection.tail }))).bus := by
  obtain ⟨h, -, hreport⟩ := reportCredit_eq_hlp c r x _
  rw [candidateRefused, hreport]

theorem desk_congr {t : State} (h : t.bus = s.bus) : t.desk d = s.desk d := by rw [State.desk, State.row, h]; rfl

theorem candidateRefused_desk_self : (candidateRefused c r x s).desk r.desk = { s.desk r.desk with
    refused := pulseLamp (s.desk r.desk).refused
    lastRefusal := some { reason := refusalReason x, clock := some c, lot := (s.clock c).lot } } := by
  rw [desk_congr candidateRefused_bus, pulseRefused_refusePress_desk_self, State.setClock_clock_self]
  rfl

theorem candidateRefused_desk_ne (h : d ≠ r.desk) : (candidateRefused c r x s).desk d = s.desk d := by
  rw [desk_congr candidateRefused_bus, pulseRefused_refusePress_desk_ne h]
  rfl

/-! ## What the clock does next (R69, R72, R116, R120) -/

/-- The clock's next move after a refusal: its next candidate placed, or every candidate refused. -/
def offerNext (c : ClockId) (s : State) : State :=
  if (s.clock c).collection.isEmpty then allRefused c s else placeCommit c s

/-- The clock's part in a refusal: the candidate answered, then the next move (R116). -/
theorem clockRefused_eq : clockRefused c r x (countRefusal x (free s)) = offerNext c (candidateRefused c r x s) := rfl

theorem allRefused_running (h : (s.clock c).holdPending = none) : (allRefused c s).clocks =
    s.clocks.set c { s.clock c with
      state := .running, stepTimer := .running (s.timebase + periodOf (s.clock c).params (s.clock c).k) } := by
  simp [allRefused, h, startStep]

theorem allRefused_held {cause : HoldCause} (h : (s.clock c).holdPending = some cause) :
    (allRefused c s).clocks = s.clocks.set c (heldForm (s.clock c)) := by
  simp only [allRefused, h, enterHeld_clocks]

/-- Back in RUNNING or HELD without a tick, and without a change to ledger, lots or hall (R120). -/
theorem allRefused_frame (c : ClockId) (s : State) :
    (allRefused c s).bus = s.bus ∧ (allRefused c s).ledger = s.ledger ∧ (allRefused c s).lots = s.lots ∧
      (allRefused c s).hall = s.hall ∧ (allRefused c s).hlp.resetting = s.hlp.resetting := by
  unfold allRefused
  split
  · simp [enterHeld]
  · simp

theorem placeCommit_eq_setArbiter (c : ClockId) (s : State) : ∃ a, placeCommit c s = s.setArbiter a := by
  unfold placeCommit
  split
  · exact ⟨_, rfl⟩
  · exact ⟨s.ledger.arbiter, rfl⟩

theorem offerNext_frame (c : ClockId) (s : State) :
    (offerNext c s).bus = s.bus ∧ (offerNext c s).hlp.resetting = s.hlp.resetting := by
  unfold offerNext
  split
  · obtain ⟨hbus, -, -, -, hreset⟩ := allRefused_frame c s
    exact ⟨hbus, hreset⟩
  · obtain ⟨a, ha⟩ := placeCommit_eq_setArbiter c s
    rw [ha]
    exact ⟨rfl, rfl⟩

/-- With no reset under way a completion that chose nothing serves what its event has placed. -/
theorem afterCompletion_serves (h : s.hlp.resetting = none) : afterCompletion .nothing s = serveWaiting s := by
  obtain ⟨a, ha⟩ := serveWaiting_eq_setArbiter s
  show continueReset (serveWaiting s) = _
  rw [ha]
  simp [continueReset, h]

theorem exec_saleCommitComplete {a : CommitAnswer} (h : s.ledger.arbiter.inProgress = some (.commit c r a)) :
    exec .saleCommitComplete s = .next (completeCommit c r a s) := by
  show execSaleCommitComplete s = _
  rw [execSaleCommitComplete, h]

section
variable (hmain : s.hall.main = .present) (hwaits : NothingWaits s) (hreset : s.hlp.resetting = none)
  (hop : s.ledger.arbiter.inProgress = some (.commit c r (.refused x)))
include hmain hwaits hreset hop

theorem exec_saleCommitComplete_refused :
    exec .saleCommitComplete s = .next (serveWaiting (offerNext c (candidateRefused c r x s))) := by
  obtain ⟨f, h, b, hh, -, e⟩ := candidateRefused_eq c r x s
  have hnone : (offerNext c (candidateRefused c r x s)).hlp.resetting = none := by
    rw [(offerNext_frame c _).2, e]
    exact hh.trans hreset
  have complete : completeCommit c r (.refused x) s =
      afterCompletion (choiceNow (free s)) (offerNext c (candidateRefused c r x s)) := by
    have hmain' : (clearProgress s).hall.main = .present := hmain
    simp only [completeCommit, hmain', ← clockRefused_eq]
    rfl
  rw [exec_saleCommitComplete hop, complete, choiceNow_nothing (s := free s) hwaits, afterCompletion_serves hnone]

/-- The last candidate refused. -/
theorem exec_saleCommitComplete_last {p : Press} (hc : (s.clock c).collection = [p]) :
    exec .saleCommitComplete s = .next (allRefused c (candidateRefused c r x s)) := by
  obtain ⟨f, h, b, -, -, e⟩ := candidateRefused_eq c r x s
  obtain ⟨-, hledger, -, -, -⟩ := allRefused_frame c (candidateRefused c r x s)
  have next : offerNext c (candidateRefused c r x s) = allRefused c (candidateRefused c r x s) := by
    simp [offerNext, hc]
  have nothing : choose (allRefused c (candidateRefused c r x s)).ledger.arbiter = .nothing := by
    rw [hledger, e]
    exact choose_nothing hwaits.1 hwaits.2
  rw [exec_saleCommitComplete_refused hmain hwaits hreset hop, next]
  simp [serveWaiting, serveChoice, nothing]

/-- A candidate refused with another behind it: the commit of that one is served at once (R116). -/
theorem exec_saleCommitComplete_more {p q : Press} {rest : List Press} (hc : (s.clock c).collection = p :: q :: rest)
    (hn : (s.clock c).lot = some n) :
    exec .saleCommitComplete s = .next ((candidateRefused c r x s).setArbiter
      { (candidateRefused c r x s).ledger.arbiter with
        inProgress := some (.commit c { lot := n, desk := q.desk, packs := q.packs, step := q.step }
          (judgeCommit (candidateRefused c r x s) c { lot := n, desk := q.desk, packs := q.packs, step := q.step }))
        lastServed := c }) := by
  obtain ⟨f, h, b, hh, -, e⟩ := candidateRefused_eq c r x s
  have next : offerNext c (candidateRefused c r x s) = placeCommit c (candidateRefused c r x s) := by
    simp [offerNext, hc]
  rw [exec_saleCommitComplete_refused hmain hwaits hreset hop, next, placeCommit_first (x := q) (l := rest) (n := n)
    (by simp [hc]) (by simp [hn]), serveWaiting_only]
  all_goals rw [e]
  exacts [rfl, hh.trans hreset, hmain, hwaits.2]

end

/-- Settles O44: the desk is answered whatever the clock does next; nothing of the records is reached by either. -/
theorem saleCommitRefused : Obligations.SaleCommitRefused := by
  unfold Obligations.SaleCommitRefused
  intro c r x p s hmain hwaits hreset hop
  obtain ⟨f, h, b, -, hticks, e⟩ := candidateRefused_eq c r x s
  obtain ⟨hbus, hledger, hlots, hhall, -⟩ := allRefused_frame c (candidateRefused c r x s)
  have told : ((candidateRefused c r x s).desk r.desk).lastRefusal =
      some { reason := refusalReason x, clock := some c, lot := (s.clock c).lot } := by rw [candidateRefused_desk_self]
  have toldLast := (congrArg Desk.lastRefusal (desk_congr hbus)).trans told
  have kept : let t := allRefused c (candidateRefused c r x s)
      t.ledger.buyers = s.ledger.buyers ∧ t.ledger.invoices = s.ledger.invoices ∧
      t.ledger.journal = s.ledger.journal ∧ t.lots = s.lots ∧ t.bus.ticks = s.bus.ticks ∧ t.hall = s.hall := by
    intro t
    rw [hledger, hlots, hbus, hhall, e]
    exact ⟨rfl, rfl, rfl, rfl, hticks, rfl⟩
  refine ⟨fun t ht _ => ?desks, fun hc hh => ?running, fun cause hc hh => ?held, fun q rest n hc hn => ?more⟩
  case desks =>
    obtain ⟨a, ha⟩ := serveWaiting_eq_setArbiter (offerNext c (candidateRefused c r x s))
    rw [exec_saleCommitComplete_refused hmain hwaits hreset hop, ha] at ht
    obtain rfl := Host.Outcome.next.inj ht
    have desk (d : DeskId) : (offerNext c (candidateRefused c r x s)).desk d = (candidateRefused c r x s).desk d :=
      desk_congr (offerNext_frame c _).1
    exact ⟨(desk _).trans candidateRefused_desk_self, fun d hd => (desk d).trans (candidateRefused_desk_ne hd)⟩
  case running =>
    refine ⟨_, exec_saleCommitComplete_last hmain hwaits hreset hop hc, ?_, toldLast, kept⟩
    rw [allRefused_running (by simpa using hh), candidateRefused_clock_self, e]
    simp [hc, free]
  case held =>
    refine ⟨_, exec_saleCommitComplete_last hmain hwaits hreset hop hc, ?_, toldLast, kept⟩
    rw [allRefused_held (by simpa using hh), candidateRefused_clock_self, e]
    simp [hc, heldForm, free]
  case more =>
    refine ⟨_, _, exec_saleCommitComplete_more hmain hwaits hreset hop hc hn, rfl, told, ?_⟩
    rw [e]
    exact ⟨by simp [hc, free], rfl, rfl, rfl, rfl, rfl⟩

end Sys2Proof.Machine
end

section
/-! What the ledger holds for good: the tables that a supply failure leaves, and the arbiter. The moves of the clocks reach
the lot marks, the deferred requests and the clock's own waiting commit, and no more of these records. -/

set_option Elab.async false

namespace Sys2Proof.Machine

open Sys2Proof.Safety

variable {s t : State} {c : ClockId} {d : DeskId} {n : Nat}

/-- The ledger's retained tables and numbers (R144, R166). -/
structure Tables where
  buyers : List Buyer
  tariff : Vector Nat 8
  invoices : List Invoice
  nextInvoice : Nat
  lines : List JournalLine
  lastWritten : Nat
  lastReleased : Nat

/-- The retained tables and numbers of a ledger. -/
def tablesOf (l : Ledger) : Tables :=
  { buyers := l.buyers, tariff := l.tariff, invoices := l.invoices, nextInvoice := l.nextInvoice,
    lines := l.journal.lines, lastWritten := l.journal.lastWritten, lastReleased := l.journal.lastReleased }

/-- What the moves of the clocks leave of a ledger: its tables and its arbiter. -/
def recordsOf (l : Ledger) : Tables × Arbiter := (tablesOf l, l.arbiter)

/-! ## Reservations and the run (R64 to R66) -/

@[simp] theorem recordsOf_defer : recordsOf (defer c s).ledger = recordsOf s.ledger := by
  unfold defer
  split <;> rfl

@[simp] theorem recordsOf_leaveLoaded : recordsOf (leaveLoaded c s).ledger = recordsOf s.ledger := rfl

@[simp] theorem recordsOf_setLotMark {m : Option Nat} : recordsOf (setLotMark c m s).ledger = recordsOf s.ledger := rfl

@[simp] theorem recordsOf_runClock : recordsOf (runClock c s).ledger = recordsOf s.ledger := by simp [runClock]

@[simp] theorem recordsOf_testNew : recordsOf (testNew c s).ledger = recordsOf s.ledger := by
  unfold testNew
  split_ifs <;> simp

@[simp] theorem recordsOf_testRestart : recordsOf (testRestart c s).ledger = recordsOf s.ledger := by
  unfold testRestart
  split
  · simp
  · split <;> simp

@[simp] theorem recordsOf_askRestart : recordsOf (askRestart c s).ledger = recordsOf s.ledger := by
  unfold askRestart
  split_ifs <;> simp

@[simp] theorem recordsOf_tellClock : recordsOf (tellClock c s).ledger = recordsOf s.ledger := by
  unfold tellClock
  split
  · simp
  · split <;> simp
  · rfl

@[simp] theorem recordsOf_tellSpace : recordsOf (tellSpace c s).ledger = recordsOf s.ledger := by
  unfold tellSpace
  split
  · simp
  · split <;> simp
  · rfl

@[simp] theorem recordsOf_releaseDeferred : recordsOf (releaseDeferred c s).ledger = recordsOf s.ledger := by
  unfold releaseDeferred
  split
  · simp
  · split <;> simp
  · rfl

/-- An operation made on every clock leaves the records where it leaves them on each. -/
theorem recordsOf_eachClock {f : ClockId → State → State}
    (hf : ∀ c s, recordsOf (f c s).ledger = recordsOf s.ledger) :
    recordsOf (eachClock f s).ledger = recordsOf s.ledger := by
  simp only [eachClock, hf]

theorem recordsOf_foldl {α : Type} {f : State → α → State}
    (hf : ∀ a s, recordsOf (f s a).ledger = recordsOf s.ledger) (l : List α) :
    recordsOf (l.foldl f s).ledger = recordsOf s.ledger := by
  induction l generalizing s with
  | nil => rfl
  | cons a l ih => exact ih.trans (hf a s)

@[simp] theorem recordsOf_releaseAllDeferred : recordsOf (releaseAllDeferred s).ledger = recordsOf s.ledger :=
  recordsOf_foldl (fun _ _ => recordsOf_releaseDeferred) _

/-! ## Lots taken and ended, trading close (R62, R70, R71, R77) -/

@[simp] theorem recordsOf_takeLot {l : Lot} : recordsOf (takeLot c l s).ledger = recordsOf s.ledger := by
  rw [takeLot_ledger]
  rfl

@[simp] theorem recordsOf_endLot {cause : LotEndCause} : recordsOf (endLot c cause s).ledger = recordsOf s.ledger := by
  unfold endLot
  split <;> simp

@[simp] theorem recordsOf_restartClock : recordsOf (restartClock c s).ledger = recordsOf s.ledger := by
  simp only [restartClock]
  split <;> simp

@[simp] theorem recordsOf_closeClock : recordsOf (closeClock c s).ledger = recordsOf s.ledger := by
  obtain ⟨m, deferred, -, h⟩ := closeClock_ledger c s
  rw [h]
  rfl

@[simp] theorem recordsOf_goodAnswer : recordsOf (goodAnswer c s).ledger = recordsOf s.ledger := by
  simp only [goodAnswer]
  split <;> simp

/-! ## The clock's part in a completion (R114, R116 to R120) -/

@[simp] theorem recordsOf_continueReset : recordsOf (continueReset s).ledger = recordsOf s.ledger := by
  unfold continueReset
  split <;> rfl

/-- A ledger's tables, with its arbiter as a clock's own commit is placed or taken away. -/
def recordsWith (c : ClockId) (w : Option CommitRequest) (l : Ledger) : Tables × Arbiter :=
  (tablesOf l, { l.arbiter with commits := l.arbiter.commits.set c w })

theorem recordsWith_get (l : Ledger) (c : ClockId) : recordsWith c (l.arbiter.commits.get c) l = recordsOf l := by
  rw [recordsWith, vector_set_get]
  rfl

/-- The commit that a clock places reaches the waiting commits alone. -/
theorem placeCommit_records (c : ClockId) (s : State) :
    ∃ w, recordsOf (placeCommit c s).ledger = recordsWith c w s.ledger := by
  unfold placeCommit
  split
  · exact ⟨_, rfl⟩
  · exact ⟨_, (recordsWith_get ..).symm⟩

theorem reportCredit_ledger {r : CommitRequest} {x : CommitRefusal} : (reportCredit c r x s).ledger = s.ledger := by
  obtain ⟨h, -, e⟩ := reportCredit_eq_hlp c r x s
  rw [e]

theorem offerNext_records (c : ClockId) (s : State) :
    ∃ w, recordsOf (offerNext c s).ledger = recordsWith c w s.ledger := by
  unfold offerNext
  split
  · exact ⟨_, (congrArg recordsOf (allRefused_frame c s).2.1).trans (recordsWith_get ..).symm⟩
  · exact placeCommit_records c s

@[simp] theorem recordsOf_clockAccepted {r : CommitRequest} {f : SaleFigures} {seq : Nat} :
    recordsOf (clockAccepted c r f seq s).ledger = recordsOf s.ledger := by
  have outbid : ∀ (l : List Press) (t : State),
      recordsOf (l.foldl (fun s p => refusePress p.desk .outbid c s) t).ledger = recordsOf t.ledger :=
    fun l t => recordsOf_foldl (fun p s => by simp) l
  simp only [clockAccepted]
  split
  · simp [outbid]
  · split <;> simp [outbid, enterSold]

/-- What the clock does with an answer reaches, of the records, its own waiting commit alone. -/
theorem clockAnswered_records (c : ClockId) (r : CommitRequest) (a : CommitAnswer) (s : State) :
    ∃ w, recordsOf (clockAnswered c r a s).ledger = recordsWith c w s.ledger := by
  cases a with
  | accepted f => exact ⟨_, recordsOf_clockAccepted.trans (recordsWith_get ..).symm⟩
  | refused x =>
    have answered : ∀ t : State, (reportCredit c r x (pulseRefused r.desk (refusePress r.desk (refusalReason x) c
        t))).ledger = t.ledger := fun t => by rw [reportCredit_ledger, pulseRefused_ledger, refusePress_ledger]
    obtain ⟨w, hw⟩ := offerNext_records c (reportCredit c r x (pulseRefused r.desk (refusePress r.desk
      (refusalReason x) c (s.setClock c { s.clock c with collection := (s.clock c).collection.tail }))))
    rw [answered] at hw
    exact ⟨w, hw⟩

end Sys2Proof.Machine
end

section
/-! SALE-COMMIT judged (R49 to R53, R138): the largest quantity whose debit fits, and the five checks in their order. -/

set_option Elab.async false

namespace Sys2Proof.Machine

open Sys2Proof.Safety

variable {s : State} {c : ClockId} {r : CommitRequest} {f : SaleFigures} {b : Buyer} {l : Lot} {p n : Nat}

/-! ## The largest quantity that fits (R53) -/

section
variable {debit : Nat → Nat} {available least : Nat}

theorem affordable_eq_some {q : Nat} (h : affordable debit available least q = some n) :
    least ≤ n ∧ n ≤ q ∧ debit n ≤ available ∧ ∀ k, n < k → k ≤ q → available < debit k := by
  induction q with
  | zero =>
    rw [affordable] at h
    split at h
    · next hfit =>
      obtain rfl := Option.some.inj h
      exact ⟨hfit.1.le, le_rfl, hfit.2, by omega⟩
    · cases h
  | succ q ih =>
    rw [affordable] at h
    split at h
    · cases h
    · split at h
      · next hleast hfit =>
        obtain rfl := Option.some.inj h
        exact ⟨by omega, le_rfl, hfit, by omega⟩
      · next hleast hdear =>
        obtain ⟨hn, hnq, hfit, hrest⟩ := ih h
        refine ⟨hn, by omega, hfit, fun k hk hkq => ?_⟩
        rcases Nat.le_succ_iff.1 hkq with hkq | rfl
        · exact hrest k hk hkq
        · exact Nat.lt_of_not_le hdear

theorem affordable_eq_none {q : Nat} (h : affordable debit available least q = none) :
    ∀ k, least ≤ k → k ≤ q → available < debit k := by
  induction q with
  | zero =>
    rw [affordable] at h
    split at h
    · cases h
    · next hfit =>
      intro k hk hk0
      obtain rfl : k = 0 := Nat.le_zero.1 hk0
      exact Nat.lt_of_not_le fun hle => hfit ⟨Nat.le_zero.1 hk, hle⟩
  | succ q ih =>
    rw [affordable] at h
    intro k hk hkq
    split at h
    · next hleast => omega
    · split at h
      · cases h
      · next hdear =>
        rcases Nat.le_succ_iff.1 hkq with hkq | rfl
        · exact ih h k hk hkq
        · exact Nat.lt_of_not_le hdear

end

/-! ## The check of the credit (R49 to R53, check 5 of R138) -/

theorem judgeCredit_accepted {price rate requested : Nat} (h : judgeCredit b l price rate requested = .accepted f) :
    affordable (debitOf price l.unitsPerPack rate) (availableCredit b) l.minTake
      (clampPacks requested l.packsRemaining l.minTake) = some f.packs ∧
    f = { buyer := b.number, price := price, units := l.unitsPerPack,
          quantity := clampPacks requested l.packsRemaining l.minTake, packs := f.packs,
          amount := amountOf price l.unitsPerPack f.packs, levy := levyOf rate (amountOf price l.unitsPerPack f.packs),
          debit := debitOf price l.unitsPerPack rate f.packs } := by
  simp only [judgeCredit] at h
  split at h
  · next packs hpacks =>
    obtain rfl := CommitAnswer.accepted.inj h
    exact ⟨hpacks, rfl⟩
  · cases h

/-- Some quantity fits: the sale is accepted. -/
theorem judgeCredit_fits {price rate requested : Nat} (hn : l.minTake ≤ n)
    (hq : n ≤ clampPacks requested l.packsRemaining l.minTake)
    (hfit : debitOf price l.unitsPerPack rate n ≤ availableCredit b) :
    ∃ f, judgeCredit b l price rate requested = .accepted f := by
  simp only [judgeCredit]
  split
  · exact ⟨_, rfl⟩
  · next hnone => exact absurd hfit (Nat.not_le.2 (affordable_eq_none hnone n hn hq))

/-- No quantity fits: the refusal carries its figures (R117). -/
theorem judgeCredit_refuses {price rate requested : Nat}
    (h : ∀ n, l.minTake ≤ n → n ≤ clampPacks requested l.packsRemaining l.minTake →
      availableCredit b < debitOf price l.unitsPerPack rate n) :
    judgeCredit b l price rate requested = .refused (.credit
      { buyer := b.number, price := price, quantity := clampPacks requested l.packsRemaining l.minTake,
        minTakeDebit := debitOf price l.unitsPerPack rate l.minTake, available := availableCredit b }) := by
  simp only [judgeCredit]
  split
  · next packs hpacks =>
    obtain ⟨hleast, hmost, hfit, -⟩ := affordable_eq_some hpacks
    exact absurd hfit (Nat.not_le.2 (h packs hleast hmost))
  · rfl

/-! ## The five checks in their order (R138) -/

/-- The buyer has an open invoice or finds a slot free (check 4 of R138). -/
abbrev InvoiceRoom (s : State) (b : Buyer) : Prop := b.openInvoice ≠ none ∨ s.ledger.invoices.length < 4096

/-- Checks 1 to 4 passed, the credit decides. -/
theorem judgeCommit_passed (hb : (s.desk r.desk).binding.bind s.buyer = some b) (hblocked : b.flags.blocked = false)
    (hpermit : b.flags.permit.get c = true) (hroom : InvoiceRoom s b) (hl : s.lot r.lot = some l)
    (hp : (s.clock c).startPrice = some p) :
    judgeCommit s c r =
      judgeCredit b l (priceAt p r.step (stepSizeOf l (s.clock c).params)) (rateOf s b.feeClass) r.packs := by
  have hfull : ¬ (b.openInvoice = none ∧ Config.invoiceSlots ≤ s.ledger.invoices.length) := fun ⟨hnone, hle⟩ =>
    hroom.elim (· hnone) (Nat.not_lt.2 hle)
  simp [judgeCommit, hb, hblocked, hpermit, hfull, hl, hp]

/-- A SALE-COMMIT judged accepted has passed the five checks. -/
theorem judgeCommit_accepted (h : judgeCommit s c r = .accepted f) :
    ∃ b l p, (s.desk r.desk).binding.bind s.buyer = some b ∧ s.lot r.lot = some l ∧
      (s.clock c).startPrice = some p ∧ b.flags.blocked = false ∧ b.flags.permit.get c = true ∧ InvoiceRoom s b ∧
      judgeCredit b l (priceAt p r.step (stepSizeOf l (s.clock c).params)) (rateOf s b.feeClass) r.packs =
        .accepted f := by
  unfold judgeCommit at h
  split at h
  · cases h
  · next b hb =>
    split at h
    · cases h
    · next hblocked =>
      split at h
      · cases h
      · next hpermit =>
        split at h
        · cases h
        · next hfull =>
          split at h
          · next l p hl hp =>
            have hroom : InvoiceRoom s b := by
              by_contra hno
              obtain ⟨hnone, hle⟩ := not_or.1 hno
              exact hfull ⟨not_not.1 hnone, Nat.not_lt.1 hle⟩
            exact ⟨b, l, p, hb, hl, hp, by simpa using hblocked, by simpa using hpermit, hroom, h⟩
          · cases h

/-- Settles O31: the counting down finds the largest quantity that fits, and each check answers in its turn. -/
theorem commitFitsCredit : Obligations.CommitFitsCredit := by
  unfold Obligations.CommitFitsCredit
  refine ⟨fun debit available m q => ⟨fun n => affordable_eq_some, affordable_eq_none⟩, fun s c r f h => ?accepted,
    fun s c r => ⟨fun hnone => ?unbound, fun b hb => ⟨fun hblocked => ?blocked, fun hblocked hpermit => ?permit,
      fun hblocked hpermit hnone hfull => ?full, fun hblocked hpermit hroom l p price q debit hl hp hprice hq hdebit =>
        ⟨fun n hn hnq hfit => ?fits, fun hdear => ?dear⟩⟩⟩⟩
  case accepted =>
    obtain ⟨b, l, p, hb, hl, hp, hblocked, hpermit, hroom, hcredit⟩ := judgeCommit_accepted h
    obtain ⟨hpacks, hf⟩ := judgeCredit_accepted hcredit
    obtain ⟨hleast, hmost, hfit, hdear⟩ := affordable_eq_some hpacks
    rw [hf]
    exact ⟨b, l, p, hb, hl, hp, hblocked, hpermit, hroom, rfl, rfl, rfl, rfl, hleast, hmost, rfl, rfl, rfl, hfit, hdear⟩
  case unbound => simp [judgeCommit, hnone]
  case blocked => simp [judgeCommit, hb, hblocked]
  case permit => simp [judgeCommit, hb, hblocked, hpermit]
  case full => simp [judgeCommit, hb, hblocked, hpermit, hnone, Config.invoiceSlots, hfull]
  all_goals
    obtain rfl : debit = debitOf price l.unitsPerPack (rateOf s b.feeClass) := funext hdebit
    subst hq hprice
    rw [judgeCommit_passed hb hblocked hpermit hroom hl hp]
  case fits => exact judgeCredit_fits hn hnq hfit
  case dear => exact judgeCredit_refuses hdear

end Sys2Proof.Machine
end

section
/-! What CreditKept (R127) reads of a state, and what keeps it: no account owes more than it did, an operation is served on
the accounts as they stand, and an operation in progress completes as it fitted them. -/

set_option Elab.async false

namespace Sys2Proof.Machine

open Sys2Proof.Safety

variable {s t u : State} {c : ClockId} {d : DeskId} {n : Nat}

/-! ## The operation in progress and the accounts (R136) -/

/-- An operation fits the accounts it has read: an accepted sale's debit, a new limit, a new account's number. -/
def OperationFits (s : State) : Operation → Prop
  | .commit _ _ (.accepted f) => ∀ b ∈ s.ledger.buyers, b.number = f.buyer → b.committed + f.debit ≤ b.limit
  | .host _ (.buyerLimit n limit) _ .go => ∀ b ∈ s.ledger.buyers, b.number = n → b.committed ≤ limit
  | .host _ (.buyerEnter a) _ .go => s.buyer a.number = none
  | _ => True

theorem accountNumbers_nodup_iff :
    (accountNumbers s).Nodup ↔ s.ledger.buyers.Pairwise fun a b => a.number ≠ b.number := by
  simp [accountNumbers, accounts, List.Nodup, List.pairwise_map]

/-- CreditKept said of the accounts and of the operation in progress. -/
theorem creditKept_iff : CreditKept s ↔ (accountNumbers s).Nodup ∧ (∀ b ∈ s.ledger.buyers, b.committed ≤ b.limit) ∧
    ∀ op, s.ledger.arbiter.inProgress = some op → OperationFits s op := by
  constructor
  · rintro ⟨unique, limits, sale, limit, fresh⟩
    refine ⟨accountNumbers_nodup_iff.2 unique, limits, fun op hop => ?_⟩
    unfold OperationFits
    split
    · exact sale _ _ _ hop
    · exact limit _ _ _ _ hop
    · exact fresh _ _ _ hop
    · trivial
  · rintro ⟨unique, limits, fits⟩
    exact ⟨accountNumbers_nodup_iff.1 unique, limits, fun _ _ _ h => fits _ h, fun _ _ _ _ h => fits _ h,
      fun _ _ _ h => fits _ h⟩

/-! ## No account owes more -/

/-- Each account of `t` is one of `s`, with its limit and with no more committed, and the operation in progress is the
same. -/
structure NoMoreDebt (s t : State) : Prop where
  numbers : (accountNumbers t).Sublist (accountNumbers s)
  debts : ∀ b ∈ t.ledger.buyers, ∃ a ∈ s.ledger.buyers,
    a.number = b.number ∧ b.committed ≤ a.committed ∧ b.limit = a.limit
  progress : t.ledger.arbiter.inProgress = s.ledger.arbiter.inProgress

theorem OperationFits.mono {op : Operation} (h : OperationFits s op) (hd : NoMoreDebt s t) : OperationFits t op := by
  unfold OperationFits at h ⊢
  split
  · intro b hb hn
    obtain ⟨a, ha, hnumber, hdebt, hlimit⟩ := hd.debts b hb
    have := h a ha (hnumber.trans hn)
    omega
  · intro b hb hn
    obtain ⟨a, ha, hnumber, hdebt, -⟩ := hd.debts b hb
    exact hdebt.trans (h a ha (hnumber.trans hn))
  · exact buyer_eq_none_iff.2 fun hmem => buyer_eq_none_iff.1 h (hd.numbers.mem hmem)
  · trivial

theorem creditKept_mono (h : CreditKept s) (hd : NoMoreDebt s t) : CreditKept t := by
  obtain ⟨unique, limits, fits⟩ := creditKept_iff.1 h
  refine creditKept_iff.2 ⟨unique.sublist hd.numbers, fun b hb => ?_, fun op hop => ?_⟩
  · obtain ⟨a, ha, -, hdebt, hlimit⟩ := hd.debts b hb
    have := limits a ha
    omega
  · exact (fits op (hd.progress ▸ hop)).mono hd

theorem NoMoreDebt.trans (h : NoMoreDebt s t) (h' : NoMoreDebt t u) : NoMoreDebt s u where
  numbers := h'.numbers.trans h.numbers
  debts b hb := by
    obtain ⟨a, ha, hnumber, hdebt, hlimit⟩ := h'.debts b hb
    obtain ⟨e, he, hnumber', hdebt', hlimit'⟩ := h.debts a ha
    exact ⟨e, he, hnumber'.trans hnumber, hdebt.trans hdebt', hlimit.trans hlimit'⟩
  progress := h'.progress.trans h.progress

theorem noMoreDebt_of_same (hb : t.ledger.buyers = s.ledger.buyers)
    (hp : t.ledger.arbiter.inProgress = s.ledger.arbiter.inProgress) : NoMoreDebt s t where
  numbers := by rw [accountNumbers, accounts, hb]; exact .refl _
  debts b h := ⟨b, hb ▸ h, rfl, le_rfl, rfl⟩
  progress := hp

theorem NoMoreDebt.refl (s : State) : NoMoreDebt s s := noMoreDebt_of_same rfl rfl

theorem noMoreDebt_of_records (h : recordsOf t.ledger = recordsOf s.ledger) : NoMoreDebt s t :=
  noMoreDebt_of_same (congrArg (fun x => x.1.buyers) h) (congrArg (fun x => x.2.inProgress) h)

theorem noMoreDebt_of_recordsWith {w : Option CommitRequest} (h : recordsOf t.ledger = recordsWith c w s.ledger) :
    NoMoreDebt s t :=
  noMoreDebt_of_same (congrArg (fun x => x.1.buyers) h) (congrArg (fun x => x.2.inProgress) h)

/-- Accounts and operation in progress stay. -/
theorem NoMoreDebt.same (h : NoMoreDebt u s) (hb : t.ledger.buyers = s.ledger.buyers := by rfl)
    (hp : t.ledger.arbiter.inProgress = s.ledger.arbiter.inProgress := by rfl) : NoMoreDebt u t :=
  h.trans (noMoreDebt_of_same hb hp)

/-- The records of the ledger stay. -/
theorem creditKept_of_records (h : CreditKept s) (e : recordsOf t.ledger = recordsOf s.ledger := by simp) :
    CreditKept t := creditKept_mono h (noMoreDebt_of_records e)

/-- An account is changed in neither number nor limit, and owes no more. -/
theorem noMoreDebt_map {f : Buyer → Buyer} (hb : t.ledger.buyers = s.ledger.buyers.map f)
    (hp : t.ledger.arbiter.inProgress = s.ledger.arbiter.inProgress)
    (hf : ∀ b, (f b).number = b.number ∧ (f b).committed ≤ b.committed ∧ (f b).limit = b.limit) : NoMoreDebt s t where
  numbers := by
    have same : accountNumbers t = accountNumbers s := by
      simp [accountNumbers, accounts, hb, Function.comp_def, fun b => (hf b).1]
    exact same ▸ .refl _
  debts b h := by
    obtain ⟨a, ha, rfl⟩ := List.mem_map.1 (hb ▸ h)
    exact ⟨a, ha, (hf a).1.symm, (hf a).2⟩
  progress := hp

theorem noMoreDebt_modBuyer (h : NoMoreDebt u s) {f : Buyer → Buyer}
    (hf : ∀ b, (f b).number = b.number ∧ (f b).committed ≤ b.committed ∧ (f b).limit = b.limit := by
      intro; exact ⟨rfl, le_rfl, rfl⟩) : NoMoreDebt u (s.modBuyer n f) :=
  h.trans (noMoreDebt_map (State.modBuyer_ledger_buyers s n f) rfl fun b => by
    split
    · exact hf b
    · exact ⟨rfl, le_rfl, rfl⟩)

/-! ## Nothing in progress (R127) -/

/-- With nothing in progress the accounts alone are read. -/
theorem creditKept_of_idle (unique : (accountNumbers t).Nodup) (limits : ∀ b ∈ t.ledger.buyers, b.committed ≤ b.limit)
    (hidle : t.ledger.arbiter.inProgress = none) : CreditKept t :=
  creditKept_iff.2 ⟨unique, limits, by simp [hidle]⟩

theorem creditKept_clearProgress (h : CreditKept s) : CreditKept (clearProgress s) := by
  obtain ⟨unique, limits, -⟩ := creditKept_iff.1 h
  exact creditKept_of_idle unique limits rfl

/-! ## Service (R134 to R136) -/

/-- Where account numbers differ, the account with a number is the one found under it. -/
theorem buyer_unique (h : CreditKept s) {a b : Buyer} (hb : s.buyer n = some b) (ha : a ∈ s.ledger.buyers)
    (hn : a.number = n) : a = b := by
  have hnodup : (s.ledger.buyers.map Buyer.number).Nodup := by
    simpa [accountNumbers, accounts, Function.comp_def] using (creditKept_iff.1 h).1
  exact List.inj_on_of_nodup_map hnodup ha (findKey_mem _ hb) (hn.trans (findKey_key _ hb).symm)

/-- An accepted sale fits the credit it was judged on. -/
theorem operationFits_judgeCommit (h : CreditKept s) {r : CommitRequest} :
    OperationFits s (.commit c r (judgeCommit s c r)) := by
  cases hj : judgeCommit s c r with
  | refused x => trivial
  | accepted f =>
    intro b hb hn
    obtain ⟨a, l, p, ha, -, -, -, -, -, hcredit⟩ := judgeCommit_accepted hj
    obtain ⟨hpacks, hf⟩ := judgeCredit_accepted hcredit
    obtain ⟨-, -, hdebit, -⟩ := affordable_eq_some hpacks
    obtain ⟨m, -, ha⟩ := Option.bind_eq_some_iff.1 ha
    have hnumber : f.buyer = a.number := congrArg SaleFigures.buyer hf
    obtain rfl := buyer_unique h ha hb (by rw [hn, hnumber, findKey_key _ ha])
    have hlimit := h.limits b hb
    rw [hf]
    show b.committed + debitOf _ _ _ _ ≤ b.limit
    rw [availableCredit] at hdebit
    omega

/-- A host request that goes on fits the accounts it was judged on. -/
theorem operationFits_judgeRequest (h : CreditKept s) {tag : Byte} {r : LedgerRequest} {line : Option ClockId} :
    OperationFits s (.host tag r line (judgeRequest s r)) := by
  cases hj : judgeRequest s r with
  | refuse status body => cases r <;> trivial
  | go =>
    cases r with
    | buyerEnter a => exact buyer_eq_none_of_judgeRequest hj
    | buyerLimit n limit =>
      intro b hb hn
      simp only [judgeRequest] at hj
      split at hj
      · cases hj
      · next a ha =>
        obtain rfl := buyer_unique h ha hb hn
        split at hj
        · cases hj
        · omega
    | _ => trivial

/-- An operation that fits the accounts begins. -/
theorem creditKept_setArbiter (h : CreditKept s) {a : Arbiter} {op : Operation} (ha : a.inProgress = some op)
    (hfits : OperationFits s op) : CreditKept (s.setArbiter a) := by
  obtain ⟨unique, limits, -⟩ := creditKept_iff.1 h
  refine creditKept_iff.2 ⟨unique, limits, fun op' hop => ?_⟩
  obtain rfl : op = op' := Option.some.inj (ha.symm.trans hop)
  exact hfits

theorem creditKept_serveChoice (h : CreditKept s) {x : Choice} : CreditKept (serveChoice x s) := by
  simp only [serveChoice]
  split
  · split
    · exact creditKept_setArbiter h rfl (operationFits_judgeCommit h)
    · exact h
  · split
    · exact creditKept_setArbiter h rfl (operationFits_judgeRequest h)
    · exact h
  · exact h

theorem creditKept_serveWaiting (h : CreditKept s) : CreditKept (serveWaiting s) := by
  unfold serveWaiting
  split
  · exact creditKept_serveChoice h
  · exact h

end Sys2Proof.Machine
end

section
/-! CreditKept (R127) through the ledger operations, the arbiter and the completions (chapters 6 to 8), the desks, the hall
and the starts. -/

set_option Elab.async false

namespace Sys2Proof.Machine

open Sys2Proof.Safety

variable {s t u : State} {c : ClockId} {d : DeskId} {n : Nat}

/-! ## Accounts changed by the operation that completes (R128, R130, R139) -/

/-- One account is changed, its number kept, and its committed stays within its limit. -/
theorem creditKept_modKey {f : Buyer → Buyer} (h : CreditKept s) (hf : ∀ b, (f b).number = b.number)
    (hfits : ∀ b ∈ s.ledger.buyers, b.number = n → (f b).committed ≤ (f b).limit)
    (hb : t.ledger.buyers = modKey Buyer.number n f s.ledger.buyers) (hidle : t.ledger.arbiter.inProgress = none) :
    CreditKept t := by
  have same : accountNumbers t = accountNumbers s := by
    simp only [accountNumbers, accounts, hb, modKey, List.map_map]
    refine List.map_congr_left fun b _ => ?_
    simp only [Function.comp_apply]
    split
    · exact hf b
    · rfl
  refine creditKept_of_idle (same ▸ (creditKept_iff.1 h).1) (fun b hmem => ?_) hidle
  obtain ⟨a, ha, rfl⟩ := List.mem_map.1 (hb ▸ hmem)
  split
  · next hn => exact hfits a ha hn
  · exact h.limits a ha

/-- BUYER-ENTER: a new account under a free number owes nothing. -/
theorem creditKept_enter {b : Buyer} (h : CreditKept s) (hfree : s.buyer b.number = none) (hzero : b.committed = 0)
    (hb : t.ledger.buyers = insertKey Buyer.number b s.ledger.buyers) (hidle : t.ledger.arbiter.inProgress = none) :
    CreditKept t := by
  have perm : (accountNumbers t).Perm (b.number :: accountNumbers s) := by
    simpa [accountNumbers, accounts, hb, Function.comp_def] using
      (insertKey_perm b s.ledger.buyers).map Buyer.number
  refine creditKept_of_idle (perm.nodup_iff.2 (List.nodup_cons.2 ⟨buyer_eq_none_iff.1 hfree, (creditKept_iff.1 h).1⟩))
    (fun a ha => ?_) hidle
  rcases (mem_insertKey ..).1 (hb ▸ ha) with rfl | ha
  · exact hzero ▸ Nat.zero_le _
  · exact h.limits a ha

/-! ## SALE-COMMIT (R139) -/

/-- The open invoice of a buyer who has none yet is opened for the line about to be written (R139). -/
def openedFor (buyer : Nat) (s : State) : State :=
  if (openInvoiceOf s buyer).isSome then s else openInvoice buyer (s.ledger.journal.lastWritten + 1) s

theorem noMoreDebt_openedFor : NoMoreDebt s (openedFor n s) := by
  unfold openedFor
  split
  · exact .refl s
  · exact (noMoreDebt_modBuyer (n := n) (f := fun b => { b with openInvoice := some (newInvoiceNumber s) })
      (.refl s)).same

theorem writeSale_buyers {r : CommitRequest} {f : SaleFigures} : (writeSale c r f s).ledger.buyers =
    modKey Buyer.number f.buyer (fun b => { b with committed := b.committed + f.debit })
      (openedFor f.buyer s).ledger.buyers := rfl

theorem openedFor_arbiter : (openedFor n s).ledger.arbiter = s.ledger.arbiter := by
  unfold openedFor
  split <;> rfl

theorem writeSale_arbiter {r : CommitRequest} {f : SaleFigures} :
    (writeSale c r f s).ledger.arbiter = s.ledger.arbiter := by
  show (openedFor f.buyer s).ledger.arbiter = _
  exact openedFor_arbiter

/-- The SALE-COMMIT in progress completes: an accepted one's debit has fitted since its service. -/
theorem creditKept_commitChanges (h : CreditKept s) {r : CommitRequest} {a : CommitAnswer}
    (hprog : s.ledger.arbiter.inProgress = some (.commit c r a)) :
    CreditKept (commitChanges c r a (clearProgress s)) := by
  have cleared := creditKept_clearProgress h
  cases a with
  | refused x => exact creditKept_of_records cleared rfl
  | accepted f =>
    have opened : NoMoreDebt (clearProgress s) (openedFor f.buyer (clearProgress s)) := noMoreDebt_openedFor
    refine creditKept_modKey (f := fun b => { b with committed := b.committed + f.debit })
      (creditKept_mono cleared opened) (fun _ => rfl) (fun b hb hn => ?_) writeSale_buyers
      (congrArg Arbiter.inProgress writeSale_arbiter)
    obtain ⟨a, ha, hnumber, hdebt, hlimit⟩ := opened.debts b hb
    have hfits := h.sale c r f hprog a ha (hnumber.trans hn)
    show b.committed + f.debit ≤ b.limit
    omega

/-! ## Host ledger requests (R128 to R131, R141, R156 to R163) -/

theorem noMoreDebt_closeInvoice : NoMoreDebt s (closeInvoice n s) := by
  cases hi : s.invoice n with
  | none => rw [closeInvoice_eq_self hi]; exact .refl s
  | some i =>
    rw [closeInvoice_eq hi]
    exact noMoreDebt_modBuyer ((NoMoreDebt.refl s).same (t := s.modInvoice n closedForm))
      fun _ => ⟨rfl, Nat.sub_le _ _, rfl⟩

theorem noMoreDebt_closeAll (l : List Invoice) : NoMoreDebt s (closeAll l s) := by
  induction l generalizing s with
  | nil => exact .refl s
  | cons i l ih => exact noMoreDebt_closeInvoice.trans ih

theorem noMoreDebt_applyPayment : NoMoreDebt s (applyPayment n s).state := by
  unfold applyPayment
  split
  · exact .refl s
  · next i _ =>
    exact (noMoreDebt_modBuyer (n := i.buyer) (f := fun b => { b with committed := b.committed - 10 * i.total.getD 0 })
      (.refl s) fun _ => ⟨rfl, Nat.sub_le _ _, rfl⟩).same

/-- A SALE-VOID takes its line's debit from the buyer's committed, and changes no other account. -/
theorem noMoreDebt_writeVoid {l : JournalLine} : NoMoreDebt s (writeVoid l s) := by
  have account : NoMoreDebt s (s.modBuyer (l.buyer.getD 0) fun b => { b with committed := b.committed - l.debit }) :=
    noMoreDebt_modBuyer (.refl s) fun _ => ⟨rfl, Nat.sub_le _ _, rfl⟩
  simp only [writeVoid]
  split
  · split <;> exact account.same
  · exact account.same

theorem noMoreDebt_applyVoid : NoMoreDebt s (applyVoid n s).state := by
  unfold applyVoid
  split
  · exact .refl s
  · split
    · exact .refl s
    · exact noMoreDebt_writeVoid

theorem noMoreDebt_dropBuyer (hb : t.ledger.buyers = dropKey Buyer.number n s.ledger.buyers)
    (hp : t.ledger.arbiter.inProgress = s.ledger.arbiter.inProgress) : NoMoreDebt s t where
  numbers := by
    simp only [accountNumbers, accounts, hb, dropKey, List.map_map]
    exact List.filter_sublist.map _
  debts b h := ⟨b, List.mem_of_mem_filter (hb ▸ h), rfl, le_rfl, rfl⟩
  progress := hp

/-- Of the host requests BUYER-ENTER and BUYER-LIMIT alone can bring an account nearer its limit. -/
theorem noMoreDebt_applyRequest {r : LedgerRequest} (hr : ∀ a, r ≠ .buyerEnter a)
    (hr' : ∀ n limit, r ≠ .buyerLimit n limit) : NoMoreDebt s (applyRequest s r).state := by
  cases r with
  | buyerEnter a => exact absurd rfl (hr a)
  | buyerLimit number limit => exact absurd rfl (hr' number limit)
  | buyerFlags a =>
    have flags : NoMoreDebt s (s.modBuyer a.number fun b => { b with
        flags := applyFlags (a.action.getD .set) a.flags b.flags }) := noMoreDebt_modBuyer (.refl s)
    simp only [applyRequest]
    split <;> exact flags
  | buyerRemove number =>
    simp only [applyRequest]
    split
    · exact noMoreDebt_dropBuyer (n := number) rfl rfl
    · exact .refl s
  | tariffSet feeClass rate =>
    simp only [applyRequest]
    split
    · exact (NoMoreDebt.refl s).same
    · exact .refl s
  | saleVoid n => exact noMoreDebt_applyVoid
  | paymentPost n => exact noMoreDebt_applyPayment
  | invoiceClose which =>
    simp only [applyRequest]
    split
    · unfold applyClose
      split
      · exact .refl s
      · exact noMoreDebt_closeInvoice
    · exact .refl s
  | dayClose => exact noMoreDebt_closeAll _

/-- The host request in progress completes, as it has fitted the accounts since its service. -/
theorem creditKept_requestChanges (h : CreditKept s) {tag : Byte} {r : LedgerRequest} {line : Option ClockId}
    {v : Service} (hprog : s.ledger.arbiter.inProgress = some (.host tag r line v)) :
    CreditKept (requestChanges r v (clearProgress s)).state := by
  have cleared := creditKept_clearProgress h
  cases v with
  | refuse status body => exact cleared
  | go =>
    cases r with
    | buyerEnter a => exact creditKept_enter (b := newBuyer a) cleared (h.fresh tag a line hprog) rfl rfl rfl
    | buyerLimit number limit =>
      exact creditKept_modKey (f := fun b => { b with limit := limit }) cleared (fun _ => rfl)
        (h.limit tag number limit line hprog) rfl rfl
    | _ => exact creditKept_mono cleared (noMoreDebt_applyRequest (by simp) (by simp))

/-! ## Completions (R134, R138, R145, R152, R202) -/

theorem creditKept_afterCompletion (h : CreditKept s) {x : Choice} : CreditKept (afterCompletion x s) :=
  creditKept_of_records (creditKept_serveWaiting (creditKept_serveChoice h)) recordsOf_continueReset

theorem creditKept_completeCommit (h : CreditKept s) {r : CommitRequest} {a : CommitAnswer}
    (hprog : s.ledger.arbiter.inProgress = some (.commit c r a)) : CreditKept (completeCommit c r a s) := by
  have changed := creditKept_commitChanges h hprog
  simp only [completeCommit]
  split
  · exact changed
  · obtain ⟨w, hw⟩ := clockAnswered_records c r a (commitChanges c r a (clearProgress s))
    exact creditKept_afterCompletion (creditKept_mono changed (noMoreDebt_of_recordsWith hw))

theorem creditKept_completeHost (h : CreditKept s) {tag : Byte} {r : LedgerRequest} {line : Option ClockId}
    {v : Service} (hprog : s.ledger.arbiter.inProgress = some (.host tag r line v)) :
    CreditKept (completeHost tag r v s) := by
  have changed := creditKept_requestChanges h hprog
  simp only [completeHost]
  split
  · exact changed
  · refine creditKept_afterCompletion ?_
    split <;> exact creditKept_of_records changed

theorem creditKept_settleInProgress (h : CreditKept s) : CreditKept (settleInProgress s) := by
  unfold settleInProgress
  split
  · exact h
  · next hprog => exact creditKept_commitChanges h hprog
  · next hprog => exact creditKept_requestChanges h hprog

/-! ## Desks, presses and row replies (R86 to R99, R108 to R112) -/

theorem noMoreDebt_unbindDesk : NoMoreDebt s (unbindDesk d s) := by
  unfold unbindDesk
  split
  · exact .refl s
  · exact noMoreDebt_modBuyer ((NoMoreDebt.refl s).same (t := s.setDesk d { s.desk d with binding := none }))

theorem noMoreDebt_bindDesk : NoMoreDebt s (bindDesk d n s) := by
  unfold bindDesk
  split
  · exact .refl s
  · exact noMoreDebt_modBuyer (noMoreDebt_unbindDesk.same (t := (unbindDesk d s).setDesk d
      { (unbindDesk d s).desk d with binding := some n }))

theorem noMoreDebt_signOn : NoMoreDebt s (signOn d n s) := by
  have refused : NoMoreDebt s (refuseSignOn d s) :=
    noMoreDebt_unbindDesk.trans (noMoreDebt_of_records (congrArg recordsOf refuseSignOn_ledger))
  unfold signOn
  split
  · split
    · exact refused
    · exact noMoreDebt_bindDesk
  · exact refused

@[simp] theorem recordsOf_collect {p : Press} : recordsOf (collect c p s).ledger = recordsOf s.ledger := by
  simp only [collect]
  split
  · simp
  · split
    · simp
    · split
      · rfl
      · split <;> simp

/-- A clock's commit is placed, and served where nothing is before it. -/
theorem creditKept_serve_placeCommit (h : CreditKept s) : CreditKept (serveWaiting (placeCommit c s)) := by
  obtain ⟨w, hw⟩ := placeCommit_records c s
  exact creditKept_serveWaiting (creditKept_mono h (noMoreDebt_of_recordsWith hw))

theorem creditKept_stopClock (h : CreditKept s) {p : Press} : CreditKept (stopClock c p s) := by
  simp only [stopClock]
  split
  · exact creditKept_serve_placeCommit (creditKept_of_records h)
  · exact creditKept_of_records h

theorem creditKept_takePress (h : CreditKept s) {run tag offset packs : Nat} :
    CreditKept (takePress d c run tag offset packs s) := by
  have arrived : CreditKept { s with bus := { s.bus with nextArrival := (s.bus.nextArrival + 1) % 4294967296 } } :=
    creditKept_of_records h rfl
  simp only [takePress]
  split
  · exact creditKept_of_records arrived
  · split
    · exact creditKept_stopClock arrived
    · exact creditKept_of_records arrived

theorem creditKept_takeEvent (h : CreditKept s) {e : DeskEvent} : CreditKept (takeEvent e s) := by
  cases e with
  | press d c run tag offset packs =>
    simp only [takeEvent]
    split
    · exact creditKept_takePress h
    · exact h
  | signOn d b =>
    simp only [takeEvent]
    split
    · exact creditKept_mono h noMoreDebt_signOn
    · exact h
  | signOff d =>
    simp only [takeEvent]
    split
    · exact creditKept_mono h noMoreDebt_unbindDesk
    · exact h

theorem creditKept_takeReply (h : CreditKept s) {r : RowId} {y : RowReply} : CreditKept (takeReply r y s) := by
  simp only [takeReply]
  split
  · exact creditKept_of_records h
  · exact List.foldlRecOn _ _ (creditKept_of_records h) fun t ht _ _ => creditKept_takeEvent ht

/-! ## The hall, the key and the host link (R182 to R191, R197) -/

@[simp] theorem recordsOf_setTime : recordsOf (setTime s).ledger = recordsOf s.ledger := by
  unfold setTime
  split
  · rfl
  · exact recordsOf_eachClock fun _ _ => recordsOf_tellClock

@[simp] theorem recordsOf_clearTime : recordsOf (clearTime s).ledger = recordsOf s.ledger := by
  unfold clearTime
  split
  · exact recordsOf_eachClock fun _ _ => by simp
  · rfl

@[simp] theorem recordsOf_fireAlarm : recordsOf (fireAlarm s).ledger = recordsOf s.ledger := by
  unfold fireAlarm
  rw [recordsOf_eachClock fun _ _ => recordsOf_closeClock, raise_ledger]

@[simp] theorem recordsOf_advanceCalendar : recordsOf (advanceCalendar s).ledger = recordsOf s.ledger := by
  unfold advanceCalendar
  extract_lets old hall advanced calendar ended
  have hended : recordsOf ended.ledger = recordsOf s.ledger := by
    unfold ended
    split
    · exact recordsOf_clearTime
    · rfl
  split
  · split <;> rfl
  · split
    · exact recordsOf_fireAlarm.trans hended
    · exact hended

@[simp] theorem recordsOf_changeKey {new : KeyPosition} : recordsOf (changeKey new s).ledger = recordsOf s.ledger := by
  simp only [changeKey]
  split
  · rw [recordsOf_eachClock fun _ _ => by simp, raise_ledger]
  · split
    · rw [recordsOf_eachClock fun _ _ => recordsOf_tellClock, raise_ledger]
    · rw [raise_ledger]

@[simp] theorem recordsOf_sampleKey {x : KeyPosition} : recordsOf (sampleKey x s).ledger = recordsOf s.ledger := by
  unfold sampleKey
  extract_lets hall count
  split
  · rfl
  · split
    · rfl
    · exact recordsOf_changeKey

@[simp] theorem recordsOf_changeBackup {x : BackupSupply} :
    recordsOf (changeBackup x s).ledger = recordsOf s.ledger := by
  unfold changeBackup
  split <;> simp

@[simp] theorem recordsOf_frameArrives : recordsOf (frameArrives s).ledger = recordsOf s.ledger := by
  simp only [frameArrives, restoreHost]
  split
  · rfl
  · rw [recordsOf_eachClock fun _ _ => recordsOf_tellClock, raise_ledger]
    rfl

@[simp] theorem recordsOf_loseHost : recordsOf (loseHost s).ledger = recordsOf s.ledger := by
  unfold loseHost
  rw [recordsOf_eachClock fun _ _ => recordsOf_tellClock, raise_ledger]

theorem creditKept_whenPowered (h : CreditKept s) (ht : CreditKept t) : CreditKept (whenPowered s t) := by
  unfold whenPowered
  split
  · exact ht
  · exact h

/-! ## Starts (R144, R192) -/

theorem warmStart_ledger {kind : StartKind} {mainReturn : Bool} {backup : BackupSupply} :
    (warmStart kind mainReturn backup s).ledger = warmLedger (settleInProgress s).ledger := by
  have departed : ∀ t : State, (eachClock testDepartures t).ledger = t.ledger := fun t => by simp [eachClock]
  have backed : ∀ t, (reportBackup backup t).ledger = t.ledger := fun t => by cases backup <;> simp [reportBackup]
  have failed : ∀ t, (reportMainFail kind t).ledger = t.ledger := fun t => by cases kind <;> simp [reportMainFail]
  simp only [warmStart, departed, backed]
  split
  · rw [failed]
    rfl
  · rfl

theorem creditKept_warmStart (h : CreditKept s) {kind : StartKind} {mainReturn : Bool} {backup : BackupSupply} :
    CreditKept (warmStart kind mainReturn backup s) := by
  have unbound : NoMoreDebt (clearProgress (settleInProgress s)) (warmStart kind mainReturn backup s) :=
    noMoreDebt_map (f := fun b => { b with boundDesks := 0 }) (by rw [warmStart_ledger]; rfl)
      (by rw [warmStart_ledger]; rfl) fun _ => ⟨rfl, le_rfl, rfl⟩
  exact creditKept_mono (creditKept_clearProgress (creditKept_settleInProgress h)) unbound

/-- A cold start leaves no account. -/
theorem creditKept_coldStart {backup : BackupSupply} : CreditKept (coldStart backup s) := by
  refine creditKept_of_idle ?_ ?_ ?_ <;>
    simp [accountNumbers, accounts, Ledger.atStart, Arbiter.atStart]

theorem creditKept_startBySupply (h : CreditKept s) {mainReturn : Bool} {backup : BackupSupply} :
    CreditKept (startBySupply mainReturn backup s) := by
  unfold startBySupply
  split
  · exact creditKept_warmStart h
  · exact creditKept_coldStart

end Sys2Proof.Machine
end

section
/-! CreditKept (R127) through every request and every command, and so through a step. -/

set_option Elab.async false

namespace Sys2Proof.Machine

open Sys2Proof.Safety

variable {s t : State} {c : ClockId} {n : Nat}

/-! ## Lots and lanes (1.5, 2.2, 2.6) -/

@[simp] theorem doLotEnter_ledger {a : LotFields} : (doLotEnter a s).state.ledger = s.ledger := by
  simp only [doLotEnter]
  split
  · rfl
  · rfl
  · split
    · rfl
    · split <;> rfl

@[simp] theorem doLotAmend_ledger {a : LotAmendment} : (doLotAmend a s).state.ledger = s.ledger := by
  simp only [doLotAmend]
  split
  · rfl
  · split
    · split <;> rfl
    · rfl

@[simp] theorem doLotRemove_ledger : (doLotRemove n s).state.ledger = s.ledger := by
  simp only [doLotRemove]
  split
  · rfl
  · split <;> rfl

theorem queuePlaces_ledger {train trolley : Nat} (l : List Nat) {place : Nat} :
    (queuePlaces c train trolley place l s).ledger = s.ledger := by
  induction l generalizing place s with
  | nil => rfl
  | cons n l ih => exact ih

theorem queueTrolleys_ledger {train : Nat} (l : List TrolleyEntry) {trolley : Nat} :
    (queueTrolleys c train trolley l s).ledger = s.ledger := by
  induction l generalizing trolley s with
  | nil => rfl
  | cons x l ih => exact ih.trans (queuePlaces_ledger x.lots)

@[simp] theorem doTrainAnnounce_ledger {a : TrainAnnouncement} : (doTrainAnnounce a s).state.ledger = s.ledger := by
  simp only [doTrainAnnounce]
  split
  · rfl
  · rfl
  · split
    · rfl
    · split
      · rfl
      · split
        · rfl
        · exact queueTrolleys_ledger a.trolleys

@[simp] theorem doTrainCancel_ledger {lane train : Nat} : (doTrainCancel lane train s).state.ledger = s.ledger := by
  simp only [doTrainCancel]
  split
  · rfl
  · rfl
  · split
    · rfl
    · split
      · exact modLots_ledger ..
      · rfl

@[simp] theorem doLaneSet_ledger {a : LaneSettings} : (doLaneSet a s).state.ledger = s.ledger := by
  simp only [doLaneSet]
  split
  · rfl
  · split <;> rfl

@[simp] theorem sampleGate_ledger {blocked : Bool} : (sampleGate c blocked s).ledger = s.ledger := by
  simp only [sampleGate]
  split
  · rfl
  · split
    · rfl
    · exact gateChanges_ledger ..

/-! ## Clock requests (R59, R74 to R78) -/

theorem setClockParams_ledger {a : ClockSettings} : (setClockParams a c s).1.ledger = s.ledger := by
  simp only [setClockParams]
  split <;> rfl

theorem requestHold_ledger : (requestHold c s).1.ledger = s.ledger := by
  simp only [requestHold]
  split
  · rfl
  · rfl
  · exact holdClock_ledger ..

theorem requestResume_ledger : (requestResume c s).1.ledger = s.ledger := by
  simp only [requestResume]
  split_ifs
  · rfl
  · rfl
  · rfl
  · rfl
  · simp [clockAccepts, resumeClock]

/-- A NO_SALE line reaches the journal's lines alone. -/
theorem noMoreDebt_writeNoSale {cause : NoSaleCause} : NoMoreDebt s (writeNoSale c cause s) := by
  simp only [writeNoSale]
  split
  · exact (NoMoreDebt.refl s).same
  · exact .refl s

theorem creditKept_withdrawLot (h : CreditKept s) : CreditKept (withdrawLot c s).1 := by
  have unreserved : CreditKept (if (s.clock c).reservation then writeNoSale c .withdrawn s else s) := by
    split
    · exact creditKept_mono h noMoreDebt_writeNoSale
    · exact h
  exact creditKept_of_records unreserved recordsOf_endLot

theorem creditKept_requestWithdraw (h : CreditKept s) : CreditKept (requestWithdraw c s).1 := by
  simp only [requestWithdraw]
  split
  · exact h
  · exact h
  · exact h
  · exact h
  · split
    · exact h
    · exact creditKept_withdrawLot h
  · exact creditKept_withdrawLot h
  · exact creditKept_withdrawLot h
  · exact creditKept_withdrawLot h

theorem creditKept_stepClock (h : CreditKept s) : CreditKept (stepClock c s) := by
  simp only [stepClock]
  split
  · split
    · exact creditKept_of_records h
    · exact creditKept_of_records (creditKept_mono h noMoreDebt_writeNoSale) recordsOf_endLot
  · exact h

theorem creditKept_onClocks {f : ClockStep} (hf : ∀ c s, CreditKept s → CreditKept (f c s).1) (h : CreditKept s) :
    CreditKept (onClocks n f s).state := by
  simp only [onClocks]
  split
  · exact hf 3 _ (hf 2 _ (hf 1 _ (hf 0 _ h)))
  · split
    · exact h
    · exact hf _ _ h

theorem creditKept_doClockSet (h : CreditKept s) {a : ClockSettings} : CreditKept (doClockSet a s).state := by
  simp only [doClockSet]
  split
  · exact h
  · split
    · exact h
    · exact creditKept_onClocks (fun _ _ hs => creditKept_of_records hs (congrArg recordsOf setClockParams_ledger)) h

/-! ## The other requests (R59, R100, R155, R177, R185, R188, R199 to R202) -/

theorem creditKept_doDeskRelease (h : CreditKept s) : CreditKept (doDeskRelease n s).state := by
  simp only [doDeskRelease]
  split
  · exact h
  · exact creditKept_mono h noMoreDebt_unbindDesk

/-- JOURNAL-RELEASE takes lines from the journal, and tells the clocks. -/
theorem creditKept_doJournalRelease (h : CreditKept s) : CreditKept (doJournalRelease n s).state := by
  unfold doJournalRelease
  extract_lets j freed
  split
  · exact h
  · split
    · exact h
    · exact creditKept_of_records (s := freed) (creditKept_mono h (NoMoreDebt.refl s).same)
        (recordsOf_eachClock fun _ _ => recordsOf_tellSpace)

@[simp] theorem doBoardSet_ledger {board period : Nat} : (doBoardSet board period s).state.ledger = s.ledger := by
  simp only [doBoardSet]
  split
  · rfl
  · split <;> rfl

@[simp] theorem recordsOf_doHallTimeSet {time : Stamp} :
    recordsOf (doHallTimeSet time s).state.ledger = recordsOf s.ledger := by
  simp only [doHallTimeSet]
  split
  · rfl
  · split
    · exact recordsOf_clearTime
    · exact recordsOf_setTime

@[simp] theorem doCloseAlarmSet_ledger {a : Alarm} : (doCloseAlarmSet a s).state.ledger = s.ledger := by
  simp only [doCloseAlarmSet]
  split
  · rfl
  · split <;> rfl

@[simp] theorem doReportTake_ledger : (doReportTake n s).state.ledger = s.ledger := by
  simp only [doReportTake]
  split <;> rfl

@[simp] theorem doLinkSet_ledger {rate : Nat} {x : Option Supervision} :
    (doLinkSet rate x s).state.ledger = s.ledger := by
  simp only [doLinkSet]
  split
  · rfl
  · split <;> rfl

/-! ## Dispatch (R134, R196, R202) -/

theorem creditKept_finish {a : Answer} (h : CreditKept a.state) {tag : Byte} {r : Request} {after : AfterReply} :
    CreditKept (finish tag r after a) := creditKept_of_records h rfl

theorem creditKept_dropWaiting (h : CreditKept s) : CreditKept (dropWaiting s) :=
  creditKept_mono h (NoMoreDebt.refl s).same

theorem creditKept_arriveLedger (h : CreditKept s) {tag : Byte} {r : LedgerRequest} :
    CreditKept (arriveLedger tag r s) := by
  simp only [arriveLedger]
  split
  · exact creditKept_of_records h
  · split
    · exact creditKept_of_records h
    · split
      · exact creditKept_of_records h rfl
      · exact creditKept_serveWaiting (creditKept_mono h (NoMoreDebt.refl s).same)

theorem creditKept_dispatchRequest (h : CreditKept s) {tag : Byte} {r : Request} :
    CreditKept (dispatchRequest tag r s) := by
  cases r with
  | identify | hallTimeRead | statsRead | unknown => exact creditKept_finish h
  | lotEnter | lotAmend | lotRemove | trainAnnounce | trainCancel | laneSet | boardSet | hallTimeSet | closeAlarmSet
  | reportTake | linkSet => exact creditKept_finish (creditKept_of_records h)
  | reportEnable | statsClear => exact creditKept_finish (creditKept_of_records h rfl)
  | lotQuery q => exact creditKept_finish ((doLotQuery_state q).symm ▸ h)
  | laneQuery q => exact creditKept_finish ((doLaneQuery_state q).symm ▸ h)
  | clockQuery n => exact creditKept_finish ((doClockQuery_state n).symm ▸ h)
  | deskQuery q => exact creditKept_finish ((doDeskQuery_state q).symm ▸ h)
  | buyerQuery q => exact creditKept_finish ((doBuyerQuery_state q).symm ▸ h)
  | invoiceQuery q => exact creditKept_finish ((doInvoiceQuery_state q).symm ▸ h)
  | journalRead start count => exact creditKept_finish ((doJournalRead_state start count).symm ▸ h)
  | boardQuery n => exact creditKept_finish ((doBoardQuery_state n).symm ▸ h)
  | clockSet a => exact creditKept_finish (creditKept_doClockSet h)
  | clockHold n =>
    exact creditKept_finish (creditKept_onClocks (fun _ _ hs =>
      creditKept_of_records hs (congrArg recordsOf requestHold_ledger)) h)
  | clockResume n =>
    exact creditKept_finish (creditKept_onClocks (fun _ _ hs =>
      creditKept_of_records hs (congrArg recordsOf requestResume_ledger)) h)
  | clockWithdraw n => exact creditKept_finish (creditKept_onClocks (fun _ _ hs => creditKept_requestWithdraw hs) h)
  | clockOpen n =>
    exact creditKept_finish (creditKept_onClocks (fun c t hs =>
      creditKept_of_records hs (congrArg recordsOf (openClock_ledger t c))) h)
  | deskRelease n => exact creditKept_finish (creditKept_doDeskRelease h)
  | ledger r => exact creditKept_arriveLedger h
  | journalRelease n => exact creditKept_finish (creditKept_doJournalRelease h)
  | controllerReset => exact creditKept_of_records (creditKept_dropWaiting h) recordsOf_continueReset

theorem creditKept_routeRequest (h : CreditKept s) {tag : Byte} {r : Request} : CreditKept (routeRequest tag r s) := by
  simp only [routeRequest]
  split
  · exact creditKept_of_records h rfl
  · split
    · exact creditKept_dispatchRequest h
    · exact creditKept_of_records h rfl

theorem creditKept_hostRequest (h : CreditKept s) {tag : Byte} {r : Request} : CreditKept (hostRequest tag r s) :=
  creditKept_whenPowered h (creditKept_routeRequest (creditKept_of_records h))

/-! ## The line's bytes and the replies (R195, R196) -/

theorem creditKept_replyGone (h : CreditKept s) {backup : BackupSupply} : CreditKept (replyGone backup s) := by
  have followed : ∀ x t, CreditKept t → CreditKept (afterReply x backup t) := fun x t ht => by
    cases x with
    | nothing => exact ht
    | newRate rate => exact creditKept_of_records ht rfl
    | warmStart => exact creditKept_warmStart ht
  have held : ∀ t, CreditKept t → CreditKept (dispatchHeld t) := fun t ht => by
    simp only [dispatchHeld]
    split
    · split
      · refine creditKept_dispatchRequest ?_
        exact creditKept_of_records ht rfl
      · exact ht
    · exact ht
  simp only [replyGone]
  split
  · exact h
  · exact held _ (followed _ _ (creditKept_of_records h rfl))

theorem creditKept_receiveBytes (h : CreditKept s) {bytes : List LineByte} :
    CreditKept (bytes.foldl (fun s b => receiveByte b s) s) :=
  receiveBytes_keep (fun _ _ _ hs => creditKept_of_records hs rfl) (fun _ hs => creditKept_of_records hs rfl)
    (fun _ _ _ hs => creditKept_routeRequest (creditKept_of_records hs)) bytes s h

/-! ## Every command -/

theorem creditKept_reach (h : CreditKept s) : CreditKept (s.reach n) := creditKept_of_records h rfl

theorem creditKept_failMain (h : CreditKept s) : CreditKept (failMain s) :=
  creditKept_of_records (creditKept_dropWaiting h) rfl

theorem after_whenPowered_credit (h : CreditKept s) (ht : CreditKept t) :
    After (.next (whenPowered s t)) CreditKept := after_next (creditKept_whenPowered h ht)

theorem creditKept_exec (h : CreditKept s) (i : Instr) : After (exec i s) CreditKept := by
  cases i with
  | identify | lotEnter | lotAmend | lotRemove | lotQuery | trainAnnounce | trainCancel | laneQuery | laneSet
  | clockSet | clockQuery | clockHold | clockResume | clockWithdraw | clockOpen | deskQuery | deskRelease
  | buyerEnter | buyerFlags | buyerLimit | buyerRemove | buyerQuery | tariffSet | saleVoid | paymentPost
  | invoiceClose | dayClose | invoiceQuery | journalRead | journalRelease | boardSet | boardQuery | hallTimeSet
  | hallTimeRead | closeAlarmSet | reportTake | reportEnable | statsRead | statsClear | linkSet | controllerReset
  | unknownRequest => exact after_next (creditKept_hostRequest h)
  | ledgerOperationComplete =>
    refine after_next ?_
    split
    · exact h
    · next hprog => exact creditKept_completeHost h hprog
    · exact h
    · exact h
  | saleCommitComplete =>
    refine after_next ?_
    split
    · next hprog => exact creditKept_completeCommit h hprog
    · exact h
    · exact h
  | saleVoidComplete =>
    refine after_next ?_
    split
    · next hprog => exact creditKept_completeHost h hprog
    · exact h
    · exact h
    · exact h
  | stepTimerExpiry c =>
    refine after_whenPowered_credit h ?_
    split
    · exact creditKept_stepClock (creditKept_reach h)
    · exact h
  | windowExpiry c =>
    refine after_whenPowered_credit h ?_
    split
    · refine creditKept_serve_placeCommit ?_
      exact creditKept_of_records h rfl
    · exact h
  | rowReplyGood reply =>
    refine after_whenPowered_credit h ?_
    split
    · split
      · exact creditKept_of_records (creditKept_takeReply h) (congrArg recordsOf (endWait_ledger ..))
      · exact creditKept_of_records h (by simp [badReply])
    · exact h
    · exact h
  | replySent backup => exact after_whenPowered_credit h (creditKept_replyGone h)
  | startByteReceived bytes => exact after_whenPowered_credit h (creditKept_receiveBytes h)
  | mainSupplyReturn backup =>
    refine after_next ?_
    split
    · exact creditKept_startBySupply (creditKept_reach h)
    · exact h
    · exact h
  | powerOn backup => exact after_next (creditKept_startBySupply h)
  | mainSupplyAboveThreshold =>
    refine after_next ?_
    split <;> exact creditKept_of_records h rfl
  | mainSupplyBelowThreshold =>
    refine after_next ?_
    split
    · exact creditKept_of_records h rfl
    · exact creditKept_failMain h
  | mainSupplyFail => exact after_whenPowered_credit h (creditKept_failMain h)
  | calendarAdvance => exact after_next (creditKept_of_records h recordsOf_advanceCalendar)
  | backupChange reading =>
    refine after_next ?_
    split
    · exact h
    · exact creditKept_of_records h
  | gateQualifiedChange | boardAnswerBad | gateSample | keySample =>
    exact after_whenPowered_credit h (creditKept_of_records h)
  | refreshWindow b =>
    exact after_whenPowered_credit h (creditKept_of_records h (congrArg recordsOf (refreshBoard_ledger ..)))
  | pollSent =>
    refine after_whenPowered_credit h ?_
    split
    · exact creditKept_of_records h rfl
    · split <;> exact creditKept_of_records h rfl
    · exact h
    · exact h
  | boardAnswerGood b number =>
    refine after_whenPowered_credit h ?_
    split
    · split <;> exact creditKept_of_records h
    · exact creditKept_of_records h
    · exact creditKept_of_records h
  | frameOverrun | frameBad | receiverIdleTimeout | supervisionExpiry | takeLot | previewExpiry | pauseExpiry
  | gapExpiry | tickSent | rowReplyBad | rowReplyTimeout | boardTransmitEnd | boardAnswerTimeout | keyQualifiedChange
  | deskBusLineIdle =>
    refine after_whenPowered_credit h ?_
    split <;> exact creditKept_of_records h (by simp [countOverrun, frameFails, previewRunsOut, tickGone, badReply,
      awaitAnswer])

theorem creditKept_idle (h : CreditKept s) : CreditKept (idle s) := by
  simp only [idle]
  split
  · simp only [goOn]
    split <;> exact creditKept_of_records h rfl
  · exact creditKept_of_records h rfl

/-- Settles O7: an account's committed rises only by an accepted sale's debit, which has fitted its available credit
since the service, and its limit falls only to one that has been found no lower than committed. -/
theorem creditKeptByStep : Obligations.CreditKeptByStep := by
  unfold Obligations.CreditKeptByStep
  intro s t h hstep
  unfold step at hstep
  split at hstep
  · cases hstep
    exact creditKept_idle h
  · refine creditKept_exec ?_ _ t hstep
    exact creditKept_of_records h rfl

end Sys2Proof.Machine
end

section
/-! The host ledger requests: what each is judged at its service (R128 to R131, R133, R141, R156, R162, R163), how one
arrives at the arbiter (R134 to R136), and the completions of account and tariff operations (R128 to R133). -/

set_option Elab.async false

namespace Sys2Proof.Machine

open Sys2Proof.Safety

variable {s t : State} {c : ClockId} {n : Nat} {b : Buyer} {i : Invoice} {l : JournalLine} {tag : Byte}
  {r : LedgerRequest}

/-! ## What the checks read -/

/-- A closed invoice of the buyer's keeps the account (R131). -/
theorem closedInvoices_pos_iff :
    0 < closedInvoices s n ↔ ∃ i ∈ s.ledger.invoices, i.buyer = n ∧ i.state = .closed := by
  simp [closedInvoices, List.length_pos_iff_exists_mem]

/-- The lowest-numbered clock with a property is the one found. -/
theorem find_allClocks {p : ClockId → Bool} (hc : p c = true) (hbelow : ∀ d, d < c → p d = false) :
    allClocks.find? p = some c := by
  refine List.find?_eq_some_iff_append.2 ⟨hc, allClocks.take c.val, allClocks.drop (c.val + 1), ?_, fun d hd => ?_⟩
  · clear hc hbelow
    revert c
    decide
  · have hlt : d < c := by
      clear hc hbelow
      revert c d
      decide
    simp [hbelow d hlt]

theorem busyClock_eq_some (hidle : (s.clock c).state ≠ .idle) (hclosed : (s.clock c).state ≠ .closed)
    (hbelow : ∀ d, d < c → (s.clock d).state = .idle ∨ (s.clock d).state = .closed) : busyClock s = some c :=
  find_allClocks (by simp [hidle, hclosed]) fun d hd => by
    rcases hbelow d hd with h | h <;> simp [h]

theorem busyClock_eq_none (h : ∀ c, (s.clock c).state = .idle ∨ (s.clock c).state = .closed) : busyClock s = none :=
  List.find?_eq_none.2 fun c _ => by
    rcases h c with h | h <;> simp [h]

/-- Check 3 of R156. -/
theorem voidable_iff : voidable s l = true ↔ (s.clock l.clock).state = .held ∧ (s.clock l.clock).lot = some l.lot ∧
    ∃ m, s.ledger.journal.lotMark.get l.clock = some m ∧ m ≤ l.sequence := by
  simp only [voidable, Bool.and_eq_true, decide_eq_true_eq, and_assoc]
  cases s.ledger.journal.lotMark.get l.clock <;> simp

/-- Check 4 of R156. -/
theorem invoiceTakesVoid_iff : invoiceTakesVoid s l = true ↔
    ∃ k i, l.invoice = some k ∧ s.invoice k = some i ∧ i.state = .opened ∧ i.firstLine ≤ l.sequence := by
  simp only [invoiceTakesVoid]
  split
  · next i hi =>
    obtain ⟨k, hk, hi⟩ := Option.bind_eq_some_iff.1 hi
    simp [hk, hi]
  · next hnone =>
    refine ⟨fun h => by simp at h, fun ⟨k, i, hk, hi, _⟩ => ?_⟩
    exact absurd (Option.bind_eq_some_iff.2 ⟨k, hk, hi⟩) (by simp [hnone])

/-- One more place and one more number beside those promised (R147, R152). -/
theorem grantable_iff : grantable s = true ↔
    s.ledger.journal.lastWritten - s.ledger.journal.lastReleased + reservationsHeld s < 8192 ∧
      s.ledger.journal.lastWritten + reservationsHeld s < 4294967295 := by
  rw [grantable, sequenceRoom, Bool.and_eq_true, decide_eq_true_iff, decide_eq_true_iff, freeSpace, unreleased,
    Config.journalPlaces, Config.lastSequence]
  omega

/-! ## SALE-VOID judged (R156) -/

theorem judgeVoid_spent (h : s.line n = some l) (hspent : l.kind ≠ .sale ∨ l.voided = true) :
    judgeVoid s n = .refuse .state .empty := by
  simp [judgeVoid, h, hspent]

theorem judgeVoid_state (h : s.line n = some l) (hno : voidable s l = false ∨ invoiceTakesVoid s l = false) :
    judgeVoid s n = .refuse .state .empty := by
  simp only [judgeVoid, h]
  split
  · rfl
  · rcases hno with hno | hno
    · simp [hno]
    · split <;> simp [hno]

theorem judgeVoid_room (h : s.line n = some l) (hkind : l.kind = .sale) (hvoided : l.voided = false)
    (hclock : voidable s l = true) (hinvoice : invoiceTakesVoid s l = true) :
    judgeVoid s n = if grantable s then .go else .refuse .journalFull .empty := by
  cases hroom : grantable s <;> simp [judgeVoid, h, hkind, hvoided, hclock, hinvoice, hroom]

/-- Settles O39: each request's own checks, one after the other. -/
theorem requestsJudged : Obligations.RequestsJudged := by
  unfold Obligations.RequestsJudged
  intro s
  refine ⟨fun a => ⟨fun h => ?enterHeld, fun h hfull => ?enterFull, fun h hroom => ?enter⟩, fun n a limit h ha => ?noAccount,
    fun n a limit b h ha => ⟨?flags, fun hlow => ?limitLow, fun hok => ?limit, fun hin => ?removeState,
      fun hdebt hopen hdesks hclosed => ?remove, fun hnone => ?closeState, fun i hi => ?close⟩,
    fun fc rate => rfl, fun n h => ?noInvoice, fun n i h => ⟨fun hopen => ?opened, fun hclosed => ?closed⟩,
    fun h => ?dayClose, fun c hidle hclosed hbelow => ?dayBusy, fun n h => ?noLine,
    fun n l h => ⟨fun hspent => ?spent, fun hno => ?clock, fun hno => ?invoice,
      fun m k i hkind hvoided hheld hlot hmark hm hk hi hopen hfirst => ?void⟩⟩
  case enterHeld => simp [judgeRequest, h]
  case enterFull => simp [judgeRequest, h, Config.buyerAccounts, hfull]
  case enter => simp [judgeRequest, h, Config.buyerAccounts, Nat.not_le.2 hroom]
  case noAccount => subst ha; simp [judgeRequest, invoiceToClose, h]
  case flags => subst ha; simp [judgeRequest, h]
  case limitLow => simp [judgeRequest, h, hlow]
  case limit => simp [judgeRequest, h, Nat.not_lt.2 hok]
  case removeState =>
    rw [← closedInvoices_pos_iff, Ne, ← Option.not_isSome_iff_eq_none, not_not] at hin
    simp [judgeRequest, h, hin]
  case remove =>
    have hnone : ¬ 0 < closedInvoices s n := fun hpos =>
      (closedInvoices_pos_iff.1 hpos).elim fun i ⟨hi, hbuyer, hstate⟩ => hclosed i hi hbuyer hstate
    simp [judgeRequest, h, hdebt, hopen, hdesks, hnone]
  case closeState => simp [judgeRequest, invoiceToClose, h, hnone]
  case close => simp [judgeRequest, invoiceToClose, h, hi]
  case noInvoice => simp [judgeRequest, invoiceToClose, h]
  case opened => simp [judgeRequest, invoiceToClose, h, hopen]
  case closed => simp [judgeRequest, invoiceToClose, h, hclosed]
  case dayClose => simp [judgeRequest, busyClock_eq_none h]
  case dayBusy => simp [judgeRequest, busyClock_eq_some hidle hclosed hbelow]
  case noLine => simp [judgeRequest, judgeVoid, h]
  case spent => exact judgeVoid_spent h hspent
  case clock =>
    refine judgeVoid_state h (.inl (Bool.eq_false_iff.2 fun hv => ?_))
    obtain ⟨hheld, hlot, hmark⟩ := voidable_iff.1 hv
    exact hno.elim (· hheld) (Or.elim · (· hlot) (· hmark))
  case invoice => exact judgeVoid_state h (.inr (Bool.eq_false_iff.2 fun hv => hno (invoiceTakesVoid_iff.1 hv)))
  case void =>
    have hclock := voidable_iff.2 ⟨hheld, hlot, m, hmark, hm⟩
    have hinvoice := invoiceTakesVoid_iff.2 ⟨k, i, hk, hi, hopen, hfirst⟩
    exact (judgeVoid_room h hkind hvoided hclock hinvoice).trans (if_congr grantable_iff rfl rfl)

/-! ## A request arrives at the arbiter (R134, R135) -/

theorem exec_ledgerCommand_ready (h : Ready s) :
    exec (ledgerCommand tag r) s = .next (arriveLedger tag r (framed s)) :=
  (exec_requestCommand tag (.ledger r) s).trans (congrArg _ (hostRequest_ready s h tag (.ledger r)))

/-- A request that joins the list: the arbiter with one more waiting. -/
def joined (tag : Byte) (r : LedgerRequest) (s : State) : State :=
  s.setArbiter { s.ledger.arbiter with requests := s.ledger.arbiter.requests ++ [(tag, r)] }

theorem arriveLedger_joins (hkey : ledgerKeyRefused s.hall.key r = false) (hfault : ledgerFault r = none)
    (hroom : s.ledger.arbiter.requests.length < 8) : arriveLedger tag r s = serveWaiting (joined tag r s) := by
  simp [arriveLedger, hkey, hfault, Config.ledgerWaiting, Nat.not_le.2 hroom, joined]

/-- What a request is judged on is not the list it has joined. -/
theorem judgeRequest_joined : judgeRequest (joined tag r s) r = judgeRequest s r := by cases r <;> rfl

theorem lineClock_joined : lineClock (joined tag r s) r = lineClock s r := by cases r <;> rfl

/-- The only request waiting is served at once (R135, R136). -/
theorem serveWaiting_joined (hwaits : NothingWaits s) (hidle : s.ledger.arbiter.inProgress = none)
    (hreset : s.hlp.resetting = none) (hmain : s.hall.main = .present) :
    serveWaiting (joined tag r s) = s.setArbiter { s.ledger.arbiter with
      inProgress := some (.host tag r (lineClock s r) (judgeRequest s r)) } := by
  obtain ⟨hrequests, hcommits⟩ := hwaits
  have hserve : mayServe (joined tag r s) = true := by simp [mayServe, joined, hidle, hreset, hmain]
  have hchoice : choose (joined tag r s).ledger.arbiter = .request := by
    simp [choose, joined, serviceOrder, hcommits]
  have hlist : (joined tag r s).ledger.arbiter.requests = [(tag, r)] := by simp [joined, hrequests]
  rw [serveWaiting, if_pos hserve, hchoice]
  simp only [serveChoice, hlist, judgeRequest_joined, lineClock_joined, ← hrequests]
  rfl

/-- Settles O38: the key gate, the fields and the room at the arbiter, then the service where nothing is before it. -/
theorem ledgerRequestArrives : Obligations.LedgerRequestArrives := by
  unfold Obligations.LedgerRequestArrives
  intro tag r s hready
  have arrives := exec_ledgerCommand_ready (tag := tag) (r := r) hready
  obtain ⟨hmain, -, -, hreset, -⟩ := hready
  refine ⟨fun hkey => ?key, fun pos hkey hfault => ?field, fun hkey hfault => ⟨fun hidle hwaits => ?served,
    fun op hop hroom => ?waits, fun hfull => ?busy⟩⟩
  all_goals rw [arrives]
  case key => simp [arriveLedger, hkey]; rfl
  case field => simp [arriveLedger, hkey, hfault]; rfl
  case served =>
    have hroom : (framed s).ledger.arbiter.requests.length < 8 := by simp [hwaits.1]
    rw [arriveLedger_joins (s := framed s) hkey hfault hroom,
      serveWaiting_joined (s := framed s) hwaits hidle hreset hmain]
    cases r <;> rfl
  case waits =>
    rw [arriveLedger_joins (s := framed s) hkey hfault hroom,
      serveWaiting_busy (s := joined tag r (framed s)) (op := op) hop]
    rfl
  case busy => simp [arriveLedger, hkey, hfault, Config.ledgerWaiting, hfull]; rfl

/-! ## Account and tariff operations complete (R128 to R131, R133) -/

theorem exec_saleVoidComplete {line : Option ClockId} {v : Service}
    (h : s.ledger.arbiter.inProgress = some (.host tag (.saleVoid n) line v)) :
    exec .saleVoidComplete s = .next (completeHost tag (.saleVoid n) v s) := by
  show execSaleVoidComplete s = _
  rw [execSaleVoidComplete, h]

/-- Settles O40: each request's own changes, and none where it was judged refused, with its reply. -/
theorem accountOperationsComplete : Obligations.AccountOperationsComplete := by
  unfold Obligations.AccountOperationsComplete
  intro tag line s hmain hwaits hreset
  refine ⟨fun a hop => ?enter, fun n act fl b hop hb => ?flags, fun n limit b hop hb => ?limit,
    fun n b hop hb hdesks => ?remove, fun fc rate hfc hop => ?tariff, fun n b hop hb hdesks => ?bound,
    fun r st body hr hday hop => ?refused, fun n st body hop => ?void⟩
  case enter =>
    refine exec_ledgerOperationComplete_replied hmain hwaits hreset hop (by simp) ?_ rfl rfl (by simp)
    simp only [requestChanges, applyRequest, accept, insertKey_length]
    rfl
  case flags =>
    refine exec_ledgerOperationComplete_replied hmain hwaits hreset hop (by simp) ?_ rfl rfl (by simp)
    have found := modBuyer_buyer_of_some (s := free s) (n := n)
      (f := fun b => { b with flags := applyFlags act fl b.flags }) (fun _ => rfl) hb
    simp only [requestChanges, applyRequest, Option.getD_some, found]
    rfl
  case limit =>
    refine exec_ledgerOperationComplete_replied hmain hwaits hreset hop (by simp) ?_ rfl rfl (by simp)
    have found := modBuyer_buyer_of_some (s := free s) (n := n) (f := fun b => { b with limit := limit })
      (fun _ => rfl) hb
    simp only [requestChanges, applyRequest, committedOf_eq found, availableOf_eq found]
    rfl
  case remove =>
    refine exec_ledgerOperationComplete_replied hmain hwaits hreset hop (by simp) ?_ rfl rfl (by simp)
    have hb' : (free s).buyer n = some b := hb
    simp only [requestChanges, applyRequest, hb', Option.map_some, Option.getD_some, hdesks]
    rfl
  case tariff =>
    refine exec_ledgerOperationComplete_replied hmain hwaits hreset hop (by simp) ?_ rfl rfl (by simp)
    simp only [requestChanges, applyRequest, dif_pos hfc]
    rfl
  case bound =>
    refine exec_ledgerOperationComplete_replied hmain hwaits hreset hop (by simp) ?_ rfl rfl (by simp)
    have hb' : (free s).buyer n = some b := hb
    simp only [requestChanges, applyRequest, hb', Option.map_some, Option.getD_some, if_neg hdesks]
    rfl
  case refused => exact exec_ledgerOperationComplete_replied hmain hwaits hreset hop hr rfl rfl rfl hday
  case void =>
    exact (exec_saleVoidComplete hop).trans
      (congrArg _ (completeHost_replied hmain hwaits hreset rfl rfl rfl (by simp)))

end Sys2Proof.Machine
end

section
/-! The completion of an operation (R134, R135, R138): what it changes of the records, what the rest of its event does, and
the operation that the arbiter serves behind it. -/

set_option Elab.async false

namespace Sys2Proof.Machine

open Sys2Proof.Safety

variable {s t u : State} {c d : ClockId} {n : Nat} {op : Operation} {r : CommitRequest} {tag : Byte}

/-! ## The event of a completion -/

/-- `s` with the records changed as the completion of an operation changes them, and nothing in progress. -/
def changedBy (op : Operation) (s : State) : State :=
  match op with
  | .commit c r a => commitChanges c r a (free s)
  | .host _ r _ v => (requestChanges r v (free s)).state

/-- The rest of a completion's event while the main supply is PRESENT: the clock's part in its commit, or the reply, with
the requests that a DAY-CLOSE has deferred. -/
def answeredBy (op : Operation) (s : State) : State :=
  match op with
  | .commit c r a => clockAnswered c r a (commitChanges c r a (free s))
  | .host tag r _ v =>
    let a := requestChanges r v (free s)
    let t := placeReply (ledgerReply tag r a.status a.body) a.state
    if r = .dayClose then releaseAllDeferred t else t

theorem exec_completionOf (hop : s.ledger.arbiter.inProgress = some op) : exec (completionOf op) s = .next
    (match op with
      | .commit c r a => completeCommit c r a s
      | .host tag r _ v => completeHost tag r v s) := by
  cases op with
  | commit c r a => exact exec_saleCommitComplete hop
  | host tag r line v =>
    cases r with
    | saleVoid n => exact exec_saleVoidComplete hop
    | _ => exact exec_ledgerOperationComplete hop (by simp)

/-- With the supply PRESENT the event is carried out whole, and then the operation chosen before it is served. -/
theorem exec_completionOf_present (hop : s.ledger.arbiter.inProgress = some op) (hmain : s.hall.main = .present) :
    exec (completionOf op) s = .next (afterCompletion (choiceNow (free s)) (answeredBy op s)) := by
  have hmain' : (clearProgress s).hall.main = .present := hmain
  rw [exec_completionOf hop]
  cases op with
  | commit c r a =>
    simp only [completeCommit, hmain']
    rfl
  | host tag r line v =>
    simp only [completeHost, hmain']
    cases r <;> rfl

/-- With the supply FAILED the records alone change (R145). -/
theorem exec_completionOf_failed (hop : s.ledger.arbiter.inProgress = some op) (hmain : s.hall.main = .failed) :
    exec (completionOf op) s = .next (changedBy op s) := by
  have hmain' : (clearProgress s).hall.main = .failed := hmain
  rw [exec_completionOf hop]
  cases op with
  | commit c r a =>
    simp only [completeCommit, hmain']
    rfl
  | host tag r line v =>
    simp only [completeHost, hmain']
    rfl

/-! ## What the event leaves of the arbiter -/

theorem closeInvoice_arbiter (n : Nat) (s : State) : (closeInvoice n s).ledger.arbiter = s.ledger.arbiter := by
  obtain ⟨buyers, invoices, h⟩ := closeInvoice_frame n s
  rw [h]

theorem closeAll_arbiter (l : List Invoice) (s : State) : (closeAll l s).ledger.arbiter = s.ledger.arbiter := by
  obtain ⟨buyers, invoices, h⟩ := closeAll_frame l s
  rw [h]

theorem writeVoid_arbiter {l : JournalLine} : (writeVoid l s).ledger.arbiter = s.ledger.arbiter := by
  simp only [writeVoid]
  split
  · split <;> rfl
  · rfl

theorem applyRequest_arbiter (q : LedgerRequest) (s : State) :
    (applyRequest s q).state.ledger.arbiter = s.ledger.arbiter := by
  cases q with
  | buyerEnter a => rfl
  | buyerFlags a => simp only [applyRequest]; split <;> rfl
  | buyerLimit number limit => rfl
  | buyerRemove number => simp only [applyRequest]; split <;> rfl
  | tariffSet feeClass rate => simp only [applyRequest]; split <;> rfl
  | saleVoid n =>
    simp only [applyRequest, applyVoid]
    split
    · rfl
    · split
      · rfl
      · exact writeVoid_arbiter
  | paymentPost n => simp only [applyRequest, applyPayment]; split <;> rfl
  | invoiceClose which =>
    simp only [applyRequest]
    split
    · unfold applyClose
      split
      · rfl
      · exact closeInvoice_arbiter ..
    · rfl
  | dayClose => exact closeAll_arbiter _ s

theorem changedBy_arbiter : (changedBy op s).ledger.arbiter = (free s).ledger.arbiter := by
  cases op with
  | commit c r a =>
    cases a with
    | accepted f => exact writeSale_arbiter
    | refused x => rfl
  | host tag q line v =>
    cases v with
    | refuse status body => rfl
    | go => exact applyRequest_arbiter q (free s)

/-- The rest of the event leaves the records as changed, but for the waiting commit of the clock whose commit completes. -/
theorem answeredBy_records (op : Operation) (s : State) :
    ∃ commits : Vector (Option CommitRequest) 4, recordsOf (answeredBy op s).ledger =
      (tablesOf (changedBy op s).ledger, { s.ledger.arbiter with inProgress := none, commits := commits }) ∧
      ∀ d, (∀ r a, op ≠ .commit d r a) → commits.get d = s.ledger.arbiter.commits.get d := by
  have arbiter := changedBy_arbiter (op := op) (s := s)
  cases op with
  | commit c r a =>
    obtain ⟨w, hw⟩ := clockAnswered_records c r a (changedBy (.commit c r a) s)
    rw [recordsWith, arbiter] at hw
    exact ⟨_, hw, fun d hd => vector_get_set_ne _ _ _ _ fun e => hd r a (e ▸ rfl)⟩
  | host tag q line v =>
    refine ⟨s.ledger.arbiter.commits, ?_, fun _ _ => rfl⟩
    have replied : recordsOf (answeredBy (.host tag q line v) s).ledger =
        recordsOf (changedBy (.host tag q line v) s).ledger := by
      simp only [answeredBy]
      split
      · exact recordsOf_releaseAllDeferred
      · rfl
    rw [replied, recordsOf, arbiter]
    rfl

/-! ## The arbiter's choice (R135) -/

theorem serviceOrder_eq (last : ClockId) : serviceOrder last = allClocks.map fun k => last + 1 + k := by
  revert last
  decide

/-- The first clock with a commit waiting in the order after the clock last served. -/
theorem choose_commit {a : Arbiter} {k : ClockId} (hk : (a.commits.get (a.lastServed + 1 + k)).isSome)
    (hbefore : ∀ j, j < k → a.commits.get (a.lastServed + 1 + j) = none) :
    choose a = .commit (a.lastServed + 1 + k) := by
  have first := find_allClocks (p := fun k => (a.commits.get (a.lastServed + 1 + k)).isSome) hk fun j hj => by
    simp [hbefore j hj]
  simp only [choose, serviceOrder_eq, List.find?_map, Function.comp_def, first, Option.map_some]

theorem choose_request {a : Arbiter} {x : Byte × LedgerRequest} {rest : List (Byte × LedgerRequest)}
    (hnone : ∀ d, a.commits.get d = none) (hx : a.requests = x :: rest) : choose a = .request := by
  simp [choose, serviceOrder, hnone, hx]

/-- Where an operation waits, a waiting one is chosen. -/
theorem choose_waiting {a : Arbiter} (h : (∃ d, a.commits.get d ≠ none) ∨ a.requests ≠ []) :
    (∃ d r, choose a = .commit d ∧ a.commits.get d = some r) ∨
      ∃ x rest, choose a = .request ∧ a.requests = x :: rest := by
  unfold choose
  split
  · next d hd =>
    obtain ⟨r, hr⟩ := Option.isSome_iff_exists.1
      (List.find?_some (p := fun d => (a.commits.get d).isSome) hd)
    exact .inl ⟨d, r, rfl, hr⟩
  · next hnone =>
    have none : ∀ d, a.commits.get d = none := fun d => by
      have hd : d ∈ serviceOrder a.lastServed := by
        generalize a.lastServed = last
        revert d last
        decide
      simpa using List.find?_eq_none.1 hnone d hd
    cases hx : a.requests with
    | nil => exact (h.elim (fun ⟨d, hd⟩ => hd (none d)) (· hx)).elim
    | cons x rest => exact .inr ⟨x, rest, rfl, rfl⟩

theorem choiceNow_free (hmain : s.hall.main = .present) (hreset : s.hlp.resetting = none) :
    choiceNow (free s) = choose s.ledger.arbiter := by
  have hserve : mayServe (free s) = true := by simp [mayServe, free, hmain, hreset]
  rw [choiceNow, if_pos hserve]
  rfl

/-! ## The operation chosen is served (R135, R136) -/

theorem continueReset_busy (h : s.ledger.arbiter.inProgress = some op) : continueReset s = s := by
  simp [continueReset, h]

theorem afterCompletion_commit (hr : s.ledger.arbiter.commits.get d = some r) :
    afterCompletion (.commit d) s = s.setArbiter { s.ledger.arbiter with
      inProgress := some (.commit d r (judgeCommit s d r)), commits := s.ledger.arbiter.commits.set d none,
      lastServed := d } := by
  simp only [afterCompletion, serveChoice, hr]
  rw [serveWaiting_busy (op := .commit d r (judgeCommit s d r)) rfl, continueReset_busy (op := _) rfl]

theorem afterCompletion_request {q : LedgerRequest} {rest : List (Byte × LedgerRequest)}
    (hr : s.ledger.arbiter.requests = (tag, q) :: rest) :
    afterCompletion .request s = s.setArbiter { s.ledger.arbiter with
      inProgress := some (.host tag q (lineClock s q) (judgeRequest s q)), requests := rest } := by
  simp only [afterCompletion, serveChoice, hr]
  rw [serveWaiting_busy (op := .host tag q (lineClock s q) (judgeRequest s q)) rfl, continueReset_busy (op := _) rfl]

/-- What is judged does not read the arbiter. -/
theorem judgeCommit_setArbiter (a : Arbiter) : judgeCommit (s.setArbiter a) d r = judgeCommit s d r := rfl

theorem judgeRequest_setArbiter (a : Arbiter) (q : LedgerRequest) :
    judgeRequest (s.setArbiter a) q = judgeRequest s q := by cases q <;> rfl

theorem lineClock_setArbiter (a : Arbiter) (q : LedgerRequest) : lineClock (s.setArbiter a) q = lineClock s q := by
  cases q <;> rfl

/-- The next candidate of a refused one is placed for its clock (R116). -/
theorem answeredBy_refused_more {x : CommitRefusal} {q p : Press} {rest : List Press}
    (hc : (s.clock c).collection = q :: p :: rest) (hn : (s.clock c).lot = some n) :
    (answeredBy (.commit c r (.refused x)) s).ledger.arbiter.commits.get c =
      some { lot := n, desk := p.desk, packs := p.packs, step := p.step } := by
  have next : answeredBy (.commit c r (.refused x)) s = placeCommit c (candidateRefused c r x s) := by
    show offerNext c (candidateRefused c r x s) = _
    simp [offerNext, hc]
  rw [next, placeCommit_first (x := p) (l := rest) (n := n) (by simp [hc]) (by simp [hn])]
  simp

/-- Settles O46: the choice is made before the event, and nothing of the event but the clock's own next candidate reaches
the waiting operations; the one served reads the records as they stand at the end. -/
theorem arbiterChooses : Obligations.ArbiterChooses := by
  unfold Obligations.ArbiterChooses
  intro op s hmain hreset hop hown
  obtain ⟨commits, hrecords, hcommits⟩ := answeredBy_records op s
  have harbiter : (answeredBy op s).ledger.arbiter = { s.ledger.arbiter with inProgress := none, commits := commits } :=
    congrArg Prod.snd hrecords
  have other : ∀ d r, s.ledger.arbiter.commits.get d = some r → commits.get d = some r := fun d r hr =>
    (hcommits d fun r' a e => by simp [hown d r' a e] at hr).trans hr
  refine ⟨_, exec_completionOf_present hop hmain, fun k d r hd hr hbefore => ?commit,
    fun tag r rest hnone hrequests => ?request, fun c r p q rest n hc hcol hrest hn hwaits => ?next⟩
  all_goals rw [choiceNow_free hmain hreset]
  case commit =>
    subst hd
    rw [choose_commit (Option.isSome_of_eq_some hr) hbefore,
      afterCompletion_commit (s := answeredBy op s) (by rw [harbiter]; exact other _ r hr), judgeCommit_setArbiter, harbiter]
    exact ⟨rfl, by simp, rfl, fun e he heop => (vector_get_set_ne _ _ _ _ he).trans (hcommits e heop), rfl⟩
  case request =>
    rw [choose_request hnone hrequests, afterCompletion_request (s := answeredBy op s) (by rw [harbiter]; exact hrequests),
      judgeRequest_setArbiter, lineClock_setArbiter, harbiter]
    exact ⟨rfl, rfl, rfl⟩
  case next =>
    subst hc
    obtain ⟨x, rest, rfl⟩ := List.exists_cons_of_ne_nil hrest
    have placed := answeredBy_refused_more (r := r) (x := p) hcol hn
    rcases choose_waiting hwaits with ⟨d, r', hchoice, hr'⟩ | ⟨⟨tag, r'⟩, more, hchoice, hmore⟩
    · have hcd : c ≠ d := fun e => by simp [hown c r _ rfl, ← e] at hr'
      rw [hchoice, afterCompletion_commit (by rw [harbiter]; exact other d r' hr')]
      exact (vector_get_set_ne _ _ _ _ hcd).trans placed
    · rw [hchoice, afterCompletion_request (by rw [harbiter]; exact hmore)]
      exact placed

end Sys2Proof.Machine
end

section
/-! What an accepted SALE-COMMIT changes of the records (R139), and what the change reads of the supply and the time
(R145). -/

set_option Elab.async false

namespace Sys2Proof.Machine

open Sys2Proof.Safety

variable {s t u : State} {c d : ClockId} {n : Nat} {op : Operation} {r : CommitRequest} {f : SaleFigures}

/-! ## The changes of a sale (R139, R142) -/

/-- The account sold to: its debit is drawn. -/
def soldTo (f : SaleFigures) (b : Buyer) : Buyer := { b with committed := b.committed + f.debit }

/-- The lot sold: its packs leave it. -/
def soldFrom (f : SaleFigures) (l : Lot) : Lot :=
  { l with packsSold := l.packsSold + f.packs, packsRemaining := l.packsRemaining - f.packs }

/-- The invoice that takes the line `seq` of a sale. -/
def withSale (f : SaleFigures) (seq : Nat) (i : Invoice) : Invoice :=
  { i with lineCount := i.lineCount + 1, lastLine := seq, goods := i.goods + f.amount, levies := i.levies + f.levy,
           debits := i.debits + f.debit }

/-- The invoice that a sale to the buyer is written on. -/
def saleInvoiceNumber (f : SaleFigures) (s : State) : Nat := (openInvoiceOf s f.buyer).getD 0

/-- The records after the sale of `r` with the figures `f` as line `seq`, the buyer's invoice being open. -/
def soldLedger (c : ClockId) (r : CommitRequest) (f : SaleFigures) (seq : Nat) (s : State) : Ledger :=
  { s.ledger with
    buyers := modKey Buyer.number f.buyer (soldTo f) s.ledger.buyers
    invoices := modKey Invoice.number (saleInvoiceNumber f s) (withSale f seq) s.ledger.invoices
    journal := { s.ledger.journal with
      lines := s.ledger.journal.lines ++ [saleLineOf s c r f (saleInvoiceNumber f s)]
      lastWritten := s.ledger.journal.lastWritten + 1 }
    lastSale := s.ledger.lastSale.set c (some
      { lot := r.lot, buyer := f.buyer, desk := r.desk, packs := f.packs, price := f.price, sequence := seq })
    counters := { s.ledger.counters with
      accepted := countUp top16 s.ledger.counters.accepted
      cut := if f.packs < f.quantity then countUp top16 s.ledger.counters.cut else s.ledger.counters.cut } }

/-- `s` after that sale: the reservation is used, the packs leave the lot. -/
def sold (c : ClockId) (r : CommitRequest) (f : SaleFigures) (seq : Nat) (s : State) : State :=
  { s with
    clocks := s.clocks.set c { s.clock c with reservation := false }
    lots := modKey Lot.number r.lot (soldFrom f) s.lots
    ledger := soldLedger c r f seq s }

theorem writeSale_eq :
    writeSale c r f s = sold c r f (s.ledger.journal.lastWritten + 1) (openedFor f.buyer s) := by
  unfold writeSale
  extract_lets seq o
  have opened : openedFor f.buyer s = o := rfl
  rw [opened]
  clear_value o
  rfl

/-- `s` with the main supply `x` at the time `now`. -/
def under (x : MainSupply) (now : Nat) (s : State) : State :=
  { s with timebase := now, hall := { s.hall with main := x } }

theorem openedFor_under (x : MainSupply) (now : Nat) : openedFor n (under x now s) = under x now (openedFor n s) := by
  have same : openInvoiceOf (under x now s) n = openInvoiceOf s n := rfl
  unfold openedFor
  rw [same]
  split <;> rfl

theorem closeInvoice_under (x : MainSupply) (now : Nat) :
    closeInvoice n (under x now s) = under x now (closeInvoice n s) := by
  have same : (under x now s).invoice n = s.invoice n := rfl
  unfold closeInvoice
  rw [same]
  split <;> rfl

theorem closeAll_under (x : MainSupply) (now : Nat) (l : List Invoice) :
    closeAll l (under x now s) = under x now (closeAll l s) := by
  induction l generalizing s with
  | nil => rfl
  | cons i l ih => exact (congrArg (closeAll l) (closeInvoice_under x now)).trans ih

/-! ## The changes of a void (R157) -/

/-- The last-sale record of a voided line's clock goes where it is that line's (R157). -/
def withoutSale (l : JournalLine) (s : State) : State :=
  match s.ledger.lastSale.get l.clock with
  | some x => if x.sequence = l.sequence then s.setLastSale l.clock none else s
  | none => s

theorem withoutSale_eq (l : JournalLine) (s : State) :
    ∃ x, withoutSale l s = { s with ledger := { s.ledger with lastSale := x } } := by
  unfold withoutSale
  split
  · split
    · exact ⟨_, rfl⟩
    · exact ⟨_, rfl⟩
  · exact ⟨_, rfl⟩

theorem withoutSale_under (x : MainSupply) (now : Nat) (l : JournalLine) :
    withoutSale l (under x now s) = under x now (withoutSale l s) := by
  have same : (under x now s).ledger = s.ledger := rfl
  unfold withoutSale
  rw [same]
  split
  · split <;> rfl
  · rfl

/-- The lot that a voided sale's packs return to. -/
def voidedLot (l : JournalLine) (x : Lot) : Lot :=
  { x with packsSold := x.packsSold - l.packs, packsRemaining := x.packsRemaining + l.packs }

/-- The records with the line `l` voided, but for the last-sale record. -/
def voidedLedger (l : JournalLine) (s : State) : Ledger :=
  { s.ledger with
    buyers := modKey Buyer.number (l.buyer.getD 0) (fun b => { b with committed := b.committed - l.debit })
      s.ledger.buyers
    invoices := modKey Invoice.number (l.invoice.getD 0) (fun i => { i with
      goods := i.goods - l.amount, levies := i.levies - l.levy, debits := i.debits - l.debit,
      lineCount := i.lineCount + 1, lastLine := s.ledger.journal.lastWritten + 1 }) s.ledger.invoices
    journal := { s.ledger.journal with
      lines := modKey JournalLine.sequence l.sequence (fun x => { x with voided := true })
        (s.ledger.journal.lines ++ [{ l with
          kind := .void, voidedSequence := some l.sequence, voided := false,
          sequence := s.ledger.journal.lastWritten + 1, stamp := s.hall.calendar, stampValid := s.hall.timeSet }])
      lastWritten := s.ledger.journal.lastWritten + 1 } }

theorem writeVoid_eq (l : JournalLine) (s : State) : writeVoid l s =
    markChanged l.clock (withoutSale l
      { s with lots := modKey Lot.number l.lot (voidedLot l) s.lots, ledger := voidedLedger l s }) := rfl

theorem writeVoid_under (x : MainSupply) (now : Nat) (l : JournalLine) :
    writeVoid l (under x now s) = under x now (writeVoid l s) := by
  rw [writeVoid_eq, writeVoid_eq]
  exact congrArg (markChanged l.clock) (withoutSale_under x now l
    (s := { s with lots := modKey Lot.number l.lot (voidedLot l) s.lots, ledger := voidedLedger l s }))

/-! ## The supply and the time are not read (R145) -/

theorem applyRequest_under (x : MainSupply) (now : Nat) (q : LedgerRequest) :
    (applyRequest (under x now s) q).state = under x now (applyRequest s q).state := by
  cases q with
  | buyerEnter a => rfl
  | buyerFlags a =>
    simp only [applyRequest]
    split
    all_goals
      split
      all_goals rfl
  | buyerLimit number limit => rfl
  | buyerRemove number =>
    have same : (under x now s).buyer number = s.buyer number := rfl
    simp only [applyRequest, same]
    split <;> rfl
  | tariffSet feeClass rate => simp only [applyRequest]; split <;> rfl
  | saleVoid n =>
    have line : (under x now s).line n = s.line n := rfl
    have room : grantable (under x now s) = grantable s := rfl
    simp only [applyRequest, applyVoid, line, room]
    split
    · rfl
    · split
      · rfl
      · exact writeVoid_under x now _
  | paymentPost n =>
    have same : (under x now s).invoice n = s.invoice n := rfl
    simp only [applyRequest, applyPayment, same]
    split <;> rfl
  | invoiceClose which =>
    have same : invoiceToClose (under x now s) which = invoiceToClose s which := by cases which <;> rfl
    simp only [applyRequest, same]
    split
    · next n _ =>
      have same : (under x now s).invoice n = s.invoice n := rfl
      simp only [applyClose, same]
      split
      · rfl
      · exact closeInvoice_under x now
    · rfl
  | dayClose => exact closeAll_under x now (openInvoices s)

theorem changedBy_under (x : MainSupply) (now : Nat) : changedBy op (under x now s) = under x now (changedBy op s) := by
  cases op with
  | commit c r a =>
    cases a with
    | accepted f =>
      show writeSale c r f (under x now (free s)) = under x now (writeSale c r f (free s))
      rw [writeSale_eq, writeSale_eq, openedFor_under]
      rfl
    | refused y => rfl
  | host tag q line v =>
    cases v with
    | refuse status body => rfl
    | go => exact applyRequest_under (s := free s) x now q

/-! ## What the change of the records leaves -/

/-- From `s` to `t` records alone have changed: the ledger and the lots, a board's snapshot mark, and of the clocks no
more than a reservation. -/
def RecordsOnly (s t : State) : Prop :=
  ∃ clocks lots ledger boards, t = { s with clocks := clocks, lots := lots, ledger := ledger, boards := boards } ∧
    ∀ d, clocks.get d = { s.clock d with reservation := (clocks.get d).reservation }

theorem recordsOnly_of_records (lots : List Lot) (ledger : Ledger) (boards : Vector Board 4) :
    RecordsOnly s { s with lots := lots, ledger := ledger, boards := boards } :=
  ⟨s.clocks, lots, ledger, boards, rfl, fun _ => rfl⟩

theorem recordsOnly_ledger (ledger : Ledger) : RecordsOnly s { s with ledger := ledger } :=
  recordsOnly_of_records s.lots ledger s.boards

theorem openedFor_eq (n : Nat) (s : State) : openedFor n s = { s with ledger := (openedFor n s).ledger } := by
  unfold openedFor
  split <;> rfl

theorem recordsOnly_writeSale : RecordsOnly s (writeSale c r f s) := by
  rw [writeSale_eq, openedFor_eq]
  refine ⟨_, _, _, _, rfl, fun d => ?_⟩
  by_cases h : d = c
  · subst h
    rw [vector_get_set_self]
    rfl
  · rw [vector_get_set_ne _ _ _ _ h]
    rfl

theorem recordsOnly_writeVoid (l : JournalLine) : RecordsOnly s (writeVoid l s) := by
  obtain ⟨x, hx⟩ := withoutSale_eq l
    { s with lots := modKey Lot.number l.lot (voidedLot l) s.lots, ledger := voidedLedger l s }
  rw [writeVoid_eq, hx]
  exact recordsOnly_of_records _ _ _

theorem recordsOnly_applyRequest (q : LedgerRequest) : RecordsOnly s (applyRequest s q).state := by
  cases q with
  | buyerEnter a => exact recordsOnly_ledger _
  | buyerFlags a =>
    simp only [applyRequest]
    split <;> exact recordsOnly_ledger _
  | buyerLimit number limit => exact recordsOnly_ledger _
  | buyerRemove number =>
    simp only [applyRequest]
    split <;> exact recordsOnly_ledger _
  | tariffSet feeClass rate =>
    simp only [applyRequest]
    split <;> exact recordsOnly_ledger _
  | saleVoid n =>
    simp only [applyRequest, applyVoid]
    split
    · exact recordsOnly_ledger _
    · split
      · exact recordsOnly_ledger _
      · exact recordsOnly_writeVoid _
  | paymentPost n =>
    simp only [applyRequest, applyPayment]
    split <;> exact recordsOnly_ledger _
  | invoiceClose which =>
    simp only [applyRequest]
    split
    · unfold applyClose
      split
      · exact recordsOnly_ledger _
      · obtain ⟨buyers, invoices, h⟩ := closeInvoice_frame _ s
        exact h ▸ recordsOnly_ledger _
    · exact recordsOnly_ledger _
  | dayClose =>
    obtain ⟨buyers, invoices, h⟩ := closeAll_frame (openInvoices s) s
    show RecordsOnly s (closeAll (openInvoices s) s)
    exact h ▸ recordsOnly_ledger _

theorem changedBy_recordsOnly (op : Operation) (s : State) : RecordsOnly s (changedBy op s) := by
  cases op with
  | commit c r a =>
    cases a with
    | accepted f => exact recordsOnly_writeSale (s := free s)
    | refused y => exact recordsOnly_ledger _
  | host tag q line v =>
    cases v with
    | refuse status body => exact recordsOnly_ledger _
    | go => exact recordsOnly_applyRequest (s := free s) q

/-! ## The clock's part in a sale (R111, R118) -/

/-- The collection emptied, its other entries answered OUTBID and the winning desk's lamp pulsed. -/
def desksTold (c : ClockId) (r : CommitRequest) (s : State) : State :=
  pulseWin r.desk ((s.clock c).collection.tail.foldl (fun s p => refusePress p.desk .outbid c s)
    (s.setClock c { s.clock c with collection := [] }))

/-- The SALE report of a sale that leaves the lot as `l` (R118). -/
def saleReport (c : ClockId) (r : CommitRequest) (f : SaleFigures) (seq : Nat) (l : Lot) (s : State) : ReportBody :=
  .sale
    { clock := c, lot := r.lot, run := (s.clock c).run, sequence := seq, buyer := f.buyer, desk := r.desk,
      step := r.step, price := f.price, requested := r.packs, packs := f.packs, amount := f.amount, levy := f.levy,
      debit := f.debit, remaining := l.packsRemaining,
      next := if decide (l.minTake ≤ l.packsRemaining) then .restart else .lotEnd }

theorem foldl_refusePress_eq_bus (l : List Press) (s : State) :
    ∃ b : DeskBus, l.foldl (fun s p => refusePress p.desk .outbid c s) s = { s with bus := b } := by
  induction l generalizing s with
  | nil => exact ⟨s.bus, rfl⟩
  | cons p l ih =>
    obtain ⟨b, hb⟩ := ih (refusePress p.desk .outbid c s)
    exact ⟨b, hb.trans rfl⟩

theorem desksTold_eq_bus (c : ClockId) (r : CommitRequest) (s : State) :
    ∃ b : DeskBus, desksTold c r s = { s.setClock c { s.clock c with collection := [] } with bus := b } := by
  obtain ⟨b, hb⟩ := foldl_refusePress_eq_bus (c := c) (s.clock c).collection.tail
    (s.setClock c { s.clock c with collection := [] })
  exact ⟨_, by rw [desksTold, hb]; rfl⟩

theorem desksTold_clock_self (c : ClockId) (r : CommitRequest) (s : State) :
    (desksTold c r s).clock c = { s.clock c with collection := [] } := by
  obtain ⟨b, hb⟩ := desksTold_eq_bus c r s
  rw [hb]
  exact State.setClock_clock_self ..

theorem clockAccepted_eq {seq : Nat} : clockAccepted c r f seq s =
    match s.lot r.lot with
    | none => desksTold c r s
    | some l =>
      let t := raise (saleReport c r f seq l (desksTold c r s)) (desksTold c r s)
      if decide (l.minTake ≤ l.packsRemaining) then enterSold c f.price t else askUpdate c (endLot c .sold t) := by
  obtain ⟨b, hb⟩ := desksTold_eq_bus c r s
  have lot : (desksTold c r s).lot r.lot = s.lot r.lot := by rw [hb]; rfl
  rw [← lot]
  rfl

theorem clockAccepted_noLot {seq : Nat} (h : s.lot r.lot = none) : clockAccepted c r f seq s = desksTold c r s := by
  rw [clockAccepted_eq, h]

theorem clockAccepted_lot {seq : Nat} {l : Lot} (h : s.lot r.lot = some l) : clockAccepted c r f seq s =
    let t := raise (saleReport c r f seq l s) (desksTold c r s)
    if l.minTake ≤ l.packsRemaining then enterSold c f.price t else askUpdate c (endLot c .sold t) := by
  have report : saleReport c r f seq l (desksTold c r s) = saleReport c r f seq l s := by
    simp only [saleReport, desksTold_clock_self]
  rw [clockAccepted_eq, h]
  simp only [report, decide_eq_true_eq]

end Sys2Proof.Machine
end

section
/-! The completion of the operation in progress and the start (R145, R192, R202): what its event leaves of the replies,
the reset and the packs, and the starts that come after it. -/

set_option Elab.async false

namespace Sys2Proof.Machine

open Sys2Proof.Safety

variable {s t u : State} {c d : ClockId} {n : Nat} {op : Operation} {r : CommitRequest} {f : SaleFigures} {tag : Byte}

/-! ## The replies, the reset and the packs -/

/-- The packs of a lot, sold and remaining. -/
def packsOf (s : State) (n : Nat) : Option (Nat × Nat) := (s.lot n).map fun l => (l.packsSold, l.packsRemaining)

/-- What the clock's part in a completion leaves: the replies placed, the reset under way, and the packs of the lots. -/
def sideOf (s : State) : List Reply × Option ResetPhase × (Nat → Option (Nat × Nat)) :=
  (s.hlp.replies, s.hlp.resetting, packsOf s)

theorem sideOf_congr (hreplies : t.hlp.replies = s.hlp.replies) (hreset : t.hlp.resetting = s.hlp.resetting)
    (hpacks : ∀ n, packsOf t n = packsOf s n) : sideOf t = sideOf s := by
  rw [sideOf, hreplies, hreset, funext hpacks]
  rfl

theorem packsOf_congr (h : t.lots = s.lots) (n : Nat) : packsOf t n = packsOf s n := by
  rw [packsOf, State.lot, h]
  rfl

@[simp] theorem sideOf_runClock : sideOf (runClock c s) = sideOf s :=
  sideOf_congr (by simp) (by simp) (packsOf_congr (by simp))

@[simp] theorem sideOf_enterHeld {cause : HoldCause} : sideOf (enterHeld c cause s) = sideOf s :=
  sideOf_congr (by simp [enterHeld]) (by simp [enterHeld]) (packsOf_congr (by simp))

@[simp] theorem sideOf_defer : sideOf (defer c s) = sideOf s :=
  sideOf_congr (by simp) (by simp) (packsOf_congr (by simp))

@[simp] theorem sideOf_grant : sideOf (grant c s) = sideOf s :=
  sideOf_congr (by simp) (by simp) (packsOf_congr (by simp))

@[simp] theorem sideOf_askLater : sideOf (askLater c s) = sideOf s :=
  sideOf_congr (by simp) (by simp) (packsOf_congr (by simp))

@[simp] theorem sideOf_leaveLoaded : sideOf (leaveLoaded c s) = sideOf s :=
  sideOf_congr (by simp) (by simp) (packsOf_congr (by simp))

@[simp] theorem sideOf_testNew : sideOf (testNew c s) = sideOf s := by
  unfold testNew
  split_ifs <;> simp

@[simp] theorem sideOf_testRestart : sideOf (testRestart c s) = sideOf s := by
  unfold testRestart
  split
  · simp
  · split <;> simp

@[simp] theorem sideOf_askRestart : sideOf (askRestart c s) = sideOf s := by
  unfold askRestart
  split_ifs <;> simp

@[simp] theorem sideOf_releaseDeferred : sideOf (releaseDeferred c s) = sideOf s := by
  unfold releaseDeferred
  split
  · simp
  · split <;> simp
  · rfl

theorem sideOf_foldl {α : Type} {g : State → α → State} (h : ∀ s x, sideOf (g s x) = sideOf s) (l : List α) :
    sideOf (l.foldl g s) = sideOf s :=
  List.foldlRecOn (motive := fun u => sideOf u = sideOf s) l g rfl fun _ hu x _ => (h _ x).trans hu

@[simp] theorem sideOf_releaseAllDeferred : sideOf (releaseAllDeferred s) = sideOf s :=
  sideOf_foldl (fun _ _ => sideOf_releaseDeferred) _

/-! ## The clock's part in a completion -/

@[simp] theorem sideOf_testDepartures : sideOf (testDepartures c s) = sideOf s := by
  refine sideOf_congr testDepartures_replies ?_ fun n => ?_
  · rw [testDepartures_eq_departAll]
    exact List.foldlRecOn (motive := fun u : State => u.hlp.resetting = s.hlp.resetting) _ _ rfl
      fun u h y _ => (show (departHead c y u).hlp.resetting = u.hlp.resetting by simp [departHead]).trans h
  · rw [packsOf, testDepartures_eq_departAll, departAll_lot]
    split
    · rw [Option.map_map]
      rfl
    · rfl

theorem packsOf_modLot {g : Lot → Lot} (hnumber : ∀ l, (g l).number = l.number)
    (hsold : ∀ l, (g l).packsSold = l.packsSold) (hleft : ∀ l, (g l).packsRemaining = l.packsRemaining) (m n : Nat) :
    packsOf (s.modLot m g) n = packsOf s n := by
  by_cases h : n = m
  · subst h
    rw [packsOf, State.modLot_lot_self _ g hnumber, Option.map_map]
    simp only [Function.comp_def, hsold, hleft]
    rfl
  · rw [packsOf, State.modLot_lot_ne _ g hnumber h]
    rfl

@[simp] theorem sideOf_raise {b : ReportBody} : sideOf (raise b s) = sideOf s :=
  sideOf_congr (by simp) (by simp) (packsOf_congr (by simp))

@[simp] theorem sideOf_askUpdate : sideOf (askUpdate c s) = sideOf s :=
  sideOf_congr (by simp) (by simp) (packsOf_congr (by simp))

@[simp] theorem sideOf_endLot {cause : LotEndCause} : sideOf (endLot c cause s) = sideOf s := by
  unfold endLot
  split
  · rfl
  · next l _ =>
    have ended : sideOf (s.modLot l.number fun l => { l with state := endStateOf l }) = sideOf s :=
      sideOf_congr rfl rfl (packsOf_modLot (g := fun l => { l with state := endStateOf l }) (fun _ => rfl)
        (fun _ => rfl) (fun _ => rfl) _)
    simp only [sideOf_askUpdate, sideOf_testDepartures, sideOf_raise]
    exact ended

theorem sideOf_desksTold : sideOf (desksTold c r s) = sideOf s := by
  obtain ⟨b, hb⟩ := desksTold_eq_bus c r s
  rw [hb]
  rfl

theorem sideOf_enterSold {p : Nat} : sideOf (enterSold c p s) = sideOf s := sideOf_askUpdate

theorem sideOf_clockAccepted {seq : Nat} : sideOf (clockAccepted c r f seq s) = sideOf s := by
  cases h : s.lot r.lot with
  | none => rw [clockAccepted_noLot h, sideOf_desksTold]
  | some l =>
    rw [clockAccepted_lot h]
    extract_lets t
    have reported : sideOf t = sideOf s := sideOf_raise.trans sideOf_desksTold
    split
    · rw [sideOf_enterSold, reported]
    · rw [sideOf_askUpdate, sideOf_endLot, reported]

theorem sideOf_allRefused : sideOf (allRefused c s) = sideOf s := by
  unfold allRefused
  split
  · simp
  · rw [sideOf_askUpdate]
    rfl

theorem sideOf_offerNext : sideOf (offerNext c s) = sideOf s := by
  unfold offerNext
  split
  · exact sideOf_allRefused
  · obtain ⟨a, ha⟩ := placeCommit_eq_setArbiter c s
    rw [ha]
    rfl

theorem sideOf_reportCredit {x : CommitRefusal} : sideOf (reportCredit c r x s) = sideOf s := by
  cases x with
  | credit y => exact sideOf_raise
  | notSigned | blocked | notPermitted | invoiceFull => rfl

theorem sideOf_clockRefused {x : CommitRefusal} : sideOf (clockRefused c r x s) = sideOf s := by
  have told : sideOf (clockRefused c r x s) = _ := (sideOf_offerNext (c := c)).trans sideOf_reportCredit
  rw [told]
  exact sideOf_congr (by simp) (by simp) (packsOf_congr (by simp))

theorem sideOf_clockAnswered (a : CommitAnswer) : sideOf (clockAnswered c r a s) = sideOf s := by
  cases a with
  | accepted f => exact sideOf_clockAccepted
  | refused x => exact sideOf_clockRefused

/-- The replies that the event of an operation places of its own: none for a commit. -/
def ownReplies (op : Operation) (s : State) : List Reply :=
  match op with
  | .commit _ _ _ => []
  | .host tag r _ v => [ledgerReply tag r (requestChanges r v (free s)).status (requestChanges r v (free s)).body]

theorem answeredBy_side (op : Operation) (s : State) : sideOf (answeredBy op s) =
    ((changedBy op s).hlp.replies ++ ownReplies op s, (changedBy op s).hlp.resetting, packsOf (changedBy op s)) := by
  cases op with
  | commit c r a =>
    rw [ownReplies, List.append_nil]
    exact sideOf_clockAnswered a
  | host tag q line v =>
    simp only [answeredBy]
    split
    · exact sideOf_releaseAllDeferred
    · rfl

/-! ## The end of the event -/

theorem serveChoice_eq_setArbiter (x : Choice) (s : State) : ∃ a, serveChoice x s = s.setArbiter a := by
  have none : ∃ a, s = s.setArbiter a := ⟨s.ledger.arbiter, rfl⟩
  unfold serveChoice
  extract_lets a
  split
  · split
    · exact ⟨_, rfl⟩
    · exact none
  · split
    · exact ⟨_, rfl⟩
    · exact none
  · exact none

theorem continueReset_frame (s : State) :
    (continueReset s).ledger = s.ledger ∧ (continueReset s).lots = s.lots := by
  unfold continueReset
  split <;> exact ⟨rfl, rfl⟩

/-- Behind the event the arbiter serves, and a reset goes on: the tables and the lots stay. -/
theorem afterCompletion_frame (x : Choice) (s : State) :
    tablesOf (afterCompletion x s).ledger = tablesOf s.ledger ∧ (afterCompletion x s).lots = s.lots := by
  obtain ⟨a, ha⟩ := serveChoice_eq_setArbiter x s
  obtain ⟨b, hb⟩ := serveWaiting_eq_setArbiter (serveChoice x s)
  obtain ⟨ledger, lots⟩ := continueReset_frame (serveWaiting (serveChoice x s))
  rw [afterCompletion, ledger, lots, hb, ha]
  exact ⟨rfl, rfl⟩

/-- What the event of an operation makes of the tables and the packs is what its change of the records makes. -/
theorem completion_tables_packs (x : Choice) (op : Operation) (s : State) :
    tablesOf (afterCompletion x (answeredBy op s)).ledger = tablesOf (changedBy op s).ledger ∧
      packsOf (afterCompletion x (answeredBy op s)) = packsOf (changedBy op s) := by
  obtain ⟨tables, lots⟩ := afterCompletion_frame x (answeredBy op s)
  obtain ⟨commits, records, -⟩ := answeredBy_records op s
  have side := answeredBy_side op s
  refine ⟨tables.trans (congrArg Prod.fst records), ?_⟩
  exact (funext (packsOf_congr lots)).trans (congrArg (fun x => x.2.2) side)

/-! ## The start (R192) -/

theorem settleInProgress_busy (h : s.ledger.arbiter.inProgress = some op) : settleInProgress s = changedBy op s := by
  rw [settleInProgress, h]
  cases op <;> rfl

theorem settleInProgress_idle (h : s.ledger.arbiter.inProgress = none) : settleInProgress s = s := by
  rw [settleInProgress, h]

/-- A warm start settles the operation in progress, so that it is the same after that operation's completion. -/
theorem warmStart_settled (kind : StartKind) (mainReturn : Bool) (backup : BackupSupply)
    (h : settleInProgress t = settleInProgress s) :
    warmStart kind mainReturn backup t = warmStart kind mainReturn backup s := by
  have values : warmValues kind backup t = warmValues kind backup s := by simp only [warmValues, h]
  simp only [warmStart, values]

theorem coldStart_congr (backup : BackupSupply) (hpending : t.pending = s.pending) (htime : t.timebase = s.timebase) :
    coldStart backup t = coldStart backup s := by
  rw [coldStart, hpending, htime]
  rfl

/-- A start by the supply is the same before the completion of the operation in progress and after it. -/
theorem startBySupply_changedBy (mainReturn : Bool) (backup : BackupSupply)
    (hop : s.ledger.arbiter.inProgress = some op) :
    startBySupply mainReturn backup (changedBy op s) = startBySupply mainReturn backup s := by
  obtain ⟨clocks, lots, ledger, boards, hframe, -⟩ := changedBy_recordsOnly op s
  have hall : (changedBy op s).hall = s.hall := by rw [hframe]
  have idle : (changedBy op s).ledger.arbiter.inProgress = none := by rw [changedBy_arbiter]; rfl
  simp only [startBySupply, hall]
  split
  · exact warmStart_settled _ _ _ ((settleInProgress_idle idle).trans (settleInProgress_busy hop).symm)
  · exact coldStart_congr _ (by rw [hframe]) (by rw [hframe])

theorem exec_powerOn_changedBy (backup : BackupSupply) (hop : s.ledger.arbiter.inProgress = some op) :
    exec (.powerOn backup) s = exec (.powerOn backup) (changedBy op s) := by
  obtain ⟨clocks, lots, ledger, boards, hframe, -⟩ := changedBy_recordsOnly op s
  have hall : (changedBy op s).hall = s.hall := by rw [hframe]
  show execPowerOn backup s = execPowerOn backup (changedBy op s)
  rw [execPowerOn, execPowerOn, hall, startBySupply_changedBy _ _ hop]

theorem changedBy_reach (e : Nat) : changedBy op (s.reach e) = (changedBy op s).reach e := by
  obtain ⟨clocks, lots, ledger, boards, hframe, -⟩ := changedBy_recordsOnly op s
  have main : s.hall.main = (changedBy op s).hall.main := by rw [hframe]
  have time : s.timebase = (changedBy op s).timebase := by rw [hframe]
  have reached : s.reach e = under s.hall.main (max s.timebase e) s := rfl
  rw [reached, changedBy_under, main, time]
  rfl

theorem exec_mainSupplyReturn_changedBy {e : Nat} (backup : BackupSupply) (hop : s.ledger.arbiter.inProgress = some op)
    (hmain : s.hall.main = .failed) (hreturns : s.hall.mainReturns = some e) :
    exec (.mainSupplyReturn backup) s = exec (.mainSupplyReturn backup) (changedBy op s) := by
  obtain ⟨clocks, lots, ledger, boards, hframe, -⟩ := changedBy_recordsOnly op s
  have hall : (changedBy op s).hall = s.hall := by rw [hframe]
  show execMainSupplyReturn backup s = execMainSupplyReturn backup (changedBy op s)
  have hop' : (s.reach e).ledger.arbiter.inProgress = some op := hop
  simp only [execMainSupplyReturn, hall, hmain, hreturns, ← changedBy_reach,
    startBySupply_changedBy _ _ hop']

/-! ## CONTROLLER-RESET with an operation in progress (R202) -/

theorem exec_controllerReset_busy (h : Ready s) (hop : s.ledger.arbiter.inProgress = some op) :
    exec (.controllerReset tag) s = .next { dropWaiting (framed s) with hlp := { (framed s).hlp with
      resetting := some (.waiting tag) } } := by
  have hop' : (framed s).ledger.arbiter.inProgress = some op := hop
  rw [show exec (.controllerReset tag) s = _ from exec_requestCommand tag .controllerReset s,
    hostRequest_ready _ h]
  exact congrArg _ (continueReset_busy (op := op) hop')

/-- With a reset waiting the completion serves nothing, and the OK of the CONTROLLER-RESET follows its own reply. -/
theorem afterCompletion_reset (hreset : s.hlp.resetting = some (.waiting tag))
    (hidle : s.ledger.arbiter.inProgress = none) : afterCompletion .nothing s =
      { s with hlp := { s.hlp with
        resetting := some .replying
        replies := s.hlp.replies ++
          [{ tag := tag, kind := 169, status := .ok, body := .empty, after := .warmStart }] } } := by
  have none : serveWaiting s = s := by simp [serveWaiting, mayServe, hreset]
  rw [afterCompletion, serveChoice, none, continueReset, hidle, hreset]
  rfl

/-! ## The obligation (R145, R192, R202) -/

/-- With the supply FAILED the records change as they do with it PRESENT, and a start comes out the same. -/
theorem completion_failed (hop : s.ledger.arbiter.inProgress = some op) :
    ∃ u, exec (completionOf op) { s with hall := { s.hall with main := .present } } = .next u ∧
      tablesOf (changedBy op s).ledger = tablesOf u.ledger ∧ packsOf (changedBy op s) = packsOf u := by
  have powered := exec_completionOf_present (s := under .present s.timebase s) (op := op) hop rfl
  obtain ⟨tables, packs⟩ := completion_tables_packs (choiceNow (free (under .present s.timebase s))) op
    (under .present s.timebase s)
  rw [changedBy_under] at tables packs
  exact ⟨_, powered, tables.symm, packs.symm⟩

/-- The completion with a reset waiting: its own reply, then that of the CONTROLLER-RESET. -/
theorem completion_reset (hmain : s.hall.main = .present) (hreset : s.hlp.resetting = some (.waiting tag))
    (hop : s.ledger.arbiter.inProgress = some op) :
    ∃ t, exec (completionOf op) s = .next t ∧ t.ledger.arbiter.inProgress = none ∧
      t.hlp.resetting = some .replying ∧ t.hlp.replies = s.hlp.replies ++ ownReplies op s ++
        [{ tag := tag, kind := 169, status := .ok, body := .empty, after := .warmStart }] := by
  obtain ⟨clocks, lots, ledger, boards, hframe, -⟩ := changedBy_recordsOnly op s
  have hlp : (changedBy op s).hlp = s.hlp := by rw [hframe]
  obtain ⟨commits, records, -⟩ := answeredBy_records op s
  have idle : (answeredBy op s).ledger.arbiter.inProgress = none := by
    rw [show (answeredBy op s).ledger.arbiter = _ from congrArg Prod.snd records]
  have side := answeredBy_side op s
  rw [hlp] at side
  have replies : (answeredBy op s).hlp.replies = s.hlp.replies ++ ownReplies op s := congrArg Prod.fst side
  have waiting : (answeredBy op s).hlp.resetting = some (.waiting tag) :=
    (congrArg (fun x => x.2.1) side).trans hreset
  have nothing : choiceNow (free s) = .nothing := by simp [choiceNow, mayServe, free, hreset]
  have complete := exec_completionOf_present hop hmain
  rw [nothing, afterCompletion_reset waiting idle, replies] at complete
  exact ⟨_, complete, idle, rfl, rfl⟩

/-- Settles O47: the change of the records is one function of the operation that reads neither supply nor time
(`changedBy`), and the start settles an operation in progress by the same function. -/
theorem operationCompletesBeforeStart : Obligations.OperationCompletesBeforeStart := by
  unfold Obligations.OperationCompletesBeforeStart
  refine ⟨fun op s hmain hop => ?failed, fun tag op s hready hop => exec_controllerReset_busy hready hop,
    fun tag op s hmain hreset hop => ?reset⟩
  case failed =>
    obtain ⟨u, hu, htables, hpacks⟩ := completion_failed hop
    obtain ⟨clocks, lots, ledger, boards, hframe, hclocks⟩ := changedBy_recordsOnly op s
    have idle : (changedBy op s).ledger.arbiter.inProgress = none := by rw [changedBy_arbiter]; rfl
    refine ⟨changedBy op s, u, exec_completionOf_failed hop hmain, hu, idle, congrArg Tables.buyers htables,
      congrArg Tables.invoices htables, congrArg Tables.nextInvoice htables, congrArg Tables.tariff htables,
      congrArg Tables.lines htables, congrArg Tables.lastWritten htables, congrFun hpacks, by rw [hframe],
      by rw [hframe], by rw [hframe], by rw [hframe], by rw [hframe], fun c => ?_, fun backup =>
        ⟨exec_powerOn_changedBy backup hop, fun e he => exec_mainSupplyReturn_changedBy backup hop hmain he⟩⟩
    rw [hframe]
    exact hclocks c
  case reset =>
    obtain ⟨t, ht, hidle, hreplying, hreplies⟩ := completion_reset hmain hreset hop
    refine ⟨t, ownReplies op s, ht, hidle, hreplying, hreplies, fun c r a e => ?_, fun mark r line v e => ?_⟩
    · rw [e]
      rfl
    · rw [e]
      exact ⟨_, _, rfl⟩

end Sys2Proof.Machine
end

section
/-! An accepted SALE-COMMIT completes (R139): the invoice it is written on, its desks, its report, and what becomes of the
clock and its lot. -/

set_option Elab.async false

namespace Sys2Proof.Machine

open Sys2Proof.Safety

variable {s t u : State} {c d : ClockId} {n m : Nat} {r : CommitRequest} {f : SaleFigures} {b : Buyer} {i : Invoice}
  {l : Lot}

/-! ## The number of a new invoice (R160) -/

theorem numberAfter_eq (n : Nat) : numberAfter n = if n < 999999 then n + 1 else 1 := rfl

/-- The search stops at the first number that no slot holds. -/
theorem freeNumber_eq {held : Nat → Bool} (j tries start : Nat) (hj : j ≤ tries)
    (hfree : held (invoiceAfter j start) = false) (hheld : ∀ k, k < j → held (invoiceAfter k start) = true) :
    freeNumber held tries start = invoiceAfter j start := by
  induction tries generalizing j start with
  | zero =>
    obtain rfl : j = 0 := Nat.le_zero.1 hj
    rfl
  | succ tries ih =>
    cases j with
    | zero =>
      have hstart : held start = false := hfree
      rw [freeNumber, hstart]
      rfl
    | succ j =>
      have hstart : held start = true := hheld 0 (Nat.succ_pos j)
      rw [freeNumber, if_pos hstart, numberAfter_eq,
        ih j _ (Nat.le_of_succ_le_succ hj) hfree fun k hk => hheld (k + 1) (Nat.succ_lt_succ hk)]
      rfl

theorem newInvoiceNumber_eq {j : Nat} (hj : j ≤ s.ledger.invoices.length)
    (hfree : s.invoice (invoiceAfter j s.ledger.nextInvoice) = none)
    (hheld : ∀ k, k < j → (s.invoice (invoiceAfter k s.ledger.nextInvoice)).isSome) :
    newInvoiceNumber s = invoiceAfter j s.ledger.nextInvoice :=
  freeNumber_eq j _ _ hj (by simp [hfree]) hheld

/-! ## The invoice is open (R139) -/

/-- A new invoice before its first line, which has sequence `first` (R160). -/
def newInvoice (buyer first n : Nat) : Invoice :=
  { number := n, buyer := buyer, state := .opened, lineCount := 0, firstLine := first, lastLine := first, goods := 0,
    levies := 0, debits := 0, residue := none, total := none }

/-- From `s` to `o` the invoice `n` of a sale to the buyer numbered `k` has come to stand open. -/
structure InvoiceOpen (s : State) (k : Nat) (b : Buyer) (n : Nat) (i : Invoice) (o : State) : Prop where
  buyer : o.buyer k = some { b with openInvoice := some n }
  buyers : ∀ m, m ≠ k → o.buyer m = s.buyer m
  invoice : o.invoice n = some i
  invoices : ∀ m, m ≠ n → o.invoice m = s.invoice m
  next : o.ledger.nextInvoice = if b.openInvoice = none then (if n < 999999 then n + 1 else 1) else s.ledger.nextInvoice
  ledger : ∃ buyers invoices next, o = { s with ledger := { s.ledger with
    buyers := buyers, invoices := invoices, nextInvoice := next } }

theorem invoiceOpen_openedFor {k : Nat} (hb : s.buyer k = some b) (hi : SaleInvoice s b n i) :
    InvoiceOpen s k b n i (openedFor k s) := by
  obtain rfl : b.number = k := findKey_key Buyer.number hb
  have current : openInvoiceOf s b.number = b.openInvoice := by rw [openInvoiceOf, hb]; rfl
  rcases hi with ⟨hopen, hn⟩ | ⟨hclosed, hn, ⟨j, hj, hnj, hheld⟩, rfl⟩
  case inl =>
    have same : openedFor b.number s = s := by
      rw [openedFor, current, hopen]
      rfl
    rw [same]
    refine ⟨?_, fun _ _ => rfl, hn, fun _ _ => rfl, by simp [hopen], ⟨_, _, _, rfl⟩⟩
    rw [hb, ← hopen]
  case inr =>
    have new : openedFor b.number s = openInvoice b.number (s.ledger.journal.lastWritten + 1) s := by
      rw [openedFor, current, hclosed]
      rfl
    have number : newInvoiceNumber s = n := by
      rw [hnj, newInvoiceNumber_eq hj (hnj ▸ hn) hheld]
    rw [new, openInvoice, number]
    refine ⟨?_, fun m hm => ?_, findKey_insertKey_self (x := newInvoice b.number (s.ledger.journal.lastWritten + 1) n) hn,
      fun m hm => findKey_insertKey_ne (Ne.symm hm), ?_, ⟨_, _, _, rfl⟩⟩
    · exact (State.modBuyer_buyer_self _ (fun b => { b with openInvoice := some n }) (fun _ => rfl) _).trans
        (congrArg (Option.map _) hb)
    · exact State.modBuyer_buyer_ne _ (fun b => { b with openInvoice := some n }) (fun _ => rfl) hm
    · rw [if_pos hclosed]
      rfl

/-! ## The desks of a collection (R96, R111) -/

/-- The answer OUTBID of clock `c` to a desk of its collection (R111). -/
def outbidBy (c : ClockId) (s : State) : LastRefusal := { reason := .outbid, clock := some c, lot := (s.clock c).lot }

theorem refusePress_outbid_desk (e d : DeskId) : (refusePress e .outbid c s).desk d =
    { s.desk d with lastRefusal := if e = d then some (outbidBy c s) else (s.desk d).lastRefusal } := by
  rw [refusePress]
  by_cases h : d = e
  · subst h
    rw [State.setDesk_desk_self, countRefused_desk, countRefused_clock, if_pos rfl]
    rfl
  · rw [State.setDesk_desk_ne _ h, countRefused_desk, if_neg (Ne.symm h)]

theorem refusePress_outbid_row (e : DeskId) (x : RowId) : ((refusePress e .outbid c s).row x).pressesRefused =
    if rowOfDesk e = x then countUp top16 (s.row x).pressesRefused else (s.row x).pressesRefused := by
  have counted : countRefused e .outbid s = s.setRow (rowOfDesk e) { s.row (rowOfDesk e) with
      pressesRefused := countUp top16 (s.row (rowOfDesk e)).pressesRefused } := rfl
  rw [refusePress, State.setDesk, counted]
  by_cases h : x = rowOfDesk e
  · subst h
    rw [State.setRow_row_self, State.setRow_row_self, if_pos rfl]
  · rw [State.setRow_row_ne _ _ _ _ h, State.setRow_row_ne _ _ _ _ h, if_neg (Ne.symm h)]

theorem foldl_refusePress_desk (others : List Press) (d : DeskId) (s : State) :
    (others.foldl (fun s p => refusePress p.desk .outbid c s) s).desk d = { s.desk d with
      lastRefusal := if others.any (fun q => q.desk = d) then some (outbidBy c s) else (s.desk d).lastRefusal } := by
  induction others generalizing s with
  | nil => rfl
  | cons p others ih =>
    have same : outbidBy c (refusePress p.desk .outbid c s) = outbidBy c s := by rw [outbidBy, refusePress_clock]; rfl
    rw [List.foldl_cons, ih, refusePress_outbid_desk, same]
    by_cases h : p.desk = d <;> simp [h]

theorem countUp_min (a k : Nat) (h : a ≤ 65535) : min 65535 (countUp top16 a + k) = min 65535 (a + (k + 1)) := by
  unfold countUp top16
  split <;> omega

theorem foldl_refusePress_row (others : List Press) (x : RowId) (s : State) (h : (s.row x).pressesRefused ≤ 65535) :
    ((others.foldl (fun s p => refusePress p.desk .outbid c s) s).row x).pressesRefused =
      min 65535 ((s.row x).pressesRefused + (others.filter fun q => rowOfDesk q.desk = x).length) := by
  induction others generalizing s with
  | nil => simp [h]
  | cons p others ih =>
    have count := refusePress_outbid_row (c := c) (s := s) p.desk x
    rw [List.foldl_cons]
    by_cases hx : rowOfDesk p.desk = x
    · rw [if_pos hx] at count
      have bound : countUp top16 (s.row x).pressesRefused ≤ 65535 := by unfold countUp top16; split <;> omega
      rw [ih _ (by rw [count]; exact bound), count, countUp_min _ _ h]
      simp [hx]
    · rw [if_neg hx] at count
      rw [ih _ (by rw [count]; exact h), count]
      simp [hx]

theorem desksTold_desk (d : DeskId) : (desksTold c r s).desk d = { s.desk d with
    win := if d = r.desk then pulseLamp (s.desk d).win else (s.desk d).win
    lastRefusal := if (s.clock c).collection.tail.any (fun q => q.desk = d) then some (outbidBy c s)
      else (s.desk d).lastRefusal } := by
  have clock : outbidBy c (s.setClock c { s.clock c with collection := [] }) = outbidBy c s := by
    rw [outbidBy, State.setClock_clock_self]
    rfl
  have told := foldl_refusePress_desk (c := c) (s.clock c).collection.tail d
    (s.setClock c { s.clock c with collection := [] })
  rw [clock] at told
  rw [desksTold, pulseWin]
  by_cases h : d = r.desk
  · subst h
    rw [State.setDesk_desk_self, told, if_pos rfl]
    rfl
  · rw [State.setDesk_desk_ne _ h, told, if_neg h]
    rfl

theorem desksTold_row (x : RowId) (h : (s.row x).pressesRefused ≤ 65535) :
    ((desksTold c r s).row x).pressesRefused = min 65535 ((s.row x).pressesRefused +
      ((s.clock c).collection.tail.filter fun q => rowOfDesk q.desk = x).length) := by
  have told := foldl_refusePress_row (c := c) (s.clock c).collection.tail x
    (s.setClock c { s.clock c with collection := [] }) h
  rw [desksTold, pulseWin, State.setDesk]
  by_cases hx : x = rowOfDesk r.desk
  · subst hx
    rw [State.setRow_row_self]
    exact told
  · rw [State.setRow_row_ne _ _ _ _ hx]
    exact told

end Sys2Proof.Machine
end

section
/-! The completion of an accepted SALE-COMMIT, whole: its changes of the records, the clock's part, and either the pause or
the end of the lot (R69, R71, R118, R119, R139). -/

set_option Elab.async false

namespace Sys2Proof.Machine

open Sys2Proof.Safety

variable {s t u : State} {c d : ClockId} {n m seq price : Nat} {r : CommitRequest} {f : SaleFigures} {b : Buyer}
  {i : Invoice} {l : Lot} {cause : LotEndCause}

/-! ## Behind the SALE report -/

theorem endLot_noLot (h : s.currentLot c = none) : endLot c cause s = s := by
  rw [endLot, h]

theorem endLot_reports_prefix : s.hlp.reports <+: (endLot c cause s).hlp.reports := by
  unfold endLot
  split
  · exact List.prefix_rfl
  · simp only [askUpdate_hlp]
    refine List.IsPrefix.trans ?_ testDepartures_reports_prefix
    refine List.IsPrefix.trans ?_ (raise_reports_prefix _)
    refine List.IsPrefix.trans ?_ (raise_reports_prefix _)
    exact List.prefix_rfl

/-- What the pause or the end of the lot leaves of a sale: desks, hall, the other clocks, the ledger but for the journal's
marks, and the reports queued. -/
structure SaleEnds (c : ClockId) (s t : State) : Prop where
  bus : t.bus = s.bus
  hall : t.hall = s.hall
  clocks : ∀ d, d ≠ c → t.clock d = s.clock d
  ledger : ∃ marks deferred, t.ledger = { s.ledger with journal := { s.ledger.journal with
    lotMark := marks, deferred := deferred } }
  reports : s.hlp.reports <+: t.hlp.reports

theorem saleEnds_enterSold : SaleEnds c s (enterSold c price s) where
  bus := by simp [enterSold]
  hall := by simp [enterSold]
  clocks d hd := by
    rw [enterSold, askUpdate_clock]
    exact State.setClock_clock_ne _ _ _ _ hd
  ledger := ⟨s.ledger.journal.lotMark, s.ledger.journal.deferred, by simp [enterSold]⟩
  reports := by simp [enterSold]

theorem saleEnds_endLot : SaleEnds c s (askUpdate c (endLot c cause s)) where
  bus := by simp
  hall := by simp
  clocks d hd := by
    rw [askUpdate_clock]
    cases h : s.currentLot c with
    | none => rw [endLot_noLot h]
    | some l => exact endLot_clock_ne h cause hd
  ledger := by
    rw [askUpdate_ledger]
    cases h : s.currentLot c with
    | none => exact ⟨s.ledger.journal.lotMark, s.ledger.journal.deferred, by rw [endLot_noLot h]⟩
    | some l => exact ⟨_, _, endLot_ledger h cause⟩
  reports := by
    rw [askUpdate_hlp]
    exact endLot_reports_prefix

theorem saleEnds_clockAccepted (h : s.lot r.lot = some l) :
    SaleEnds c (raise (saleReport c r f seq l s) (desksTold c r s)) (clockAccepted c r f seq s) := by
  rw [clockAccepted_lot h]
  extract_lets t
  split
  · exact saleEnds_enterSold
  · exact saleEnds_endLot

theorem endLot_lane_ne (h : d ≠ c) : (endLot c cause s).lane d = s.lane d := by
  unfold endLot
  split
  · rfl
  · rw [askUpdate_lane, testDepartures_lane_ne h, raise_lane, raise_lane]
    rfl

/-! ## The sale in the records (R139) -/

section
variable (hb : s.buyer f.buyer = some b) (hi : SaleInvoice s b n i)
include hb hi

/-- The sale is written on its invoice, which is open for it. -/
theorem openedFor_sale : InvoiceOpen s f.buyer b n i (openedFor f.buyer s) ∧
    saleInvoiceNumber f (openedFor f.buyer s) = n := by
  have opened := invoiceOpen_openedFor hb hi
  refine ⟨opened, ?_⟩
  rw [saleInvoiceNumber, openInvoiceOf, opened.buyer]
  rfl

/-- The records after the sale (R139, R140, R142, R160). -/
theorem writeSale_records : let t := writeSale c r f s
    t.ledger.journal.lines = s.ledger.journal.lines ++ [saleLineOf s c r f n] ∧
      t.ledger.journal.lastWritten = s.ledger.journal.lastWritten + 1 ∧
      t.buyer f.buyer = some { b with committed := b.committed + f.debit, openInvoice := some n } ∧
      (∀ m, m ≠ f.buyer → t.buyer m = s.buyer m) ∧ t.invoice n = some (withSale f (s.ledger.journal.lastWritten + 1) i) ∧
      (∀ m, m ≠ n → t.invoice m = s.invoice m) ∧
      t.ledger.nextInvoice = (if b.openInvoice = none then (if n < 999999 then n + 1 else 1)
        else s.ledger.nextInvoice) := by
  obtain ⟨opened, number⟩ := openedFor_sale hb hi
  obtain ⟨buyers, invoices, next, frame⟩ := opened.ledger
  rw [writeSale_eq]
  generalize hseq : s.ledger.journal.lastWritten + 1 = seq
  intro t
  have hinvoices : t.ledger.invoices = modKey Invoice.number n (withSale f seq) (openedFor f.buyer s).ledger.invoices :=
    number ▸ rfl
  refine ⟨?lines, ?written, ?buyer, fun m hm => ?buyers, ?invoice, fun m hm => ?invoices, opened.next⟩
  case lines =>
    show (openedFor f.buyer s).ledger.journal.lines ++ [saleLineOf _ c r f (saleInvoiceNumber f _)] = _
    rw [number, frame]
    rfl
  case written =>
    show (openedFor f.buyer s).ledger.journal.lastWritten + 1 = _
    rw [frame]
    exact hseq
  case buyer =>
    exact (findKey_modKey Buyer.number (soldTo f) (fun _ => rfl) _ _).trans (congrArg (Option.map _) opened.buyer)
  case buyers =>
    exact (findKey_modKey_ne Buyer.number (soldTo f) (fun _ => rfl) _ _ _ hm).trans (opened.buyers m hm)
  case invoice =>
    rw [State.invoice, hinvoices, findKey_modKey Invoice.number (withSale f seq) fun _ => rfl]
    exact congrArg (Option.map _) opened.invoice
  case invoices =>
    rw [State.invoice, hinvoices, findKey_modKey_ne Invoice.number (withSale f seq) (fun _ => rfl) _ _ _ hm]
    exact opened.invoices m hm

end

/-- What the sale leaves: the link, the bus, the lanes, the hall, the time, the arbiter, the tariff, the lot marks and the
other clocks; the clock's reservation is used. -/
theorem writeSale_frame (c : ClockId) (r : CommitRequest) (f : SaleFigures) (s : State) :
    let t := writeSale c r f s
    t.hlp = s.hlp ∧ t.bus = s.bus ∧ t.lanes = s.lanes ∧ t.hall = s.hall ∧ t.timebase = s.timebase ∧
      t.clock c = { s.clock c with reservation := false } ∧ ∀ d, d ≠ c → t.clock d = s.clock d := by
  rw [writeSale_eq, openedFor_eq]
  exact ⟨rfl, rfl, rfl, rfl, rfl, vector_get_set_self .., fun d hd => vector_get_set_ne _ _ _ _ hd⟩

theorem writeSale_lot (hl : s.lot r.lot = some l) : (writeSale c r f s).lot r.lot = some (soldFrom f l) := by
  rw [writeSale_eq, openedFor_eq]
  exact (findKey_modKey Lot.number (soldFrom f) (fun _ => rfl) _ _).trans (congrArg (Option.map _) hl)

theorem openedFor_ledger (k : Nat) (s : State) : ∃ buyers invoices next, (openedFor k s).ledger =
    { s.ledger with buyers := buyers, invoices := invoices, nextInvoice := next } := by
  unfold openedFor
  split
  · exact ⟨_, _, _, rfl⟩
  · exact ⟨_, _, _, rfl⟩

/-- What the sale leaves of the ledger's other parts, and what it makes of the last sale and the counters (R140, R142). -/
theorem writeSale_ledger (c : ClockId) (r : CommitRequest) (f : SaleFigures) (s : State) :
    let t := writeSale c r f s
    t.ledger.tariff = s.ledger.tariff ∧ t.ledger.arbiter = s.ledger.arbiter ∧
      t.ledger.journal.lotMark = s.ledger.journal.lotMark ∧
      t.ledger.lastSale = s.ledger.lastSale.set c (some
        { lot := r.lot, buyer := f.buyer, desk := r.desk, packs := f.packs, price := f.price,
          sequence := s.ledger.journal.lastWritten + 1 }) ∧
      t.ledger.counters = { s.ledger.counters with
        accepted := countUp 65535 s.ledger.counters.accepted
        cut := if f.packs < f.quantity then countUp 65535 s.ledger.counters.cut else s.ledger.counters.cut } := by
  obtain ⟨buyers, invoices, next, h⟩ := openedFor_ledger f.buyer s
  rw [writeSale_eq]
  generalize s.ledger.journal.lastWritten + 1 = seq
  intro t
  have ledger : t.ledger = soldLedger c r f seq (openedFor f.buyer s) := rfl
  rw [ledger, soldLedger, h]
  exact ⟨rfl, rfl, rfl, rfl, rfl⟩

/-! ## The pause, or the end of the lot (R69, R71, R119) -/

/-- The clock and the lot of a sale whose report is queued. -/
theorem reported_eq (c : ClockId) (r : CommitRequest) (f : SaleFigures) (seq : Nat) (l : Lot) (s : State) :
    ∃ (h : HostLink) (bus : DeskBus), raise (saleReport c r f seq l s) (desksTold c r s) =
      { s.setClock c { s.clock c with collection := [] } with hlp := h, bus := bus } := by
  obtain ⟨h, -, hraise⟩ := raise_eq_hlp (saleReport c r f seq l s) (desksTold c r s)
  obtain ⟨bus, htold⟩ := desksTold_eq_bus c r s
  exact ⟨h, bus, by rw [hraise, htold]⟩

/-- What the clock's part in a sale leaves and what it reports, whatever becomes of the lot. -/
theorem clockAccepted_frame (hl : s.lot r.lot = some l) :
    let t := clockAccepted c r f seq s
    t.bus = (desksTold c r s).bus ∧ t.hall = s.hall ∧ (∀ d, d ≠ c → t.clock d = s.clock d) ∧
      (∃ marks deferred, t.ledger = { s.ledger with journal := { s.ledger.journal with
        lotMark := marks, deferred := deferred } }) ∧
      (s.hlp.enables.sales = true → s.hlp.reports.length < 64 →
        t.hlp.reports[s.hlp.reports.length]?.map Report.body = some (saleReport c r f seq l s)) := by
  obtain ⟨h, bus, hw⟩ := reported_eq c r f seq l s
  obtain ⟨told, htold⟩ := desksTold_eq_bus c r s
  have ends := saleEnds_clockAccepted (c := c) (r := r) (f := f) (seq := seq) hl
  refine ⟨ends.bus.trans (raise_bus _ _), ends.hall.trans (by rw [hw]; rfl), fun d hd => ?_, ?_, fun hon hroom => ?_⟩
  · rw [ends.clocks d hd, hw]
    exact State.setClock_clock_ne _ _ _ _ hd
  · obtain ⟨marks, deferred, hledger⟩ := ends.ledger
    rw [hw] at hledger
    exact ⟨marks, deferred, hledger⟩
  · have hlp : (desksTold c r s).hlp = s.hlp := by rw [htold]; rfl
    have queued := raise_reports (b := saleReport c r f seq l s) (s := desksTold c r s) (by rw [hlp]; exact hon)
      (by rw [hlp]; exact hroom)
    obtain ⟨rest, hrest⟩ := ends.reports
    rw [← List.getElem?_map, ← hrest, List.map_append, queued, hlp]
    simp

/-- Packs left at or above the minimum take: the clock pauses on its lot. -/
theorem clockAccepted_again (hl : s.lot r.lot = some l) (hagain : l.minTake ≤ l.packsRemaining) :
    let t := clockAccepted c r f seq s
    t.lots = s.lots ∧ t.lanes = s.lanes ∧ t.ledger = s.ledger ∧ t.clock c = { s.clock c with
      state := .sold, collection := [], lastSalePrice := some f.price,
      pauseEnds := some (s.timebase + (s.clock c).params.pause * Config.ms) } := by
  obtain ⟨h, bus, hw⟩ := reported_eq c r f seq l s
  rw [clockAccepted_lot hl, hw]
  simp only [if_pos hagain, enterSold, askUpdate_lots, askUpdate_lanes, askUpdate_ledger, askUpdate_clock,
    State.setClock_clock_self]
  refine ⟨rfl, rfl, rfl, ?_⟩
  have held : (State.clock { s.setClock c { s.clock c with collection := [] } with hlp := h, bus := bus } c) =
      { s.clock c with collection := [] } := State.setClock_clock_self ..
  rw [held]
  rfl

/-- Fewer packs left than the minimum take: the clock ends its lot. -/
theorem clockAccepted_last (hl : s.lot r.lot = some l) (hlot : (s.clock c).lot = some r.lot)
    (hlast : l.packsRemaining < l.minTake) :
    let t := clockAccepted c r f seq s
    (t.lot r.lot).map (fun x => (x.state, x.packsSold, x.packsRemaining)) =
        some (endStateOf l, l.packsSold, l.packsRemaining) ∧
      t.clock c = emptyClock (s.clock c) (if (s.clock c).closing then .closed else .idle) ∧
      t.ledger.journal.lotMark.get c = none ∧ ∀ d, d ≠ c → t.lane d = s.lane d := by
  obtain ⟨h, bus, hw⟩ := reported_eq c r f seq l s
  have side : sideOf (clockAccepted c r f seq s) = sideOf s := sideOf_clockAccepted
  have packs : packsOf (clockAccepted c r f seq s) r.lot = packsOf s r.lot := congrFun (congrArg (fun x => x.2.2) side) _
  rw [clockAccepted_lot hl, hw] at packs ⊢
  simp only [if_neg (Nat.not_le.2 hlast)] at packs ⊢
  generalize hu : ({ s.setClock c { s.clock c with collection := [] } with hlp := h, bus := bus } : State) = u at *
  have clock : u.clock c = { s.clock c with collection := [] } := hu ▸ State.setClock_clock_self ..
  have lot : u.lot r.lot = some l := hu ▸ hl
  have current : u.currentLot c = some l := currentLot_of_lot (by rw [clock]; exact hlot) lot
  have number : l.number = r.lot := findKey_key Lot.number hl
  refine ⟨?_, ?_, ?_, fun d hd => ?_⟩
  · have state := endLot_lotState current .sold
    rw [number, ← lotState_congr (askUpdate_lots (s := endLot c .sold u) c)] at state
    rw [packsOf, packsOf, hl] at packs
    obtain ⟨x, hx, hxpacks⟩ := Option.map_eq_some_iff.1 packs
    obtain ⟨y, hy, hystate⟩ := Option.map_eq_some_iff.1 state
    obtain rfl : x = y := Option.some.inj (hx.symm.trans hy)
    obtain ⟨hsold, hleft⟩ := Prod.mk.inj hxpacks
    rw [hx, Option.map_some, hsold, hleft, hystate]
  · rw [askUpdate_clock, endLot_clock_self current, clock]
    rfl
  · rw [askUpdate_ledger, endLot_ledger current]
    exact vector_get_set_self ..
  · rw [askUpdate_lane, endLot_lane_ne hd, ← hu]
    rfl

/-! ## The completion -/

theorem writeSale_lastWritten : (writeSale c r f s).ledger.journal.lastWritten = s.ledger.journal.lastWritten + 1 := by
  obtain ⟨buyers, invoices, next, h⟩ := openedFor_ledger f.buyer s
  show (openedFor f.buyer s).ledger.journal.lastWritten + 1 = _
  rw [h]

/-- With nothing waiting the completion is the sale and the clock's part in it. -/
theorem exec_saleCommitComplete_accepted (hmain : s.hall.main = .present) (hwaits : NothingWaits s)
    (hreset : s.hlp.resetting = none) (hop : s.ledger.arbiter.inProgress = some (.commit c r (.accepted f))) :
    exec .saleCommitComplete s =
      .next (clockAccepted c r f (s.ledger.journal.lastWritten + 1) (writeSale c r f (free s))) := by
  have event : answeredBy (.commit c r (.accepted f)) s =
      clockAccepted c r f (writeSale c r f (free s)).ledger.journal.lastWritten (writeSale c r f (free s)) := rfl
  have written : (writeSale c r f (free s)).ledger.journal.lastWritten = s.ledger.journal.lastWritten + 1 :=
    writeSale_lastWritten
  have arbiter : (writeSale c r f (free s)).ledger.arbiter = (free s).ledger.arbiter := writeSale_arbiter
  obtain ⟨hlp, -⟩ := writeSale_frame c r f (free s)
  rw [written] at event
  generalize writeSale c r f (free s) = u at *
  have records := congrArg Prod.snd (recordsOf_clockAccepted (c := c) (s := u) (r := r) (f := f)
    (seq := s.ledger.journal.lastWritten + 1))
  have side := congrArg (fun x => x.2.1) (sideOf_clockAccepted (c := c) (s := u) (r := r) (f := f)
    (seq := s.ledger.journal.lastWritten + 1))
  have complete := exec_completionOf_present hop hmain
  rw [choiceNow_nothing (s := free s) hwaits, event] at complete
  generalize clockAccepted c r f (s.ledger.journal.lastWritten + 1) u = t at *
  have waits : NothingWaits t := by
    show t.ledger.arbiter.requests = [] ∧ ∀ d, t.ledger.arbiter.commits.get d = none
    rw [show t.ledger.arbiter = _ from records.trans arbiter]
    exact hwaits
  have reset : t.hlp.resetting = none := side.trans ((congrArg HostLink.resetting hlp).trans hreset)
  rw [afterCompletion_nothing waits reset] at complete
  exact complete

/-- Settles O43: the sale is written in the records (`writeSale_records`), the desks are told and the report queued
(`clockAccepted_frame`), and the clock pauses (`clockAccepted_again`) or ends its lot (`clockAccepted_last`). -/
theorem saleCommitAccepted : Obligations.SaleCommitAccepted := by
  unfold Obligations.SaleCommitAccepted
  rintro c r f l b n i others s hmain hwaits hreset hop hl hb hi rfl
  obtain ⟨lines, written, buyer, buyers, invoice, invoices, next⟩ :=
    writeSale_records (s := free s) (c := c) (r := r) hb hi
  obtain ⟨tariff, arbiter, marks, lastSale, counters⟩ := writeSale_ledger c r f (free s)
  obtain ⟨hlp, bus, lanes, hall, time, clock, clocks⟩ := writeSale_frame c r f (free s)
  have lot := writeSale_lot (s := free s) (c := c) (f := f) hl
  have complete := exec_saleCommitComplete_accepted hmain hwaits hreset hop
  generalize writeSale c r f (free s) = u at *
  obtain ⟨busEnd, hallEnd, clocksEnd, ⟨marksEnd, deferredEnd, ledgerEnd⟩, report⟩ :=
    clockAccepted_frame (c := c) (f := f) (seq := s.ledger.journal.lastWritten + 1) lot
  have again := clockAccepted_again (c := c) (f := f) (seq := s.ledger.journal.lastWritten + 1) lot
  have last := clockAccepted_last (c := c) (f := f) (seq := s.ledger.journal.lastWritten + 1) lot
  have collection : (u.clock c).collection = (s.clock c).collection := by rw [clock]; rfl
  have desk : ∀ d, u.desk d = s.desk d := fun d => desk_congr bus
  have row : ∀ x, u.row x = s.row x := fun x => by rw [State.row, bus]; rfl
  have outbid : outbidBy c u = outbidBy c s := by rw [outbidBy, clock]; rfl
  refine ⟨_, complete, ?lines, ?written, ?buyer, fun m hm => ?buyers, ?invoice, fun m hm => ?invoices, ?next, ?lastSale,
    fun d hd => ⟨?otherSale, (clocksEnd d hd).trans (clocks d hd)⟩, ?counters, ?tariff, ?idle, fun d => ?desk,
    fun x hx => ?row, fun hon hroom => ?report, hallEnd.trans hall, fun hagain => ?again, fun hlast hlot => ?last⟩
  case lines => rw [ledgerEnd]; exact lines
  case written => rw [ledgerEnd]; exact written
  case buyer => rw [State.buyer, ledgerEnd]; exact buyer
  case buyers => rw [State.buyer, ledgerEnd]; exact buyers m hm
  case invoice => rw [State.invoice, ledgerEnd]; exact invoice
  case invoices => rw [State.invoice, ledgerEnd]; exact invoices m hm
  case next => rw [ledgerEnd]; exact next
  case lastSale =>
    rw [ledgerEnd]
    show u.ledger.lastSale.get c = _
    rw [lastSale]
    exact vector_get_set_self ..
  case otherSale =>
    rw [ledgerEnd]
    show u.ledger.lastSale.get d = _
    rw [lastSale]
    exact vector_get_set_ne _ _ _ _ hd
  case counters => rw [ledgerEnd]; exact counters
  case tariff => rw [ledgerEnd]; exact tariff
  case idle =>
    rw [ledgerEnd]
    exact congrArg Arbiter.inProgress arbiter
  case desk =>
    rw [desk_congr busEnd, desksTold_desk, collection, desk, outbid]
    rfl
  case row =>
    rw [← row] at hx ⊢
    rw [← collection]
    exact (congrArg (fun z => (z.rows.get x).pressesRefused) busEnd).trans (desksTold_row x hx)
  case report =>
    have queued := report (by rw [hlp]; exact hon) (by rw [hlp]; exact hroom)
    rw [hlp] at queued
    refine queued.trans ?_
    rw [saleReport, clock]
    simp only [decide_eq_true_eq]
    rfl
  case again =>
    obtain ⟨hlots, hlanes, hledger, hclock⟩ := again hagain
    refine ⟨?_, ?_, ?_, hlanes.trans lanes⟩
    · rw [State.lot, hlots]
      exact lot
    · rw [hclock, clock, time]
      rfl
    · rw [hledger]
      exact marks
  case last =>
    obtain ⟨hpacks, hclock, hmark, hlane⟩ := last (by rw [clock]; exact hlot) hlast
    rw [clock] at hclock
    refine ⟨hpacks, ?_, ?_, ?_, ?_, ?_, hmark, fun d hd => (hlane d hd).trans (by rw [State.lane, lanes]; rfl)⟩
    all_goals rw [hclock]
    all_goals rfl

end Sys2Proof.Machine
end

section
/-! What JournalKept (R147) reads of a state: the main supply, the journal's numbers, the commits at the arbiter, and of
each clock its state, its lot and its reservation. The moves that keep it are moves of this view. -/

set_option Elab.async false

namespace Sys2Proof.Machine

open Sys2Proof.Safety

/-! ## The view -/

/-- What JournalKept reads of a clock. -/
structure Seat where
  state : ClockState
  lot : Option Nat
  reserved : Bool

/-- A clock that runs its lot holds its reservation (R64). -/
def Seat.Holds (x : Seat) : Prop :=
  x.state = .running ∨ x.state = .stopping ∨ x.state = .deciding ∨ x.state = .held → x.reserved = true

/-- A clock that offers `r`: DECIDING with its reservation, on the lot of `r` (R114, R147). -/
def Seat.Offers (x : Seat) (r : CommitRequest) : Prop :=
  x.state = .deciding ∧ x.reserved = true ∧ x.lot = some r.lot

/-- What JournalKept reads of a state. `serving` is the commit in progress, and its clock. -/
structure JournalView where
  main : MainSupply
  written : Nat
  released : Nat
  serving : Option (ClockId × CommitRequest)
  waiting : ClockId → Option CommitRequest
  seats : ClockId → Seat

/-- What JournalKept reads of a clock record. -/
def seatOf (x : Clock) : Seat := { state := x.state, lot := x.lot, reserved := x.reservation }

/-- The commit that an operation is, and its clock. -/
def commitOf : Operation → Option (ClockId × CommitRequest)
  | .commit c r _ => some (c, r)
  | .host _ _ _ _ => none

/-- What JournalKept reads of a state. -/
def viewOf (s : State) : JournalView :=
  { main := s.hall.main, written := s.ledger.journal.lastWritten, released := s.ledger.journal.lastReleased,
    serving := s.ledger.arbiter.inProgress.bind commitOf, waiting := s.ledger.arbiter.commits.get,
    seats := fun c => seatOf (s.clock c) }

namespace JournalView

variable {v : JournalView} {c d : ClockId} {x : Seat} {r : CommitRequest}

/-- The reservations held (R146). -/
def held (v : JournalView) : Nat := ∑ c, (v.seats c).reserved.toNat

/-- The commit `r` of clock `c` is in progress or waits (R114). -/
def Offered (v : JournalView) (c : ClockId) (r : CommitRequest) : Prop :=
  v.serving = some (c, r) ∨ v.waiting c = some r

/-- JournalKept, said of the view. -/
structure Kept (v : JournalView) : Prop where
  order : v.released ≤ v.written
  room : v.written - v.released + v.held ≤ 8192
  holds : v.main = .present → ∀ c, (v.seats c).Holds
  offers : ∀ c r, v.Offered c r → (v.seats c).Offers r
  once : ∀ c r, v.serving = some (c, r) → v.waiting c = none

/-- One clock's seat is replaced. -/
def withSeat (v : JournalView) (c : ClockId) (x : Seat) : JournalView :=
  { v with seats := Function.update v.seats c x }

theorem withSeat_self : v.withSeat c (v.seats c) = v := by simp [withSeat]

/-- A seat replaced changes the reservations held by its own alone. -/
theorem held_withSeat : (v.withSeat c x).held + (v.seats c).reserved.toNat = v.held + x.reserved.toNat := by
  have others : ∑ d ∈ Finset.univ.erase c, ((v.withSeat c x).seats d).reserved.toNat =
      ∑ d ∈ Finset.univ.erase c, (v.seats d).reserved.toNat :=
    Finset.sum_congr rfl fun d hd => by simp [withSeat, Function.update_of_ne (Finset.ne_of_mem_erase hd)]
  have self : (v.withSeat c x).seats c = x := by simp [withSeat]
  rw [held, held, ← Finset.sum_erase_add _ _ (Finset.mem_univ c),
    ← Finset.sum_erase_add _ (fun c => (v.seats c).reserved.toNat) (Finset.mem_univ c), others, self]
  omega

/-! ## Moves of the view -/

/-- A clock's seat changes, or lines are written, or both, within the 8,192 places. -/
theorem Kept.write {w : Nat} (h : v.Kept) (order : v.released ≤ w)
    (room : w - v.released + v.held + x.reserved.toNat ≤ 8192 + (v.seats c).reserved.toNat)
    (holds : v.main = .present → x.Holds) (offers : ∀ r, v.Offered c r → x.Offers r) :
    ({ v.withSeat c x with written := w } : JournalView).Kept where
  order := order
  room := by
    have := held_withSeat (v := v) (c := c) (x := x)
    show w - v.released + (v.withSeat c x).held ≤ 8192
    omega
  holds hmain d := by
    by_cases hd : d = c
    · subst hd; simpa [withSeat] using holds hmain
    · simpa [withSeat, Function.update_of_ne hd] using h.holds hmain d
  offers d r hr := by
    by_cases hd : d = c
    · subst hd; simpa [withSeat] using offers r hr
    · simpa [withSeat, Function.update_of_ne hd] using h.offers d r hr
  once := h.once

/-- A clock that offers no commit changes its seat, and keeps its reservation or goes without. -/
theorem Kept.reseat (h : v.Kept) (free : ∀ r, ¬ v.Offered c r) (holds : (v.seats c).Holds → x.Holds)
    (reserved : x.reserved = (v.seats c).reserved) : (v.withSeat c x).Kept :=
  h.write (w := v.written) h.order (by rw [reserved]; have := h.room; omega) (fun hmain => holds (h.holds hmain c))
    fun r hr => absurd hr (free r)

/-- The commit in progress is over. -/
theorem Kept.unserve (h : v.Kept) : ({ v with serving := none } : JournalView).Kept :=
  { h with
    offers := fun c r hr => h.offers c r (.inr (hr.resolve_left (by simp)))
    once := by simp }

/-- A waiting commit is taken into progress (R135). -/
theorem Kept.serve (h : v.Kept) (hr : v.waiting c = some r) :
    ({ v with serving := some (c, r), waiting := Function.update v.waiting c none } : JournalView).Kept :=
  { h with
    offers := fun d q hq => by
      rcases hq with hq | hq
      · cases hq; exact h.offers c r (.inr hr)
      · by_cases hd : d = c
        · subst hd; simp at hq
        · exact h.offers d q (.inr (by simpa [Function.update_of_ne hd] using hq))
    once := fun d q hq => by cases hq; simp }

/-- A clock places the commit it offers (R114). -/
theorem Kept.place (h : v.Kept) (hoffers : (v.seats c).Offers r) (hidle : ∀ q, v.serving ≠ some (c, q)) :
    ({ v with waiting := Function.update v.waiting c (some r) } : JournalView).Kept :=
  { h with
    offers := fun d q hq => by
      by_cases hd : d = c
      · subst hd
        rcases hq with hq | hq
        · exact absurd hq (hidle q)
        · obtain rfl : r = q := by simpa using hq
          exact hoffers
      · exact h.offers d q (hq.imp_right fun hq => by simpa [Function.update_of_ne hd] using hq)
    once := fun d q hq => by
      have hd : d ≠ c := fun e => hidle q (e ▸ hq)
      simpa [Function.update_of_ne hd] using h.once d q hq }

/-- The waiting commits are dropped (R145). -/
theorem Kept.drop (h : v.Kept) : ({ v with waiting := fun _ => none } : JournalView).Kept :=
  { h with offers := fun c r hr => h.offers c r (.inl (hr.resolve_right (by simp))), once := fun _ _ _ => rfl }

/-- The main supply fails. -/
theorem Kept.fail (h : v.Kept) : ({ v with main := .failed } : JournalView).Kept :=
  { h with holds := by simp }

/-- Lines up to `n` are released (R155). -/
theorem Kept.release {n : Nat} (h : v.Kept) (hlo : v.released ≤ n) (hhi : n ≤ v.written) :
    ({ v with released := n } : JournalView).Kept :=
  { h with
    order := hhi
    room := by
      have := h.room
      show v.written - n + v.held ≤ 8192
      omega }

/-- With no reservation held, no clock on its run and no commit at the arbiter, the unreleased lines alone count. -/
theorem kept_of_started (order : v.released ≤ v.written) (room : v.written - v.released ≤ 8192)
    (idle : ∀ c, (v.seats c).state = .idle ∧ (v.seats c).reserved = false) (serving : v.serving = none)
    (waiting : ∀ c, v.waiting c = none) : v.Kept where
  order := order
  room := by simpa [held, fun c => (idle c).2] using room
  holds _ c := by simp [Seat.Holds, (idle c).1]
  offers c r hr := by simp [Offered, serving, waiting] at hr
  once c r hr := by simp [serving] at hr

end JournalView

/-! ## The view of a state -/

variable {s t : State} {c d : ClockId} {n : Nat} {r : CommitRequest}

theorem viewOf_held : (viewOf s).held = reservationsHeld s := reservationsHeld_eq_sum.symm

theorem viewOf_offered : (viewOf s).Offered c r ↔
    (∃ a, s.ledger.arbiter.inProgress = some (.commit c r a)) ∨ s.ledger.arbiter.commits.get c = some r := by
  have serving : (viewOf s).serving = some (c, r) ↔ ∃ a, s.ledger.arbiter.inProgress = some (.commit c r a) := by
    show s.ledger.arbiter.inProgress.bind commitOf = _ ↔ _
    rw [Option.bind_eq_some_iff]
    constructor
    · rintro ⟨op, hop, h⟩
      cases op with
      | commit c' r' a => cases h; exact ⟨a, hop⟩
      | host tag q line v => cases h
    · rintro ⟨a, ha⟩
      exact ⟨_, ha, rfl⟩
  exact or_congr serving .rfl

theorem journalKept_iff : JournalKept s ↔ (viewOf s).Kept := by
  constructor
  · intro h
    refine ⟨h.order, viewOf_held ▸ h.room, h.holders, fun c r hr => ?_, fun c r hr => ?_⟩
    · rcases viewOf_offered.1 hr with ⟨a, ha⟩ | hr
      · exact (h.served c r a ha).1
      · exact h.waiting c r hr
    · rcases viewOf_offered.1 (.inl hr) with ⟨a, ha⟩ | hw
      · exact (h.served c r a ha).2
      · obtain ⟨op, hop, e⟩ := Option.bind_eq_some_iff.1 hr
        cases op with
        | commit c' r' a => cases e; exact (h.served c r a hop).2
        | host tag q line v => cases e
  · intro h
    have served : ∀ c r a, s.ledger.arbiter.inProgress = some (.commit c r a) → (viewOf s).serving = some (c, r) :=
      fun c r a ha => by simp [viewOf, ha, commitOf]
    exact ⟨h.order, viewOf_held ▸ h.room, h.holds,
      fun c r a ha => ⟨h.offers c r (.inl (served c r a ha)), h.once c r (served c r a ha)⟩,
      fun c r hr => h.offers c r (.inr hr)⟩

/-- The view has not changed. -/
theorem journalKept_of_view (h : JournalKept s) (e : viewOf t = viewOf s := by simp [viewOf]) : JournalKept t :=
  journalKept_iff.2 (e ▸ journalKept_iff.1 h)

theorem viewOf_setClock {x : Clock} : viewOf (s.setClock c x) = (viewOf s).withSeat c (seatOf x) := by
  have seats : (fun d => seatOf ((s.setClock c x).clock d)) =
      Function.update (fun d => seatOf (s.clock d)) c (seatOf x) := by
    funext d
    by_cases hd : d = c
    · subst hd; simp
    · rw [State.setClock_clock_ne _ _ _ _ hd, Function.update_of_ne hd]
  simp only [viewOf, JournalView.withSeat, seats]
  rfl

/-- One clock is replaced, and lines are written. -/
theorem viewOf_of_written {x : Clock} (hclocks : t.clocks = s.clocks.set c x)
    (hreleased : t.ledger.journal.lastReleased = s.ledger.journal.lastReleased)
    (harbiter : t.ledger.arbiter = s.ledger.arbiter) (hhall : t.hall = s.hall) :
    viewOf t = { (viewOf s).withSeat c (seatOf x) with written := t.ledger.journal.lastWritten } := by
  rw [← viewOf_setClock]
  have clocks : t.clock = (s.setClock c x).clock := by funext d; simp only [State.clock, hclocks, State.setClock_clocks]
  simp only [viewOf, clocks, hreleased, harbiter, hhall, State.setClock_ledger, State.setClock_hall]

/-- One clock is replaced, and what the view reads of supply and ledger stays. -/
theorem viewOf_of_clocks {x : Clock} (hclocks : t.clocks = s.clocks.set c x)
    (hledger : recordsOf t.ledger = recordsOf s.ledger := by simp) (hhall : t.hall = s.hall := by simp) :
    viewOf t = (viewOf s).withSeat c (seatOf x) := by
  have written : t.ledger.journal.lastWritten = s.ledger.journal.lastWritten :=
    congrArg (fun x => x.1.lastWritten) hledger
  rw [viewOf_of_written hclocks (congrArg (fun x => x.1.lastReleased) hledger) (congrArg Prod.snd hledger) hhall,
    written]
  rfl

/-- A clock changes in other fields than those the view reads. -/
theorem viewOf_setClock_same {x : Clock} (hx : seatOf x = seatOf (s.clock c)) : viewOf (s.setClock c x) = viewOf s := by
  rw [viewOf_setClock, hx]
  exact JournalView.withSeat_self

/-- A clock that is not DECIDING has no commit at the arbiter. -/
theorem not_offered (h : JournalKept s) (hst : (s.clock c).state ≠ .deciding) (r : CommitRequest) :
    ¬ (viewOf s).Offered c r := fun hr => hst ((journalKept_iff.1 h).offers c r hr).1

/-- One clock that has no commit at the arbiter changes its seat, but for its reservation. -/
theorem journalKept_reseat {x : Clock} (h : JournalKept s) (e : viewOf t = (viewOf s).withSeat c (seatOf x))
    (free : ∀ r, ¬ (viewOf s).Offered c r) (holds : (seatOf (s.clock c)).Holds → (seatOf x).Holds)
    (reserved : x.reservation = (s.clock c).reservation := by rfl) : JournalKept t :=
  journalKept_iff.2 (e ▸ (journalKept_iff.1 h).reseat free holds reserved)

end Sys2Proof.Machine
end

section
/-! JournalKept (R147) through the moves of the Clock Engine (chapter 4), of the boards that reach it (9.4), and through
the operations that the view does not see. -/

set_option Elab.async false

namespace Sys2Proof.Machine

open Sys2Proof.Safety

variable {s t : State} {c : ClockId} {n : Nat}

/-! ## Operations made on every clock, on a list, or under a guard -/

theorem journalKept_eachClock {f : ClockId → State → State} (hf : ∀ c s, JournalKept s → JournalKept (f c s))
    (h : JournalKept s) : JournalKept (eachClock f s) := hf 3 _ (hf 2 _ (hf 1 _ (hf 0 _ h)))

theorem journalKept_whenPowered (h : JournalKept s) (ht : s.hall.main = .present → JournalKept t) :
    JournalKept (whenPowered s t) := by
  unfold whenPowered
  split
  · next hmain => exact ht hmain
  · exact h

/-! ## Reservations and the run (R64 to R66, R72) -/

theorem viewOf_askLater : viewOf (askLater c s) = viewOf s := viewOf_setClock_same rfl

theorem viewOf_leaveLoaded : viewOf (leaveLoaded c s) = viewOf s :=
  viewOf_setClock_same (x := { s.clock c with asked := false }) rfl

theorem viewOf_defer : viewOf (defer c s) = viewOf s := by
  unfold defer
  split <;> rfl

theorem journalKept_grant (h : JournalKept s) (hst : (s.clock c).state ≠ .deciding) (hg : grantable s = true) :
    JournalKept (grant c s) := by
  have room := (grantable_iff.1 hg).1
  rw [← viewOf_held] at room
  rw [journalKept_iff] at h ⊢
  rw [grant, viewOf_setClock]
  refine h.write (w := (viewOf s).written) h.order ?_ (fun _ _ => rfl) fun r hr => absurd hr ?_
  · show (viewOf s).written - (viewOf s).released + (viewOf s).held + 1 ≤ _
    exact (Nat.succ_le_of_lt room).trans (Nat.le_add_right _ _)
  · exact not_offered (journalKept_iff.2 h) hst r

/-- A clock with its reservation runs (R65, R66). -/
theorem journalKept_runClock (h : JournalKept s) (hst : (s.clock c).state ≠ .deciding)
    (hr : (s.clock c).reservation = true) : JournalKept (runClock c s) :=
  journalKept_reseat h (viewOf_of_clocks runClock_clocks) (not_offered h hst) fun _ _ => hr

/-- A clock that runs, or otherwise holds its reservation, is HELD (R72). -/
theorem journalKept_enterHeld {cause : HoldCause} (h : JournalKept s) (free : ∀ r, ¬ (viewOf s).Offered c r)
    (holds : (seatOf (s.clock c)).Holds → (s.clock c).reservation = true) : JournalKept (enterHeld c cause s) :=
  journalKept_reseat h (viewOf_of_clocks (enterHeld_clocks cause)) free fun hold _ => holds hold

theorem journalKept_testNew (h : JournalKept s) (hst : (s.clock c).state = .loaded .new) :
    JournalKept (testNew c s) := by
  have quiet : (s.clock c).state ≠ .deciding := by simp [hst]
  unfold testNew
  split
  · split
    · exact journalKept_of_view h viewOf_defer
    · split
      · next hg =>
        exact journalKept_runClock (journalKept_grant h quiet hg) (by simpa using quiet) (by simp)
      · exact journalKept_of_view h viewOf_askLater
  · exact h

theorem journalKept_testRestart (h : JournalKept s) (hst : (s.clock c).state = .loaded .restart)
    (hr : (s.clock c).reservation = true) : JournalKept (testRestart c s) := by
  unfold testRestart
  split
  · exact journalKept_enterHeld (journalKept_of_view h viewOf_leaveLoaded)
      (not_offered (journalKept_of_view h viewOf_leaveLoaded) (by simp [leaveLoaded_clock_self, hst]))
      fun _ => by simp [leaveLoaded_clock_self, hr]
  · split
    · exact journalKept_runClock h (by simp [hst]) hr
    · exact h

theorem journalKept_askRestart (h : JournalKept s) (hst : (s.clock c).state = .loaded .restart) :
    JournalKept (askRestart c s) := by
  unfold askRestart
  split
  · exact journalKept_of_view h viewOf_defer
  · split
    · next hg =>
      exact journalKept_testRestart (journalKept_grant h (by simp [hst]) hg) (by simpa using hst) (by simp)
    · exact journalKept_of_view h viewOf_askLater

theorem journalKept_tellClock (h : JournalKept s) : JournalKept (tellClock c s) := by
  unfold tellClock
  split
  · next hst => exact journalKept_testNew h hst
  · next hst =>
    split
    · next hr => exact journalKept_testRestart h hst hr
    · exact h
  · exact h

theorem journalKept_tellSpace (h : JournalKept s) : JournalKept (tellSpace c s) := by
  unfold tellSpace
  split
  · next hst => exact journalKept_testNew h hst
  · next hst =>
    split
    · next hr => exact journalKept_testRestart h hst hr
    · exact journalKept_askRestart h hst
  · exact h

theorem journalKept_releaseDeferred (h : JournalKept s) : JournalKept (releaseDeferred c s) := by
  unfold releaseDeferred
  split
  · next hst => exact journalKept_testNew h hst
  · next hst =>
    split
    · exact h
    · exact journalKept_askRestart h hst
  · exact h

theorem journalKept_releaseAllDeferred (h : JournalKept s) : JournalKept (releaseAllDeferred s) :=
  List.foldlRecOn _ _ (journalKept_of_view h rfl) fun _ hs _ _ => journalKept_releaseDeferred hs

theorem journalKept_holdClock {cause : HoldCause} (h : JournalKept s) : JournalKept (holdClock c cause s) := by
  have pend : JournalKept (s.setClock c { s.clock c with
      holdPending := some ((s.clock c).holdPending.getD cause) }) := journalKept_of_view h (viewOf_setClock_same rfl)
  unfold holdClock
  cases hst : (s.clock c).state with
  | running => exact journalKept_enterHeld h (not_offered h (by simp [hst])) fun hold => hold (.inl hst)
  | stopping | deciding | sold => exact pend
  | loaded | held | idle | closed => exact h

/-! ## Lots taken and ended, steps, pauses (R62, R67, R70, R71, R77, R78) -/

theorem journalKept_takeLot {l : Lot} (h : JournalKept s) (hl : mayTake s c = some l) :
    JournalKept (takeLot c l s) := by
  obtain ⟨hidle, -, -⟩ := mayTake_spec hl
  exact journalKept_reseat h (viewOf_of_clocks takeLot_clocks) (not_offered h (by simp [hidle]))
    fun _ => by simp [Seat.Holds, seatOf]

/-- A clock without a lot is not on its run. -/
theorem emptyClock_holds (x : Clock) (closing : Bool) :
    (seatOf (emptyClock x (if closing then .closed else .idle))).Holds := by
  cases closing <;> simp [Seat.Holds, seatOf, emptyClock]

theorem journalKept_endLot {cause : LotEndCause} (h : JournalKept s) (hst : (s.clock c).state ≠ .deciding) :
    JournalKept (endLot c cause s) := by
  cases hl : s.currentLot c with
  | none => simpa [endLot, hl] using h
  | some l =>
    exact journalKept_reseat h (viewOf_of_clocks (endLot_clocks hl cause)) (not_offered h hst)
      fun _ => emptyClock_holds _ _

/-- A NO_SALE line takes the place of its clock's reservation, and the lot ends (R67, R71, R76, R151). -/
theorem journalKept_noSale {why : NoSaleCause} {cause : LotEndCause} (h : JournalKept s)
    (hst : (s.clock c).state ≠ .deciding) (hr : (s.clock c).reservation = true) :
    JournalKept (endLot c cause (writeNoSale c why s)) := by
  by_cases hwrites : ∃ l p, s.currentLot c = some l ∧ (s.clock c).startPrice = some p
  · obtain ⟨l, p, hl, hp⟩ := hwrites
    have hl' := writeNoSale_currentLot hl hp why
    have clocks : (endLot c cause (writeNoSale c why s)).clocks = s.clocks.set c (emptyClock
        { s.clock c with reservation := false } (if (s.clock c).closing then .closed else .idle)) := by
      rw [endLot_clocks hl', writeNoSale_clock_self hl hp, writeNoSale_clocks hl hp, vector_set_set]
    have ledger := (endLot_ledger hl' cause).trans (by rw [writeNoSale_ledger hl hp])
    have free := not_offered h hst
    rw [journalKept_iff] at h ⊢
    rw [viewOf_of_written clocks (by rw [ledger]) (by rw [ledger]) (by simp), ledger]
    refine h.write (Nat.le_succ_of_le h.order) ?_ (fun _ => emptyClock_holds _ _) fun r hr => absurd hr (free r)
    have room := h.room
    have order := h.order
    show (viewOf s).written + 1 - (viewOf s).released + (viewOf s).held + 0 ≤ 8192 + (s.clock c).reservation.toNat
    rw [hr, Bool.toNat_true]
    omega
  · have same : writeNoSale c why s = s := by
      simp only [writeNoSale]
      split
      · next l p hl hp => exact absurd ⟨l, p, hl, hp⟩ hwrites
      · rfl
    rw [same]
    exact journalKept_endLot h hst

theorem viewOf_advanced : viewOf (advanced c s) = viewOf s :=
  (viewOf_of_clocks advanced_clocks (by simp [advanced]) (by simp [advanced])).trans JournalView.withSeat_self

theorem journalKept_stepClock (h : JournalKept s) (hst : (s.clock c).state = .running)
    (hmain : s.hall.main = .present) : JournalKept (stepClock c s) := by
  simp only [stepClock]
  split
  · split
    · exact journalKept_of_view (t := advanced c s) h viewOf_advanced
    · exact journalKept_noSale h (by simp [hst]) (h.holders hmain c (.inl hst))
  · exact h

theorem journalKept_restartClock (h : JournalKept s) (hst : (s.clock c).state = .sold) :
    JournalKept (restartClock c s) := by
  simp only [restartClock]
  split
  · next l p hl hp =>
    refine journalKept_askRestart (s := restarted c l p s) ?_ (by simp [restartForm])
    exact journalKept_reseat h (viewOf_of_clocks (restarted_clocks c l p s)) (not_offered h (by simp [hst]))
      fun _ => by simp [Seat.Holds, seatOf, restartForm]
  · exact h

theorem journalKept_closeClock (h : JournalKept s) : JournalKept (closeClock c s) := by
  have view : viewOf (closeClock c s) = (viewOf s).withSeat c (seatOf (shutForm (s.clock c))) :=
    viewOf_of_clocks closeClock_clocks
  unfold shutForm at view
  split at view
  · next hst =>
    exact journalKept_reseat h view (not_offered h (by simp [hst])) fun _ => by simp [Seat.Holds, seatOf]
  · split at view
    · next hst =>
      exact journalKept_reseat h view (not_offered h (by simp [hst])) fun _ => by
        simp [Seat.Holds, seatOf, emptyClock]
    · exact journalKept_of_view h (view.trans JournalView.withSeat_self)

theorem journalKept_openClock (h : JournalKept s) : JournalKept (openClock c s) := by
  by_cases hst : (s.clock c).state = .closed
  · rw [openClock_closed hst]
    exact journalKept_reseat h (viewOf_of_clocks (raise_clocks ..)) (not_offered h (by simp [hst]))
      fun _ => by simp [Seat.Holds, seatOf]
  · rw [openClock_notClosed hst]
    exact journalKept_of_view h (viewOf_setClock_same rfl)

/-! ## Board events that reach the clock (R174 to R176) -/

theorem journalKept_missBoard (h : JournalKept s) : JournalKept (missBoard c s) := by
  simp only [missBoard]
  split
  · exact journalKept_holdClock (journalKept_of_view h)
  · exact journalKept_of_view h

theorem journalKept_goodAnswer (h : JournalKept s) : JournalKept (goodAnswer c s) := by
  simp only [goodAnswer]
  split
  · exact journalKept_of_view h
  · exact journalKept_tellClock (journalKept_of_view h)

end Sys2Proof.Machine
end

section
/-! JournalKept (R147) through the arbiter: commits placed and served (R114, R135), operations completed (R120, R139,
R156, R157), and the presses of a reply (R94 to R99, R112). -/

set_option Elab.async false

namespace Sys2Proof.Machine

open Sys2Proof.Safety

variable {s t : State} {c : ClockId} {d : DeskId} {n : Nat} {r : CommitRequest} {f : SaleFigures} {op : Operation}

/-! ## Commits placed, served and dropped (R114, R135, R145) -/

theorem vector_get_set_eq_update {α : Type} (v : Vector α 4) (c : ClockId) (x : α) :
    (v.set c x).get = Function.update v.get c x := by
  funext d
  by_cases hd : d = c
  · subst hd; simp
  · rw [vector_get_set_ne _ _ _ _ hd, Function.update_of_ne hd]

theorem viewOf_setArbiter (a : Arbiter) : viewOf (s.setArbiter a) =
    { viewOf s with serving := a.inProgress.bind commitOf, waiting := a.commits.get } := rfl

theorem journalKept_serveChoice (h : JournalKept s) (x : Choice) : JournalKept (serveChoice x s) := by
  cases x with
  | commit c =>
    simp only [serveChoice]
    split
    · next r hr =>
      rw [journalKept_iff] at h ⊢
      rw [viewOf_setArbiter, vector_get_set_eq_update]
      exact h.serve hr
    · exact h
  | request =>
    simp only [serveChoice]
    split
    · exact journalKept_iff.2 (journalKept_iff.1 h).unserve
    · exact h
  | nothing => exact h

theorem journalKept_serveWaiting (h : JournalKept s) : JournalKept (serveWaiting s) := by
  unfold serveWaiting
  split
  · exact journalKept_serveChoice h _
  · exact h

theorem journalKept_placeCommit (h : JournalKept s) (hst : (s.clock c).state = .deciding)
    (hr : (s.clock c).reservation = true) (free : ∀ r, ¬ (viewOf s).Offered c r) : JournalKept (placeCommit c s) := by
  unfold placeCommit
  split
  · next p rest n _ hn =>
    rw [journalKept_iff] at h ⊢
    simp only [viewOf_setArbiter, vector_get_set_eq_update]
    exact h.place ⟨hst, hr, hn⟩ fun q hq => free q (.inl hq)
  · exact h

/-- A clock with its reservation and without an offer enters DECIDING as `x`, and offers (R112, R114). -/
theorem journalKept_decide {x : Clock} (h : JournalKept s) (free : ∀ r, ¬ (viewOf s).Offered c r)
    (hr : (s.clock c).reservation = true) (hst : x.state = .deciding)
    (reserved : x.reservation = (s.clock c).reservation) (e : viewOf t = viewOf (s.setClock c x)) :
    JournalKept (serveWaiting (placeCommit c t)) := by
  rw [viewOf_setClock] at e
  have seat : seatOf (t.clock c) = seatOf x := (congrArg (fun v => v.seats c) e).trans (by simp [JournalView.withSeat])
  have hx : x.reservation = true := reserved.trans hr
  have kept := journalKept_reseat h e free (fun _ _ => hx) reserved
  refine journalKept_serveWaiting (journalKept_placeCommit kept ((congrArg Seat.state seat).trans hst)
    ((congrArg Seat.reserved seat).trans hx) fun r hr => free r ?_)
  rw [e] at hr
  exact hr

theorem journalKept_enterDeciding (h : JournalKept s) (hst : (s.clock c).state = .stopping)
    (hmain : s.hall.main = .present) : JournalKept (enterDeciding c s) :=
  journalKept_decide (x := { s.clock c with state := .deciding, windowEnds := none }) h
    (not_offered h (by simp [hst])) (h.holders hmain c (.inr (.inl hst))) rfl rfl rfl

theorem journalKept_dropWaiting (h : JournalKept s) : JournalKept (dropWaiting s) := by
  rw [journalKept_iff] at h ⊢
  have none : (Vector.replicate 4 (none : Option CommitRequest)).get = fun _ => none := by
    funext c
    simp [Vector.get_eq_getElem]
  rw [dropWaiting, viewOf_setArbiter, none]
  exact h.drop

/-! ## An operation is over -/

theorem journalKept_free (h : JournalKept s) : JournalKept (free s) :=
  journalKept_iff.2 (journalKept_iff.1 h).unserve

/-- The clock of the commit in progress offers nothing else. -/
theorem free_not_offered {a : CommitAnswer} (h : JournalKept s)
    (hop : s.ledger.arbiter.inProgress = some (.commit c r a)) (q : CommitRequest) :
    ¬ (viewOf (free s)).Offered c q := by
  rintro (hq | hq)
  · exact absurd hq (by simp [viewOf, free])
  · have none := (h.served c r a hop).2
    have hq : s.ledger.arbiter.commits.get c = some q := hq
    simp [none] at hq

theorem viewOf_continueReset : viewOf (continueReset s) = viewOf s := by
  unfold continueReset
  split <;> rfl

theorem journalKept_afterCompletion {x : Choice} (h : JournalKept s) : JournalKept (afterCompletion x s) :=
  journalKept_of_view (journalKept_serveWaiting (journalKept_serveChoice h x)) viewOf_continueReset

/-! ## A commit refused (R116, R120) -/

theorem viewOf_candidateRefused {x : CommitRefusal} : viewOf (candidateRefused c r x s) = viewOf (free s) := by
  obtain ⟨g, link, bus, -, -, e⟩ := candidateRefused_eq c r x s
  have same : viewOf (((free s).count g).setClock c { s.clock c with collection := (s.clock c).collection.tail }) =
      viewOf ((free s).count g) := viewOf_setClock_same rfl
  rw [e]
  exact same

theorem journalKept_allRefused (h : JournalKept s) (hr : (s.clock c).reservation = true)
    (free : ∀ r, ¬ (viewOf s).Offered c r) : JournalKept (allRefused c s) := by
  obtain ⟨-, hledger, -, hhall, -⟩ := allRefused_frame c s
  cases hhold : (s.clock c).holdPending with
  | none =>
    exact journalKept_reseat h (viewOf_of_clocks (allRefused_running hhold) (by rw [hledger]) hhall) free fun _ _ => hr
  | some cause =>
    exact journalKept_reseat h (viewOf_of_clocks (allRefused_held hhold) (by rw [hledger]) hhall) free fun _ _ => hr

theorem journalKept_offerNext (h : JournalKept s) (hst : (s.clock c).state = .deciding)
    (hr : (s.clock c).reservation = true) (free : ∀ r, ¬ (viewOf s).Offered c r) : JournalKept (offerNext c s) := by
  unfold offerNext
  split
  · exact journalKept_allRefused h hr free
  · exact journalKept_placeCommit h hst hr free

theorem journalKept_refused {x : CommitRefusal} (h : JournalKept s)
    (hop : s.ledger.arbiter.inProgress = some (.commit c r (.refused x))) :
    JournalKept (clockRefused c r x (countRefusal x (free s))) := by
  obtain ⟨hst, hr, -⟩ := (h.served c r _ hop).1
  rw [clockRefused_eq]
  refine journalKept_offerNext (journalKept_of_view (journalKept_free h) viewOf_candidateRefused) (by simpa using hst)
    (by simpa using hr) ?_
  rw [viewOf_candidateRefused]
  exact free_not_offered h hop

/-! ## A sale (R139, R118, R119) -/

theorem clocks_eq_set (h : ∀ d, d ≠ c → t.clock d = s.clock d) : t.clocks = s.clocks.set c (t.clock c) := by
  refine Vector.ext fun i hi => ?_
  have get := congrFun (vector_get_set_eq_update s.clocks c (t.clock c)) ⟨i, hi⟩
  rw [Vector.get_eq_getElem] at get
  refine Eq.trans ?_ get.symm
  by_cases hd : (⟨i, hi⟩ : ClockId) = c
  · rw [hd, Function.update_self, ← hd]; rfl
  · rw [Function.update_of_ne hd]; exact h _ hd

/-- The line of a sale takes the place of its clock's reservation. -/
theorem kept_sold {v : JournalView} {x : Seat} (h : v.Kept) (hr : (v.seats c).reserved = true)
    (hx : x.reserved = false) (free : ∀ r, ¬ v.Offered c r) (holds : v.main = .present → x.Holds) :
    ({ v.withSeat c x with written := v.written + 1 } : JournalView).Kept := by
  refine h.write (Nat.le_succ_of_le h.order) ?_ holds fun r hr => absurd hr (free r)
  have room := h.room
  have order := h.order
  rw [hr, hx, Bool.toNat_true, Bool.toNat_false]
  omega

theorem viewOf_writeSale : viewOf (writeSale c r f s) =
    { (viewOf s).withSeat c (seatOf { s.clock c with reservation := false }) with
      written := (viewOf s).written + 1 } := by
  obtain ⟨-, -, -, hhall, -, hself, hother⟩ := writeSale_frame c r f s
  have released : (writeSale c r f s).ledger.journal.lastReleased = s.ledger.journal.lastReleased := by
    obtain ⟨buyers, invoices, next, e⟩ := openedFor_ledger f.buyer s
    show (openedFor f.buyer s).ledger.journal.lastReleased = _
    rw [e]
  rw [viewOf_of_written (clocks_eq_set hother) released writeSale_arbiter hhall, writeSale_lastWritten, hself]
  rfl

/-- What the clock's part in a sale makes of the view: the clock pauses, or is without its lot (R118, R119). -/
theorem viewOf_clockAccepted {seq : Nat} {l : Lot} (hl : s.lot r.lot = some l)
    (hlot : (s.clock c).lot = some r.lot) : ∃ x : Seat,
      viewOf (clockAccepted c r f seq s) = (viewOf s).withSeat c x ∧ x.Holds ∧
      x.reserved = (s.clock c).reservation := by
  obtain ⟨-, hhall, hother, -, -⟩ := clockAccepted_frame (f := f) (c := c) (seq := seq) hl
  refine ⟨_, viewOf_of_clocks (clocks_eq_set hother) recordsOf_clockAccepted hhall, ?_⟩
  by_cases hagain : l.minTake ≤ l.packsRemaining
  · obtain ⟨-, -, -, hself⟩ := clockAccepted_again (f := f) (c := c) (seq := seq) hl hagain
    rw [hself]
    exact ⟨by simp [Seat.Holds, seatOf], rfl⟩
  · obtain ⟨-, hself, -⟩ := clockAccepted_last (f := f) (seq := seq) hl hlot (Nat.not_le.1 hagain)
    rw [hself]
    exact ⟨emptyClock_holds _ _, rfl⟩

theorem journalKept_accepted {seq : Nat} (hlots : LotsKept s) (h : JournalKept s)
    (hop : s.ledger.arbiter.inProgress = some (.commit c r (.accepted f))) :
    JournalKept (clockAccepted c r f seq (writeSale c r f (free s))) := by
  obtain ⟨-, hr, hlot⟩ := (h.served c r _ hop).1
  obtain ⟨l, hl, -⟩ := hlots.held c r.lot hlot
  obtain ⟨-, -, -, -, -, hself, -⟩ := writeSale_frame c r f (free s)
  obtain ⟨x, view, holds, reserved⟩ := viewOf_clockAccepted (f := f) (seq := seq)
    (writeSale_lot (c := c) (f := f) (s := free s) hl) (by rw [hself]; exact hlot)
  rw [hself] at reserved
  have kept := kept_sold (journalKept_iff.1 (journalKept_free h)) hr reserved (free_not_offered h hop) fun _ => holds
  rw [journalKept_iff, view, viewOf_writeSale]
  simpa [JournalView.withSeat] using kept

/-! ## Host ledger operations (R128 to R133, R141, R156, R162, R163) -/

theorem viewOf_closeAll (l : List Invoice) (s : State) : viewOf (closeAll l s) = viewOf s := by
  obtain ⟨buyers, invoices, e⟩ := closeAll_frame l s
  rw [e]
  rfl

theorem viewOf_closeInvoice (n : Nat) (s : State) : viewOf (closeInvoice n s) = viewOf s := by
  obtain ⟨buyers, invoices, e⟩ := closeInvoice_frame n s
  rw [e]
  rfl

theorem viewOf_writeVoid (l : JournalLine) :
    viewOf (writeVoid l s) = { viewOf s with written := (viewOf s).written + 1 } := by
  obtain ⟨x, e⟩ := withoutSale_eq l
    { s with lots := modKey Lot.number l.lot (voidedLot l) s.lots, ledger := voidedLedger l s }
  rw [writeVoid_eq, e]
  rfl

/-- A VOID line takes a free place of the journal (R156). -/
theorem journalKept_applyVoid (h : JournalKept s) : JournalKept (applyVoid n s).state := by
  unfold applyVoid
  split
  · exact h
  · next l _ =>
    split
    · exact h
    · next hg =>
      have room := (grantable_iff (s := s).1 (by simpa using hg)).1
      rw [← viewOf_held] at room
      rw [journalKept_iff] at h ⊢
      have kept := h.write (c := 0) (x := (viewOf s).seats 0) (w := (viewOf s).written + 1)
        (Nat.le_succ_of_le h.order) ?_ (fun hmain => h.holds hmain 0) (h.offers 0)
      · rw [JournalView.withSeat_self] at kept
        exact (viewOf_writeVoid l).symm ▸ kept
      · have order := h.order
        have room : (viewOf s).written - (viewOf s).released + (viewOf s).held < 8192 := room
        omega

theorem journalKept_applyRequest (h : JournalKept s) (q : LedgerRequest) : JournalKept (applyRequest s q).state := by
  cases q with
  | buyerEnter a => exact journalKept_of_view h rfl
  | buyerFlags a =>
    simp only [applyRequest]
    split <;> exact journalKept_of_view h rfl
  | buyerLimit number limit => exact journalKept_of_view h rfl
  | buyerRemove number =>
    simp only [applyRequest]
    split <;> exact journalKept_of_view h rfl
  | tariffSet feeClass rate =>
    simp only [applyRequest]
    split <;> exact journalKept_of_view h rfl
  | saleVoid n => exact journalKept_applyVoid h
  | paymentPost n =>
    simp only [applyRequest, applyPayment]
    split <;> exact journalKept_of_view h rfl
  | invoiceClose which =>
    simp only [applyRequest]
    split
    · unfold applyClose
      split
      · exact h
      · exact journalKept_of_view h (viewOf_closeInvoice ..)
    · exact h
  | dayClose => exact journalKept_of_view h (viewOf_closeAll _ s)

theorem journalKept_requestChanges {v : Service} {q : LedgerRequest} (h : JournalKept s) :
    JournalKept (requestChanges q v s).state := by
  cases v with
  | refuse status body => exact h
  | go => exact journalKept_applyRequest h q

/-! ## What completes with the supply FAILED, or before a start (R144, R145) -/

/-- Whatever completes keeps what is kept under a FAILED supply: a clock whose sale is written keeps its run without its
reservation until the start. -/
theorem kept_changedBy (h : JournalKept s) (hop : s.ledger.arbiter.inProgress = some op) :
    ({ viewOf (changedBy op s) with main := .failed } : JournalView).Kept := by
  cases op with
  | host tag q line v => exact (journalKept_iff.1 (journalKept_requestChanges (journalKept_free h))).fail
  | commit c r a =>
    cases a with
    | refused x => exact (journalKept_iff.1 (journalKept_free h)).fail
    | accepted f =>
      have kept := kept_sold (x := seatOf { s.clock c with reservation := false })
        (journalKept_iff.1 (journalKept_free h)).fail (h.served c r _ hop).1.2.1 rfl
        (free_not_offered h hop) (by simp)
      exact (congrArg (fun v : JournalView => { v with main := .failed })
        (viewOf_writeSale (c := c) (r := r) (f := f) (s := free s))).symm ▸ kept

theorem kept_settleInProgress (h : JournalKept s) :
    ({ viewOf (settleInProgress s) with main := .failed } : JournalView).Kept := by
  cases hop : s.ledger.arbiter.inProgress with
  | none => exact (settleInProgress_idle hop).symm ▸ (journalKept_iff.1 h).fail
  | some op => exact (settleInProgress_busy hop).symm ▸ kept_changedBy h hop

/-! ## Completions -/

theorem changedBy_hall (op : Operation) (s : State) : (changedBy op s).hall = s.hall := by
  obtain ⟨clocks, lots, ledger, boards, e, -⟩ := changedBy_recordsOnly op s
  rw [e]

theorem journalKept_changedBy (h : JournalKept s) (hop : s.ledger.arbiter.inProgress = some op)
    (hmain : s.hall.main = .failed) : JournalKept (changedBy op s) := by
  have main : (viewOf (changedBy op s)).main = .failed := by
    show (changedBy op s).hall.main = _
    rw [changedBy_hall, hmain]
  have kept := kept_changedBy h hop
  rw [← main] at kept
  exact journalKept_iff.2 kept

theorem journalKept_answeredBy (hlots : LotsKept s) (h : JournalKept s)
    (hop : s.ledger.arbiter.inProgress = some op) : JournalKept (answeredBy op s) := by
  cases op with
  | commit c r a =>
    cases a with
    | accepted f => exact journalKept_accepted hlots h hop
    | refused x => exact journalKept_refused h hop
  | host tag q line v =>
    have kept := journalKept_of_view (t := placeReply (ledgerReply tag q (requestChanges q v (free s)).status
      (requestChanges q v (free s)).body) (requestChanges q v (free s)).state)
      (journalKept_requestChanges (journalKept_free h)) rfl
    simp only [answeredBy]
    split
    · exact journalKept_releaseAllDeferred kept
    · exact kept

/-- The completion of the operation in progress (R120, R139, R144, R157). -/
theorem journalKept_complete (hlots : LotsKept s) (h : JournalKept s)
    (hop : s.ledger.arbiter.inProgress = some op) : After (exec (completionOf op) s) JournalKept := by
  cases hmain : s.hall.main with
  | present =>
    rw [exec_completionOf_present hop hmain]
    exact after_next (journalKept_afterCompletion (journalKept_answeredBy hlots h hop))
  | failed =>
    rw [exec_completionOf_failed hop hmain]
    exact after_next (journalKept_changedBy h hop hmain)

/-! ## Presses (R94 to R96, R109 to R112) -/

theorem viewOf_refusePress {x : DeskRefusal} : viewOf (refusePress d x c s) = viewOf s := by simp [viewOf]

theorem viewOf_collect {p : Press} : viewOf (collect c p s) = viewOf s := by
  have placed : ∀ l, viewOf (s.setClock c { s.clock c with collection := l }) = viewOf s :=
    fun l => viewOf_setClock_same rfl
  simp only [collect]
  split
  · exact viewOf_refusePress
  · split
    · exact placed _
    · split
      · rfl
      · split
        · exact viewOf_refusePress.trans (placed _)
        · exact viewOf_refusePress

theorem viewOf_askUpdate : viewOf (askUpdate c s) = viewOf s := by simp [viewOf]

/-- The clock as its first admitted press leaves it, while a window runs (R68). -/
def stoppedOn (c : ClockId) (p : Press) (s : State) : Clock := { s.clock c with
  state := .stopping
  stepTimer := match (s.clock c).stepTimer with
    | .running t => .halted (s.left t)
    | t => t
  collection := [p]
  windowEnds := some (s.timebase + (s.clock c).params.window * 250) }

theorem stopClock_eq (c : ClockId) (p : Press) (s : State) : stopClock c p s =
    if (s.clock c).params.window = 0 then serveWaiting (placeCommit c (askUpdate c (s.setClock c
        { stoppedOn c p s with state := .deciding, windowEnds := none })))
      else askUpdate c (s.setClock c (stoppedOn c p s)) := by
  simp only [stopClock]
  split
  · simp only [State.setClock_clock_self, State.setClock_setClock]
    rfl
  · rfl

theorem journalKept_stopClock {p : Press} (h : JournalKept s) (hst : (s.clock c).state = .running)
    (hmain : s.hall.main = .present) : JournalKept (stopClock c p s) := by
  have hr := h.holders hmain c (.inl hst)
  have free := not_offered h (c := c) (by simp [hst])
  rw [stopClock_eq]
  split
  · exact journalKept_decide (x := { stoppedOn c p s with state := .deciding, windowEnds := none }) h free hr rfl rfl
      viewOf_askUpdate
  · exact journalKept_of_view (journalKept_reseat (x := stoppedOn c p s) h viewOf_setClock free fun _ _ => hr)
      viewOf_askUpdate

theorem journalKept_takePress {run tag offset packs : Nat} (h : JournalKept s) (hmain : s.hall.main = .present) :
    JournalKept (takePress d c run tag offset packs s) := by
  have arrived : JournalKept (arrived s) := journalKept_of_view h rfl
  simp only [takePress]
  split
  · exact journalKept_of_view arrived viewOf_refusePress
  · split
    · next hst => exact journalKept_stopClock arrived hst hmain
    · exact journalKept_of_view arrived viewOf_collect

/-! ## The events of a reply (R93, R97 to R99) -/

theorem viewOf_unbindDesk : viewOf (unbindDesk d s) = viewOf s := by
  unfold unbindDesk
  split <;> rfl

theorem viewOf_bindDesk : viewOf (bindDesk d n s) = viewOf s := by
  simp only [bindDesk]
  split
  · rfl
  · exact viewOf_unbindDesk

theorem viewOf_signOn : viewOf (signOn d n s) = viewOf s := by
  have refused : viewOf (refuseSignOn d s) = viewOf s := viewOf_unbindDesk
  unfold signOn
  split
  · split
    · exact refused
    · exact viewOf_bindDesk
  · exact refused

theorem journalKept_takeEvent {e : DeskEvent} (h : JournalKept s) (hmain : s.hall.main = .present) :
    JournalKept (takeEvent e s) := by
  cases e with
  | press d c run tag offset packs =>
    simp only [takeEvent]
    split
    · exact journalKept_takePress h hmain
    · exact h
  | signOn d b =>
    simp only [takeEvent]
    split
    · exact journalKept_of_view h viewOf_signOn
    · exact h
  | signOff d =>
    simp only [takeEvent]
    split
    · exact journalKept_of_view h viewOf_unbindDesk
    · exact h

end Sys2Proof.Machine
end

section
/-! JournalKept (R147) through the events of a reply (R88), the hall, the key and the host link (10, R197), the supply
and the starts (R190 to R192), and the clock requests (R74 to R78). -/

set_option Elab.async false

namespace Sys2Proof.Machine

open Sys2Proof.Safety

variable {s t : State} {c : ClockId} {n : Nat}

/-! ## A batch of events (R88) -/

theorem takeEvent_hall (e : DeskEvent) (s : State) : (takeEvent e s).hall = s.hall := by
  cases e with
  | press d c run tag offset packs =>
    simp only [takeEvent]
    split
    · exact (eventKeeps_takePress (EventKeeps.refl s)).hall
    · rfl
  | signOn d b =>
    simp only [takeEvent]
    split
    · exact signOn_hall ..
    · rfl
  | signOff d =>
    simp only [takeEvent]
    split
    · exact unbindDesk_hall ..
    · rfl

theorem journalKept_takeReply {r : RowId} {y : RowReply} (h : JournalKept s) (hmain : s.hall.main = .present) :
    JournalKept (takeReply r y s) := by
  have good : JournalKept (goodRow r s) := journalKept_of_view h
  simp only [takeReply]
  split
  · exact good
  · exact (List.foldlRecOn (motive := fun t => JournalKept t ∧ t.hall.main = .present) _ _
      ⟨journalKept_of_view good, by simpa using hmain⟩
      fun t ht e _ => ⟨journalKept_takeEvent ht.1 ht.2, by rw [takeEvent_hall]; exact ht.2⟩).1

/-! ## Hall Services and the host link (R183 to R189, R197) -/

theorem journalKept_setTime (h : JournalKept s) : JournalKept (setTime s) := by
  unfold setTime
  split
  · exact h
  · exact journalKept_eachClock (fun _ _ hs => journalKept_tellClock hs) (journalKept_of_view h rfl)

theorem journalKept_clearTime (h : JournalKept s) : JournalKept (clearTime s) := by
  unfold clearTime
  split
  · exact journalKept_eachClock (fun _ _ hs => journalKept_holdClock hs) (journalKept_of_view h rfl)
  · exact h

theorem journalKept_raise {b : ReportBody} (h : JournalKept s) : JournalKept (raise b s) := journalKept_of_view h

theorem journalKept_fireAlarm (h : JournalKept s) : JournalKept (fireAlarm s) :=
  journalKept_eachClock (fun _ _ hs => journalKept_closeClock hs) (journalKept_raise h)

theorem journalKept_advanceCalendar (h : JournalKept s) : JournalKept (advanceCalendar s) := by
  unfold advanceCalendar
  extract_lets old hall advanced calendar ended
  have hadvanced : JournalKept advanced := journalKept_of_view h rfl
  have hended : JournalKept ended := by
    unfold ended
    split
    · exact journalKept_clearTime hadvanced
    · exact hadvanced
  split
  · split
    · exact journalKept_of_view hadvanced rfl
    · exact hadvanced
  · split
    · exact journalKept_fireAlarm hended
    · exact hended

theorem journalKept_changeKey {new : KeyPosition} (h : JournalKept s) : JournalKept (changeKey new s) := by
  have changed : JournalKept (raise (.key s.hall.key new s.hall.calendar)
      { s with hall := { s.hall with key := new, keyCounter := 0, keyRaw := new } }) :=
    journalKept_raise (journalKept_of_view h rfl)
  simp only [changeKey]
  split
  · exact journalKept_eachClock (fun _ _ hs => journalKept_holdClock hs) changed
  · split
    · exact journalKept_eachClock (fun _ _ hs => journalKept_tellClock hs) changed
    · exact changed

theorem journalKept_sampleKey {x : KeyPosition} (h : JournalKept s) : JournalKept (sampleKey x s) := by
  unfold sampleKey
  extract_lets hall count
  split
  · exact journalKept_of_view h rfl
  · split
    · exact journalKept_of_view h rfl
    · exact journalKept_changeKey h

theorem journalKept_changeBackup {x : BackupSupply} (h : JournalKept s) : JournalKept (changeBackup x s) := by
  unfold changeBackup
  split
  · exact journalKept_raise (journalKept_of_view h rfl)
  · exact journalKept_of_view h rfl

theorem journalKept_loseHost (h : JournalKept s) : JournalKept (loseHost s) :=
  journalKept_eachClock (fun _ _ hs => journalKept_tellClock hs) (journalKept_raise (journalKept_of_view h rfl))

theorem journalKept_frameArrives (h : JournalKept s) : JournalKept (frameArrives s) := by
  have counted : JournalKept (restartSupervision
      { s with hlp := { s.hlp with framesGood := countUp top16 s.hlp.framesGood, receiver := .hunting } }) :=
    journalKept_of_view h rfl
  simp only [frameArrives, restoreHost]
  split
  · exact counted
  · exact journalKept_eachClock (fun _ _ hs => journalKept_tellClock hs)
      (journalKept_raise (journalKept_of_view counted rfl))

/-! ## Supply failure and starts (R145, R190, R192) -/

theorem viewOf_failMain : viewOf (failMain s) = { viewOf (dropWaiting s) with main := .failed } := by
  have clock : ∀ c, (failMain s).clock c = stopClockTimers (s.clock c) := fun c => mapCells_get ..
  simp only [viewOf, clock]
  rfl

theorem journalKept_failMain (h : JournalKept s) : JournalKept (failMain s) := by
  rw [journalKept_iff, viewOf_failMain]
  exact (journalKept_iff.1 (journalKept_dropWaiting h)).fail

theorem warmStart_clocks {kind : StartKind} {mainReturn : Bool} {backup : BackupSupply} :
    (warmStart kind mainReturn backup s).clocks = mapCells warmClock (settleInProgress s).clocks := by
  have departed : ∀ t : State, (eachClock testDepartures t).clocks = t.clocks := fun t => by simp [eachClock]
  have backed : ∀ t, (reportBackup backup t).clocks = t.clocks := fun t => by cases backup <;> simp [reportBackup]
  have failed : ∀ t, (reportMainFail kind t).clocks = t.clocks := fun t => by cases kind <;> simp [reportMainFail]
  simp only [warmStart, departed, backed]
  split
  · rw [failed]
    rfl
  · rfl

/-- A start leaves no reservation, no clock on its run and nothing at the arbiter; the journal's numbers stand
(R144). -/
theorem journalKept_warmStart {kind : StartKind} {mainReturn : Bool} {backup : BackupSupply} (h : JournalKept s) :
    JournalKept (warmStart kind mainReturn backup s) := by
  have settled := kept_settleInProgress h
  have clock : ∀ c, (warmStart kind mainReturn backup s).clock c = warmClock ((settleInProgress s).clock c) :=
    fun c => by rw [State.clock, warmStart_clocks]; exact mapCells_get ..
  have ledger := warmStart_ledger (s := s) (kind := kind) (mainReturn := mainReturn) (backup := backup)
  generalize warmStart kind mainReturn backup s = t at *
  refine journalKept_iff.2 (JournalView.kept_of_started ?_ ?_ (fun c => ?_) ?_ fun c => ?_)
  · show t.ledger.journal.lastReleased ≤ t.ledger.journal.lastWritten
    rw [ledger]
    exact settled.order
  · show t.ledger.journal.lastWritten - t.ledger.journal.lastReleased ≤ 8192
    rw [ledger]
    exact (Nat.le_add_right _ _).trans settled.room
  · show (t.clock c).state = .idle ∧ (t.clock c).reservation = false
    rw [clock]
    exact ⟨rfl, rfl⟩
  · show t.ledger.arbiter.inProgress.bind commitOf = none
    rw [ledger]
    rfl
  · show t.ledger.arbiter.commits.get c = none
    rw [ledger]
    simp [warmLedger, Arbiter.atStart, Vector.get_eq_getElem]

theorem journalKept_coldStart {backup : BackupSupply} : JournalKept (coldStart backup s) := by
  refine journalKept_iff.2 (JournalView.kept_of_started ?_ ?_ (fun c => ?_) ?_ fun c => ?_)
  all_goals simp [viewOf, seatOf, Ledger.atStart, Journal.atStart, Arbiter.atStart, Clock.atStart,
    Vector.get_eq_getElem]

theorem journalKept_startBySupply {mainReturn : Bool} {backup : BackupSupply} (h : JournalKept s) :
    JournalKept (startBySupply mainReturn backup s) := by
  unfold startBySupply
  split
  · exact journalKept_warmStart h
  · exact journalKept_coldStart

/-! ## Clock requests (R59, R74 to R78) -/

theorem journalKept_setClockParams {a : ClockSettings} (h : JournalKept s) : JournalKept (setClockParams a c s).1 := by
  simp only [setClockParams]
  split
  · exact journalKept_of_view h (viewOf_setClock_same rfl)
  · exact h

theorem journalKept_requestHold (h : JournalKept s) : JournalKept (requestHold c s).1 := by
  simp only [requestHold]
  split
  · exact h
  · exact h
  · exact journalKept_holdClock h

/-- A HELD clock with its reservation runs again (R75). -/
theorem journalKept_resumeClock (h : JournalKept s) (hst : (s.clock c).state = .held) :
    JournalKept (resumeClock c s) :=
  journalKept_reseat h (viewOf_of_clocks resumeClock_clocks (by simp [resumeClock]) (by simp [resumeClock]))
    (not_offered h (by simp [hst])) fun hold _ => hold (.inr (.inr (.inr hst)))

theorem journalKept_requestResume (h : JournalKept s) : JournalKept (requestResume c s).1 := by
  unfold requestResume
  split
  · exact h
  · next hst =>
    split
    · exact h
    · split
      · exact h
      · split
        · exact h
        · exact journalKept_resumeClock h (by simpa using hst)

theorem journalKept_withdrawLot (h : JournalKept s) (hst : (s.clock c).state ≠ .deciding) :
    JournalKept (withdrawLot c s).1 := by
  unfold withdrawLot
  split
  · next hr => exact journalKept_noSale h hst hr
  · exact journalKept_endLot h hst

theorem journalKept_requestWithdraw (h : JournalKept s) : JournalKept (requestWithdraw c s).1 := by
  unfold requestWithdraw
  cases hst : (s.clock c).state with
  | idle | closed | stopping | deciding => exact h
  | held =>
    simp only
    split
    · exact h
    · exact journalKept_withdrawLot h (by simp [hst])
  | loaded | running | sold => exact journalKept_withdrawLot h (by simp [hst])

theorem journalKept_onClocks {f : ClockStep} (hf : ∀ c s, JournalKept s → JournalKept (f c s).1)
    (h : JournalKept s) : JournalKept (onClocks n f s).state := by
  simp only [onClocks]
  split
  · exact hf 3 _ (hf 2 _ (hf 1 _ (hf 0 _ h)))
  · split
    · exact h
    · exact hf _ _ h

theorem journalKept_doClockSet {a : ClockSettings} (h : JournalKept s) : JournalKept (doClockSet a s).state := by
  simp only [doClockSet]
  split
  · exact h
  · split
    · exact h
    · exact journalKept_onClocks (fun _ _ hs => journalKept_setClockParams hs) h

end Sys2Proof.Machine
end

section
/-! JournalKept (R147) through every request and every command, and so through a step. -/

set_option Elab.async false

namespace Sys2Proof.Machine

open Sys2Proof.Safety

variable {s t : State} {c : ClockId} {n : Nat}

/-! ## Requests outside clocks, journal and arbiter -/

theorem viewOf_doLotEnter {a : LotFields} : viewOf (doLotEnter a s).state = viewOf s := by
  simp only [doLotEnter]
  split
  · rfl
  · rfl
  · split
    · rfl
    · split <;> rfl

theorem viewOf_doLotAmend {a : LotAmendment} : viewOf (doLotAmend a s).state = viewOf s := by
  simp only [doLotAmend]
  split
  · rfl
  · split
    · split <;> rfl
    · rfl

theorem viewOf_doLotRemove : viewOf (doLotRemove n s).state = viewOf s := by
  simp only [doLotRemove]
  split
  · rfl
  · split <;> rfl

theorem viewOf_queuePlaces {train trolley : Nat} (l : List Nat) {place : Nat} :
    viewOf (queuePlaces c train trolley place l s) = viewOf s := by
  induction l generalizing place s with
  | nil => rfl
  | cons n l ih => exact ih

theorem viewOf_queueTrolleys {train : Nat} (l : List TrolleyEntry) {trolley : Nat} :
    viewOf (queueTrolleys c train trolley l s) = viewOf s := by
  induction l generalizing trolley s with
  | nil => rfl
  | cons x l ih => exact ih.trans (viewOf_queuePlaces x.lots)

theorem viewOf_doTrainAnnounce {a : TrainAnnouncement} : viewOf (doTrainAnnounce a s).state = viewOf s := by
  simp only [doTrainAnnounce]
  split
  · rfl
  · rfl
  · split
    · rfl
    · split
      · rfl
      · split
        · rfl
        · exact viewOf_queueTrolleys a.trolleys

theorem viewOf_doTrainCancel {lane train : Nat} : viewOf (doTrainCancel lane train s).state = viewOf s := by
  simp only [doTrainCancel]
  split
  · rfl
  · rfl
  · split
    · rfl
    · split
      · simp [viewOf, accept]
      · rfl

theorem viewOf_doLaneSet {a : LaneSettings} : viewOf (doLaneSet a s).state = viewOf s := by
  simp only [doLaneSet]
  split
  · rfl
  · split <;> rfl

theorem viewOf_doDeskRelease : viewOf (doDeskRelease n s).state = viewOf s := by
  simp only [doDeskRelease]
  split
  · rfl
  · exact viewOf_unbindDesk

theorem viewOf_doBoardSet {board period : Nat} : viewOf (doBoardSet board period s).state = viewOf s := by
  simp only [doBoardSet]
  split
  · rfl
  · split <;> rfl

theorem viewOf_doCloseAlarmSet {a : Alarm} : viewOf (doCloseAlarmSet a s).state = viewOf s := by
  simp only [doCloseAlarmSet]
  split
  · rfl
  · split <;> rfl

theorem viewOf_doReportTake : viewOf (doReportTake n s).state = viewOf s := by
  simp only [doReportTake]
  split <;> rfl

theorem viewOf_doLinkSet {rate : Nat} {x : Option Supervision} : viewOf (doLinkSet rate x s).state = viewOf s := by
  simp only [doLinkSet]
  split
  · rfl
  · split <;> rfl

theorem viewOf_sampleGate {blocked : Bool} : viewOf (sampleGate c blocked s) = viewOf s := by
  simp only [sampleGate]
  split
  · rfl
  · split
    · rfl
    · simp [viewOf]

/-! ## Requests that reach journal, clocks or arbiter (R134, R155, R185, R202) -/

/-- JOURNAL-RELEASE takes lines from the journal, and tells the clocks (R155). -/
theorem journalKept_doJournalRelease (h : JournalKept s) : JournalKept (doJournalRelease n s).state := by
  unfold doJournalRelease
  extract_lets j freed
  split
  · exact h
  · next hn =>
    split
    · exact h
    · next hnew =>
      obtain ⟨-, hwritten⟩ := not_or.1 hn
      have released : JournalKept freed :=
        journalKept_iff.2 ((journalKept_iff.1 h).release (Nat.le_of_not_le hnew) (Nat.not_lt.1 hwritten))
      show JournalKept (eachClock tellSpace freed)
      exact journalKept_eachClock (fun _ _ hs => journalKept_tellSpace hs) released

theorem journalKept_doHallTimeSet {time : Stamp} (h : JournalKept s) : JournalKept (doHallTimeSet time s).state := by
  simp only [doHallTimeSet]
  split
  · exact h
  · split
    · exact journalKept_clearTime h
    · exact journalKept_setTime (journalKept_of_view h rfl)

theorem journalKept_finish {a : Answer} (h : JournalKept a.state) {tag : Byte} {r : Request} {after : AfterReply} :
    JournalKept (finish tag r after a) := journalKept_of_view h rfl

theorem journalKept_arriveLedger {tag : Byte} {r : LedgerRequest} (h : JournalKept s) :
    JournalKept (arriveLedger tag r s) := by
  simp only [arriveLedger]
  split
  · exact journalKept_of_view h rfl
  · split
    · exact journalKept_of_view h rfl
    · split
      · exact journalKept_of_view h rfl
      · exact journalKept_serveWaiting (journalKept_of_view h rfl)

theorem journalKept_beginReset {tag : Byte} (h : JournalKept s) : JournalKept (beginReset tag s) :=
  journalKept_of_view (journalKept_dropWaiting h) viewOf_continueReset

/-! ## Dispatch (R196) -/

theorem journalKept_dispatchRequest {tag : Byte} {r : Request} (h : JournalKept s) :
    JournalKept (dispatchRequest tag r s) := by
  cases r with
  | identify | hallTimeRead | statsRead | unknown => exact journalKept_finish h
  | lotEnter a => exact journalKept_finish (journalKept_of_view h viewOf_doLotEnter)
  | lotAmend a => exact journalKept_finish (journalKept_of_view h viewOf_doLotAmend)
  | lotRemove n => exact journalKept_finish (journalKept_of_view h viewOf_doLotRemove)
  | trainAnnounce a => exact journalKept_finish (journalKept_of_view h viewOf_doTrainAnnounce)
  | trainCancel lane train => exact journalKept_finish (journalKept_of_view h viewOf_doTrainCancel)
  | laneSet a => exact journalKept_finish (journalKept_of_view h viewOf_doLaneSet)
  | boardSet board period => exact journalKept_finish (journalKept_of_view h viewOf_doBoardSet)
  | closeAlarmSet a => exact journalKept_finish (journalKept_of_view h viewOf_doCloseAlarmSet)
  | reportTake n => exact journalKept_finish (journalKept_of_view h viewOf_doReportTake)
  | linkSet rate x => exact journalKept_finish (journalKept_of_view h viewOf_doLinkSet)
  | deskRelease n => exact journalKept_finish (journalKept_of_view h viewOf_doDeskRelease)
  | reportEnable | statsClear => exact journalKept_finish (journalKept_of_view h rfl)
  | lotQuery q => exact journalKept_finish ((doLotQuery_state q).symm ▸ h)
  | laneQuery q => exact journalKept_finish ((doLaneQuery_state q).symm ▸ h)
  | clockQuery n => exact journalKept_finish ((doClockQuery_state n).symm ▸ h)
  | deskQuery q => exact journalKept_finish ((doDeskQuery_state q).symm ▸ h)
  | buyerQuery q => exact journalKept_finish ((doBuyerQuery_state q).symm ▸ h)
  | invoiceQuery q => exact journalKept_finish ((doInvoiceQuery_state q).symm ▸ h)
  | journalRead start count => exact journalKept_finish ((doJournalRead_state start count).symm ▸ h)
  | boardQuery n => exact journalKept_finish ((doBoardQuery_state n).symm ▸ h)
  | clockSet a => exact journalKept_finish (journalKept_doClockSet h)
  | clockHold n =>
    exact journalKept_finish (journalKept_onClocks (fun _ _ hs => journalKept_requestHold hs) h)
  | clockResume n =>
    exact journalKept_finish (journalKept_onClocks (fun _ _ hs => journalKept_requestResume hs) h)
  | clockWithdraw n =>
    exact journalKept_finish (journalKept_onClocks (fun _ _ hs => journalKept_requestWithdraw hs) h)
  | clockOpen n => exact journalKept_finish (journalKept_onClocks (fun _ _ hs => journalKept_openClock hs) h)
  | ledger r => exact journalKept_arriveLedger h
  | journalRelease n => exact journalKept_finish (journalKept_doJournalRelease h)
  | hallTimeSet time => exact journalKept_finish (journalKept_doHallTimeSet h)
  | controllerReset => exact journalKept_beginReset h

theorem journalKept_routeRequest {tag : Byte} {r : Request} (h : JournalKept s) :
    JournalKept (routeRequest tag r s) := by
  simp only [routeRequest]
  split
  · exact journalKept_of_view h rfl
  · split
    · exact journalKept_dispatchRequest h
    · exact journalKept_of_view h rfl

theorem journalKept_hostRequest {tag : Byte} {r : Request} (h : JournalKept s) :
    JournalKept (hostRequest tag r s) :=
  journalKept_whenPowered h fun _ => journalKept_routeRequest (journalKept_frameArrives h)

/-! ## The line's bytes and the replies (R195, R196) -/

theorem journalKept_afterReply {x : AfterReply} {backup : BackupSupply} (h : JournalKept s) :
    JournalKept (afterReply x backup s) := by
  cases x with
  | nothing => exact h
  | newRate rate => exact journalKept_of_view h rfl
  | warmStart => exact journalKept_warmStart h

theorem journalKept_dispatchHeld (h : JournalKept s) : JournalKept (dispatchHeld s) := by
  simp only [dispatchHeld]
  split
  · split
    · exact journalKept_dispatchRequest (journalKept_of_view h rfl)
    · exact h
  · exact h

theorem journalKept_replyGone {backup : BackupSupply} (h : JournalKept s) : JournalKept (replyGone backup s) := by
  simp only [replyGone]
  split
  · exact h
  · exact journalKept_dispatchHeld (journalKept_afterReply (journalKept_of_view h rfl))

theorem journalKept_receiveBytes {bytes : List LineByte} (h : JournalKept s) :
    JournalKept (bytes.foldl (fun s b => receiveByte b s) s) :=
  receiveBytes_keep (fun _ _ _ hs => journalKept_of_view hs rfl) (fun _ hs => journalKept_of_view hs rfl)
    (fun _ _ _ hs => journalKept_routeRequest (journalKept_frameArrives hs)) bytes s h

/-! ## Every command -/

theorem viewOf_endWait {held : Bool} : viewOf (endWait held s) = viewOf s := by simp [viewOf]

theorem journalKept_reach (h : JournalKept s) : JournalKept (s.reach n) := journalKept_of_view h rfl

/-- A command's effect while the main supply is PRESENT. -/
theorem after_whenPowered_journal (h : JournalKept s) (ht : s.hall.main = .present → JournalKept t) :
    After (.next (whenPowered s t)) JournalKept := after_next (journalKept_whenPowered h ht)

/-- The operation in progress completes (R120, R139, R144, R157). -/
theorem journalKept_completeCommit {r : CommitRequest} {a : CommitAnswer} (hlots : LotsKept s) (h : JournalKept s)
    (hop : s.ledger.arbiter.inProgress = some (.commit c r a)) : JournalKept (completeCommit c r a s) :=
  journalKept_complete hlots h hop _ (exec_completionOf hop)

theorem journalKept_completeHost {tag : Byte} {q : LedgerRequest} {line : Option ClockId} {v : Service}
    (hlots : LotsKept s) (h : JournalKept s) (hop : s.ledger.arbiter.inProgress = some (.host tag q line v)) :
    JournalKept (completeHost tag q v s) :=
  journalKept_complete hlots h hop _ (exec_completionOf hop)

theorem journalKept_exec (hlots : LotsKept s) (h : JournalKept s) (i : Instr) : After (exec i s) JournalKept := by
  cases i with
  | identify | lotEnter | lotAmend | lotRemove | lotQuery | trainAnnounce | trainCancel | laneQuery | laneSet
  | clockSet | clockQuery | clockHold | clockResume | clockWithdraw | clockOpen | deskQuery | deskRelease
  | buyerEnter | buyerFlags | buyerLimit | buyerRemove | buyerQuery | tariffSet | saleVoid | paymentPost
  | invoiceClose | dayClose | invoiceQuery | journalRead | journalRelease | boardSet | boardQuery | hallTimeSet
  | hallTimeRead | closeAlarmSet | reportTake | reportEnable | statsRead | statsClear | linkSet | controllerReset
  | unknownRequest => exact after_next (journalKept_hostRequest h)
  | frameOverrun =>
    refine after_whenPowered_journal h fun _ => ?_
    split
    · exact journalKept_of_view (journalKept_frameArrives h) rfl
    · exact h
  | frameBad why =>
    refine after_whenPowered_journal h fun _ => ?_
    split <;> exact journalKept_of_view h rfl
  | receiverIdleTimeout =>
    refine after_whenPowered_journal h fun _ => ?_
    split <;> exact journalKept_of_view h rfl
  | replySent backup => exact after_whenPowered_journal h fun _ => journalKept_replyGone h
  | supervisionExpiry =>
    refine after_whenPowered_journal h fun _ => ?_
    split
    · exact h
    · exact journalKept_loseHost (journalKept_reach h)
  | ledgerOperationComplete =>
    refine after_next ?_
    split
    · exact h
    · next hprog => exact journalKept_completeHost hlots h hprog
    · exact h
    · exact h
  | saleCommitComplete =>
    refine after_next ?_
    split
    · next hprog => exact journalKept_completeCommit hlots h hprog
    · exact h
    · exact h
  | saleVoidComplete =>
    refine after_next ?_
    split
    · next hprog => exact journalKept_completeHost hlots h hprog
    · exact h
    · exact h
    · exact h
  | takeLot c =>
    refine after_whenPowered_journal h fun _ => ?_
    split
    · next l hl => exact journalKept_takeLot h hl
    · exact h
  | previewExpiry c =>
    refine after_whenPowered_journal h fun _ => ?_
    split
    · next e hst he =>
      exact journalKept_testNew (journalKept_of_view (journalKept_reach h) (viewOf_setClock_same rfl))
        (by simpa using hst)
    · exact h
  | stepTimerExpiry c =>
    refine after_whenPowered_journal h fun hmain => ?_
    split
    · next e hst he => exact journalKept_stepClock (journalKept_reach h) hst hmain
    · exact h
  | windowExpiry c =>
    refine after_whenPowered_journal h fun hmain => ?_
    split
    · next e hst he => exact journalKept_enterDeciding (journalKept_reach h) hst hmain
    · exact h
  | pauseExpiry c =>
    refine after_whenPowered_journal h fun _ => ?_
    split
    · next e hst he => exact journalKept_restartClock (journalKept_reach h) hst
    · exact h
  | gateQualifiedChange lane => exact after_whenPowered_journal h fun _ => journalKept_of_view h
  | gateSample lane blocked => exact after_whenPowered_journal h fun _ => journalKept_of_view h viewOf_sampleGate
  | gapExpiry lane =>
    refine after_whenPowered_journal h fun _ => ?_
    split
    · exact h
    · exact journalKept_of_view h
  | tickSent =>
    refine after_whenPowered_journal h fun _ => ?_
    split
    · exact journalKept_of_view h rfl
    · exact h
    · exact h
    · exact h
  | pollSent =>
    refine after_whenPowered_journal h fun _ => ?_
    split
    · exact journalKept_of_view h rfl
    · split <;> exact journalKept_of_view h rfl
    · exact h
    · exact h
  | rowReplyGood reply =>
    refine after_whenPowered_journal h fun hmain => ?_
    split
    · split
      · exact journalKept_of_view (journalKept_takeReply h hmain) viewOf_endWait
      · exact journalKept_of_view h (by simp [viewOf, badReply])
    · exact h
    · exact h
  | rowReplyBad | rowReplyTimeout =>
    refine after_whenPowered_journal h fun _ => ?_
    split
    · exact journalKept_of_view h (by simp [viewOf, badReply])
    · exact h
    · exact h
  | deskBusLineIdle =>
    refine after_whenPowered_journal h fun _ => ?_
    split
    · exact journalKept_of_view h
    · exact h
  | refreshWindow b => exact after_whenPowered_journal h fun _ => journalKept_of_view h (by simp [viewOf, nextWindow])
  | boardTransmitEnd b =>
    refine after_whenPowered_journal h fun _ => ?_
    split
    · exact journalKept_of_view h rfl
    · exact h
    · exact h
  | boardAnswerGood b number =>
    refine after_whenPowered_journal h fun _ => ?_
    split
    · split
      · exact journalKept_goodAnswer h
      · exact journalKept_of_view h
    · exact journalKept_of_view h
    · exact journalKept_of_view h
  | boardAnswerBad b => exact after_whenPowered_journal h fun _ => journalKept_of_view h
  | boardAnswerTimeout b =>
    refine after_whenPowered_journal h fun _ => ?_
    split
    · exact journalKept_missBoard (journalKept_reach h)
    · exact h
    · exact h
  | calendarAdvance => exact after_next (journalKept_advanceCalendar (journalKept_of_view h rfl))
  | keyQualifiedChange position =>
    refine after_whenPowered_journal h fun _ => ?_
    split
    · exact h
    · exact journalKept_changeKey h
  | keySample saleClosed setupClosed => exact after_whenPowered_journal h fun _ => journalKept_sampleKey h
  | mainSupplyFail => exact after_whenPowered_journal h fun _ => journalKept_failMain h
  | mainSupplyAboveThreshold =>
    refine after_next ?_
    split <;> exact journalKept_of_view h rfl
  | mainSupplyBelowThreshold =>
    refine after_next ?_
    split
    · exact journalKept_of_view h rfl
    · exact journalKept_failMain h
  | mainSupplyReturn backup =>
    refine after_next ?_
    split
    · exact journalKept_startBySupply (journalKept_reach h)
    · exact h
    · exact h
  | powerOn backup => exact after_next (journalKept_startBySupply h)
  | backupChange reading =>
    refine after_next ?_
    split
    · exact h
    · exact journalKept_changeBackup h
  | startByteReceived bytes => exact after_whenPowered_journal h fun _ => journalKept_receiveBytes h

theorem journalKept_idle (h : JournalKept s) : JournalKept (idle s) := by
  simp only [idle]
  split
  · simp only [goOn]
    split <;> exact journalKept_of_view h rfl
  · exact journalKept_of_view h rfl

/-- Settles O10: a line is written where a reservation or a free place has been kept for it, a reservation is granted
only with a place free, and the lines released leave no fewer. -/
theorem journalKeptByStep : Obligations.JournalKeptByStep := by
  unfold Obligations.JournalKeptByStep
  intro s t hlots h hstep
  unfold step at hstep
  split at hstep
  · cases hstep
    exact journalKept_idle h
  · refine journalKept_exec ?_ ?_ _ t hstep
    · exact lotsKept_elsewhere hlots
    · exact journalKept_of_view h rfl

end Sys2Proof.Machine
end

section
/-! The completion of a SALE-VOID (R156, R157): its line and what it gives back, and the two refusals that its checks,
made once more, may bring. -/

set_option Elab.async false

namespace Sys2Proof.Machine

open Sys2Proof.Safety

variable {s : State} {n : Nat} {l : JournalLine} {line : Option ClockId} {tag : Byte}

/-- The VOID line of the line `l` (R156). -/
def voidLineOf (s : State) (l : JournalLine) : JournalLine :=
  { l with
    kind := .void, voidedSequence := some l.sequence, voided := false,
    sequence := s.ledger.journal.lastWritten + 1, stamp := s.hall.calendar, stampValid := s.hall.timeSet }

theorem voidedLedger_lines : (voidedLedger l s).journal.lines =
    modKey JournalLine.sequence l.sequence (fun x => { x with voided := true })
      (s.ledger.journal.lines ++ [voidLineOf s l]) := rfl

theorem findKey_append {α : Type} {key : α → Nat} {x : α} {xs : List α} (h : findKey key n xs = some x)
    (ys : List α) : findKey key n (xs ++ ys) = some x := by
  rw [findKey] at h
  rw [findKey, List.find?_append, h]
  rfl

/-- The line voided bears the mark (R157). -/
theorem findKey_voidedLedger_lines (h : s.line n = some l) :
    findKey JournalLine.sequence n (voidedLedger l s).journal.lines = some { l with voided := true } := by
  obtain rfl : l.sequence = n := findKey_key _ h
  rw [voidedLedger_lines, findKey_modKey _ _ (by exact fun _ => rfl), findKey_append h]
  rfl

/-- The VOID line is the last, and bears no mark. -/
theorem getLast_voidedLedger_lines (h : l.sequence ≤ s.ledger.journal.lastWritten) :
    (voidedLedger l s).journal.lines.getLast? = some (voidLineOf s l) := by
  have unmarked : ¬ (voidLineOf s l).sequence = l.sequence := (Nat.lt_succ_of_le h).ne'
  rw [voidedLedger_lines, modKey, List.map_append, List.map_singleton, if_neg unmarked, List.getLast?_concat]

/-- The debit is given back (R157). -/
theorem findKey_voidedLedger_buyers (h : l.buyer = some n) : findKey Buyer.number n (voidedLedger l s).buyers =
    (s.buyer n).map fun b => { b with committed := b.committed - l.debit } := by
  simp only [voidedLedger, h, Option.getD_some]
  exact findKey_modKey _ _ (by exact fun _ => rfl) _ _

/-- The invoice's sums fall by the line's figures, and its VOID line is one line more (R157). -/
theorem findKey_voidedLedger_invoices (h : l.invoice = some n) :
    findKey Invoice.number n (voidedLedger l s).invoices = (s.invoice n).map fun i => { i with
      goods := i.goods - l.amount, levies := i.levies - l.levy, debits := i.debits - l.debit,
      lineCount := i.lineCount + 1, lastLine := s.ledger.journal.lastWritten + 1 } := by
  simp only [voidedLedger, h, Option.getD_some]
  exact findKey_modKey _ _ (by exact fun _ => rfl) _ _

/-- What a void changes: lots and ledger, and its board's snapshot mark. -/
theorem writeVoid_eq_records (l : JournalLine) (s : State) : ∃ x, writeVoid l s = markChanged l.clock { s with
    lots := modKey Lot.number l.lot (voidedLot l) s.lots, ledger := { voidedLedger l s with lastSale := x } } := by
  obtain ⟨x, hx⟩ := withoutSale_eq l
    { s with lots := modKey Lot.number l.lot (voidedLot l) s.lots, ledger := voidedLedger l s }
  exact ⟨x, by rw [writeVoid_eq, hx]⟩

section
variable (hmain : s.hall.main = .present) (hwaits : NothingWaits s) (hreset : s.hlp.resetting = none)
  (hop : s.ledger.arbiter.inProgress = some (.host tag (.saleVoid n) line .go))
include hmain hwaits hreset hop

/-- The void is carried out on the records with nothing in progress, and replied to. -/
theorem exec_saleVoidComplete_replied {t : State} {status : Status} {body : ReplyBody}
    (ha : applyVoid n (free s) = ⟨t, status, body⟩) (harbiter : t.ledger.arbiter = (free s).ledger.arbiter)
    (hhlp : t.hlp = s.hlp) : exec .saleVoidComplete s = .next (replied tag 152 status body t) :=
  (exec_saleVoidComplete hop).trans
    (congrArg _ (completeHost_replied hmain hwaits hreset ha harbiter hhlp (by simp)))

theorem exec_saleVoidComplete_voided (hl : s.line n = some l) (hg : grantable s = true) :
    ∃ body, exec .saleVoidComplete s = .next (replied tag 152 .ok body (writeVoid l (free s))) := by
  have line : (free s).line n = some l := hl
  have room : grantable (free s) = true := hg
  have link : (writeVoid l (free s)).hlp = s.hlp := by
    obtain ⟨clocks, lots, ledger, boards, e, -⟩ := recordsOnly_writeVoid (s := free s) l
    rw [e]
    rfl
  have applied : ∃ body, applyVoid n (free s) = ⟨writeVoid l (free s), .ok, body⟩ := by
    simp only [applyVoid, line, room, Bool.not_true, Bool.false_eq_true, if_false]
    exact ⟨_, rfl⟩
  obtain ⟨body, ha⟩ := applied
  exact ⟨body, exec_saleVoidComplete_replied hmain hwaits hreset hop ha writeVoid_arbiter link⟩

end

/-- Settles O45: what is given back is read off the records of the void (`voidedLedger`, `voidedLot`), its two lines by
`findKey_voidedLedger_lines` and `getLast_voidedLedger_lines`. -/
theorem saleVoidGivesBack : Obligations.SaleVoidGivesBack := by
  unfold Obligations.SaleVoidGivesBack
  intro tag n line s hmain hwaits hreset hop
  refine ⟨fun l x b i bn inv hl hg hbn hinv hx hb hi => ?voided, fun hl => ?gone, fun l hl hg => ?full⟩
  case voided =>
    obtain ⟨body, complete⟩ := exec_saleVoidComplete_voided hmain hwaits hreset hop hl hg
    obtain ⟨last, e⟩ := writeVoid_eq_records l (free s)
    have number : l.sequence = n := findKey_key _ hl
    rw [e] at complete
    refine ⟨_, complete, findKey_voidedLedger_lines (s := s) hl, rfl, ?lot, ?buyer, ?invoice, fun hn => ?last, ?mark,
      rfl, rfl, rfl, rfl⟩
    case lot =>
      exact (findKey_modKey Lot.number (voidedLot l) (fun _ => rfl) _ _).trans (congrArg (Option.map _) hx)
    case buyer => exact (findKey_voidedLedger_buyers hbn).trans (congrArg (Option.map _) hb)
    case invoice => exact (findKey_voidedLedger_invoices hinv).trans (congrArg (Option.map _) hi)
    case last =>
      rw [← number] at hn ⊢
      exact getLast_voidedLedger_lines (s := s) hn
    case mark => simp [markChanged, replied, State.board]
  case gone =>
    refine exec_saleVoidComplete_replied hmain hwaits hreset hop ?_ rfl rfl
    have line : (free s).line n = none := hl
    simp only [applyVoid, line]
    rfl
  case full =>
    refine exec_saleVoidComplete_replied hmain hwaits hreset hop ?_ rfl rfl
    have line : (free s).line n = some l := hl
    have room : grantable (free s) = false := hg
    simp only [applyVoid, line, room, Bool.not_false, if_true]
    rfl

end Sys2Proof.Machine
end

section
/-! JOURNAL-READ and JOURNAL-RELEASE (R154, R155), and the clock that waits for a reservation as places come free (R64
to R66, R147). -/

set_option Elab.async false

namespace Sys2Proof.Machine

open Sys2Proof.Safety

variable {s t : State} {c d : ClockId} {n count : Nat} {tag : Byte}

/-! ## The answers (R154, R155) -/

theorem doJournalRead_badField {pos : Nat} (h : journalReadFault n count = some pos) :
    doJournalRead n count s = ⟨s, .badField, .journalField pos (journalFigures s)⟩ := by
  simp only [doJournalRead, h]
  rfl

theorem doJournalRead_notFound (h : journalReadFault n count = none) (hn : n ≤ s.ledger.journal.lastReleased) :
    doJournalRead n count s = ⟨s, .notFound, .journal [] (journalFigures s)⟩ := by
  simp only [doJournalRead, h, if_pos hn]
  rfl

theorem doJournalRead_found (h : journalReadFault n count = none) (hn : s.ledger.journal.lastReleased < n) :
    doJournalRead n count s = ⟨s, .ok,
      .journal ((s.ledger.journal.lines.filter fun l => n ≤ l.sequence).take count) (journalFigures s)⟩ := by
  simp only [doJournalRead, h, if_neg (Nat.not_le.2 hn)]
  rfl

/-- The journal with its lines up to `n` released (R155). -/
def releasedTo (n : Nat) (s : State) : State :=
  s.setJournal { s.ledger.journal with
    lines := s.ledger.journal.lines.filter fun l => n < l.sequence, lastReleased := n }

theorem doJournalRelease_badField (h : n = 0 ∨ s.ledger.journal.lastWritten < n) :
    doJournalRelease n s = ⟨s, .badField, .field 1⟩ := if_pos h

theorem doJournalRelease_nothing (h : ¬ (n = 0 ∨ s.ledger.journal.lastWritten < n))
    (hn : n ≤ s.ledger.journal.lastReleased) :
    doJournalRelease n s = ⟨s, .ok, .linesFreed 0 s.ledger.journal.lastReleased (freeSpace s)⟩ :=
  (if_neg h).trans (if_pos hn)

theorem doJournalRelease_frees (h : n ≤ s.ledger.journal.lastWritten) (hn : s.ledger.journal.lastReleased < n) :
    doJournalRelease n s = ⟨eachClock tellSpace (releasedTo n s), .ok,
      .linesFreed (n - s.ledger.journal.lastReleased) n (freeSpace (releasedTo n s))⟩ :=
  (if_neg (by omega)).trans (if_neg (Nat.not_le.2 hn))

/-! ## What a clock that is told of the rise leaves (R64) -/

theorem clock_ne_of_clocks {x : Clock} (h : t.clocks = s.clocks.set c x) (hd : d ≠ c) : t.clock d = s.clock d :=
  (congrArg (fun v => Vector.get v d) h).trans (vector_get_set_ne _ _ _ _ hd)

section
variable (hd : d ≠ c)
include hd

theorem runClock_grant_clock_ne : (runClock c (grant c s)).clock d = s.clock d :=
  (clock_ne_of_clocks runClock_clocks hd).trans (clock_ne_of_clocks grant_clocks hd)

theorem testNew_clock_ne : (testNew c s).clock d = s.clock d := by
  unfold testNew
  split
  · split
    · simp
    · split
      · exact runClock_grant_clock_ne hd
      · exact State.setClock_clock_ne _ _ _ _ hd
  · rfl

theorem testRestart_clock_ne : (testRestart c s).clock d = s.clock d := by
  unfold testRestart
  split
  · exact (clock_ne_of_clocks (enterHeld_clocks _) hd).trans (leaveLoaded_clock_ne hd)
  · split
    · exact clock_ne_of_clocks runClock_clocks hd
    · rfl

theorem askRestart_clock_ne : (askRestart c s).clock d = s.clock d := by
  unfold askRestart
  split
  · simp
  · split
    · exact (testRestart_clock_ne hd).trans (clock_ne_of_clocks grant_clocks hd)
    · exact State.setClock_clock_ne _ _ _ _ hd

theorem tellSpace_clock_ne : (tellSpace c s).clock d = s.clock d := by
  unfold tellSpace
  split
  · exact testNew_clock_ne hd
  · split
    · exact testRestart_clock_ne hd
    · exact askRestart_clock_ne hd
  · rfl

end

theorem sideOf_tellSpace : sideOf (tellSpace c s) = sideOf s := by
  unfold tellSpace
  split
  · simp
  · split <;> simp
  · rfl

/-- A clock that is not LOADED passes the rise over (R63). -/
theorem tellSpace_notLoaded (h : (s.clock c).state ≠ .loaded .new ∧ (s.clock c).state ≠ .loaded .restart) :
    tellSpace c s = s := by
  unfold tellSpace
  split
  · next hst => exact absurd hst h.1
  · next hst => exact absurd hst h.2
  · rfl

/-- What is done for one clock alone. -/
theorem eachClock_only {f : ClockId → State → State} (before : ∀ d, d ≠ c → f d s = s)
    (after : ∀ d, d ≠ c → f d (f c s) = f c s) : eachClock f s = f c s := by
  unfold eachClock
  match c with
  | 0 => rw [after 1 (by decide), after 2 (by decide), after 3 (by decide)]
  | 1 => rw [before 0 (by decide), after 2 (by decide), after 3 (by decide)]
  | 2 => rw [before 0 (by decide), before 1 (by decide), after 3 (by decide)]
  | 3 => rw [before 0 (by decide), before 1 (by decide), before 2 (by decide)]

theorem eachClock_tellSpace_idle
    (h : ∀ d, (s.clock d).state ≠ .loaded .new ∧ (s.clock d).state ≠ .loaded .restart) :
    eachClock tellSpace s = s := by
  simp only [eachClock, tellSpace_notLoaded (h _)]

theorem eachClock_tellSpace_only
    (h : ∀ d, d ≠ c → (s.clock d).state ≠ .loaded .new ∧ (s.clock d).state ≠ .loaded .restart) :
    eachClock tellSpace s = tellSpace c s :=
  eachClock_only (fun d hd => tellSpace_notLoaded (h d hd)) fun d hd =>
    tellSpace_notLoaded (by rw [tellSpace_clock_ne hd]; exact h d hd)

/-! ## The clock that waits (R64 to R66) -/

theorem hallReady_iff : hallReady s c = true ↔
    s.hall.key = .sale ∧ (s.board c).online = true ∧ s.hall.timeSet = true := by
  simp [hallReady, and_assoc]

theorem hallReady_eq_false (h : s.hall.key ≠ .sale ∨ (s.board c).online = false ∨ s.hall.timeSet = false) :
    hallReady s c = false := by
  refine Bool.eq_false_iff.2 fun hready => ?_
  obtain ⟨hkey, honline, htime⟩ := hallReady_iff.1 hready
  simp [hkey, honline, htime] at h

/-- The clock that is granted its reservation and runs at step 0 (R65, R66). -/
theorem runClock_grant_clock_self : (runClock c (grant c s)).clock c = { s.clock c with
    state := .running, k := 0, reservation := true, asked := false,
    stepTimer := .running (s.timebase + periodOf (s.clock c).params 0) } := by
  rw [State.clock, runClock_clocks, vector_get_set_self, grant_clock_self]
  rfl

theorem tellSpace_new_waits (hst : (s.clock c).state = .loaded .new)
    (h : (s.clock c).previewEnds ≠ none ∨ s.hall.key ≠ .sale ∨ (s.board c).online = false ∨ s.hall.timeSet = false) :
    tellSpace c s = s := by
  have waits : newReady s c = false := by
    rcases h with h | h
    · simp [newReady, h]
    · simp [newReady, hallReady_eq_false h]
  simp only [tellSpace, hst]
  exact testNew_waits waits

section
variable (hday : dayCloseRuns s = false) (hg : grantable s = true)
include hday hg

theorem tellSpace_new_runs (hst : (s.clock c).state = .loaded .new) (hp : (s.clock c).previewEnds = none)
    (hready : hallReady s c = true) (hlink : s.hlp.link = .linked) : tellSpace c s = runClock c (grant c s) := by
  have ready : newReady s c = true := by simp [newReady, hp, hready, hlink]
  simp only [tellSpace, hst]
  exact testNew_runs ready hday hg

variable (hst : (s.clock c).state = .loaded .restart) (hr : (s.clock c).reservation = false)
  (hh : (s.clock c).holdPending = none)
include hst hr hh

theorem tellSpace_restart_runs (hready : hallReady s c = true) : tellSpace c s = runClock c (grant c s) := by
  simp only [tellSpace, hst, hr]
  exact askRestart_runs hday hg hh hready

theorem tellSpace_restart_waits (hready : hallReady s c = false) : tellSpace c s = grant c s := by
  have waits : hallReady (grant c s) c = false := by simpa [hallReady] using hready
  simp only [tellSpace, hst, hr]
  simp [askRestart, hday, hg, testRestart, hh, waits]

end

/-- Settles O48: the answers are read off the requests; a release tells each clock of the rise, which reaches the one
that is LOADED. -/
theorem journalReadAndReleased : Obligations.JournalReadAndReleased := by
  unfold Obligations.JournalReadAndReleased
  intro tag n count s hs
  have read : ∀ {u status body}, doJournalRead n count (framed s) = ⟨u, status, body⟩ →
      exec (.journalRead tag n count) s = .next (replied tag 157 status body u) :=
    fun ha => exec_of_answer hs tag (.journalRead n count) ha rfl
  have release : ∀ {u status body}, doJournalRelease n (framed s) = ⟨u, status, body⟩ →
      exec (.journalRelease tag n) s = .next (replied tag 158 status body u) :=
    fun ha => exec_of_answer hs tag (.journalRelease n) ha rfl
  refine ⟨fun hf hn => read (doJournalRead_found hf hn), fun hf hn => read (doJournalRead_notFound hf hn),
    fun pos hf => read (doJournalRead_badField hf), fun h => release (doJournalRelease_badField h),
    fun h0 hw hn => release (doJournalRelease_nothing (not_or.2 ⟨h0, Nat.not_lt.2 hw⟩) hn),
    fun hw hn hidle => ?idle, fun c ran hw hn _ hr hidle hday hroom hseq hran => ?one⟩
  case idle =>
    have frees := doJournalRelease_frees (s := framed s) hw hn
    rw [eachClock_tellSpace_idle (s := releasedTo n (framed s)) hidle] at frees
    exact release frees
  case one =>
    have frees := doJournalRelease_frees (s := framed s) hw hn
    rw [eachClock_tellSpace_only (s := releasedTo n (framed s)) (c := c) hidle] at frees
    obtain ⟨-, hlink, -⟩ := hs
    have hg : grantable (releasedTo n (framed s)) = true := grantable_iff.2 ⟨hroom, hseq⟩
    have records := congrArg Prod.fst (recordsOf_tellSpace (c := c) (s := releasedTo n (framed s)))
    have replies := congrArg Prod.fst (sideOf_tellSpace (c := c) (s := releasedTo n (framed s)))
    subst hran
    refine ⟨_, release frees, congrArg Tables.lastReleased records, congrArg Tables.lines records, ?replies,
      fun d hd => tellSpace_clock_ne hd, tellSpace_lots .., tellSpace_lanes .., congrArg Tables.buyers records,
      tellSpace_hall .., fun hst hp hkey honline htime => ?newRuns, fun hst hlack => ?newWaits,
      fun hst hh => ⟨fun hkey honline htime => ?restartRuns, fun hlack => ?restartWaits⟩⟩
    case replies =>
      have queue : (tellSpace c (releasedTo n (framed s))).hlp.replies = s.hlp.replies := replies
      rw [replied_replies, queue]
      exact List.getElem?_concat_length
    case newRuns =>
      have runs := tellSpace_new_runs (s := releasedTo n (framed s)) hday hg hst hp
        (hallReady_iff.2 ⟨hkey, honline, htime⟩) hlink
      rw [replied_clock, runs, runClock_grant_clock_self]
      rfl
    case newWaits =>
      have waits := tellSpace_new_waits (s := releasedTo n (framed s)) hst hlack
      rw [replied_clock, waits]
      rfl
    case restartRuns =>
      have runs := tellSpace_restart_runs (s := releasedTo n (framed s)) hday hg hst hr hh
        (hallReady_iff.2 ⟨hkey, honline, htime⟩)
      rw [replied_clock, runs, runClock_grant_clock_self]
      rfl
    case restartWaits =>
      have waits := tellSpace_restart_waits (s := releasedTo n (framed s)) hday hg hst hr hh (hallReady_eq_false hlack)
      rw [replied_clock, waits, grant_clock_self]
      rfl

end Sys2Proof.Machine
end

section
/-! The reservation requests that a DAY-CLOSE defers (R152): a clock whose preview or pause ends waits as a deferred one,
and at the completion the deferred requests reach the journal in the order made. -/

set_option Elab.async false

namespace Sys2Proof.Machine

open Sys2Proof.Safety

variable {s t : State} {c d : ClockId} {e p : Nat} {l : Lot} {tag : Byte} {line : Option ClockId} {v : Service}

/-! ## A request deferred (R65, R66, R70, R152) -/

theorem defer_eq (c : ClockId) (s : State) : defer c s = s.setJournal { s.ledger.journal with
    deferred := if c ∈ s.ledger.journal.deferred then s.ledger.journal.deferred
      else s.ledger.journal.deferred ++ [c] } := by
  unfold defer
  by_cases hc : c ∈ s.ledger.journal.deferred
  · rw [if_pos (List.contains_iff_mem.2 hc), if_pos hc]
    rfl
  · rw [if_neg (mt List.contains_iff_mem.1 hc), if_neg hc]

theorem dayCloseRuns_of (h : s.ledger.arbiter.inProgress = some (.host tag .dayClose line v)) :
    dayCloseRuns s = true := by simp [dayCloseRuns, h]

theorem testNew_defers (hready : newReady s c = true) (hday : dayCloseRuns s = true) : testNew c s = defer c s := by
  simp [testNew, hready, hday]

theorem askRestart_defers (hday : dayCloseRuns s = true) : askRestart c s = defer c s := by simp [askRestart, hday]

/-! ## The completion (R152) -/

/-- `s` with the DAY-CLOSE done and none deferred any more. -/
def dayClosed (replies : List Reply) (buyers : List Buyer) (invoices : List Invoice) (s : State) : State :=
  { s with
    hlp := { s.hlp with replies := replies }
    ledger := { s.ledger with
      buyers := buyers, invoices := invoices, journal := { s.ledger.journal with deferred := [] }
      arbiter := { s.ledger.arbiter with inProgress := none } } }

/-- A DAY-CLOSE changes accounts and invoices alone, and nothing where it was refused. -/
theorem requestChanges_dayClose (v : Service) (s : State) : ∃ buyers invoices,
    (requestChanges .dayClose v s).state = { s with ledger := { s.ledger with
      buyers := buyers, invoices := invoices } } := by
  cases v with
  | refuse status body => exact ⟨_, _, rfl⟩
  | go => exact closeAll_frame (openInvoices s) s

theorem releaseAllDeferred_two (h : s.ledger.journal.deferred = [c, d]) : releaseAllDeferred s =
    releaseDeferred d (releaseDeferred c (s.setJournal { s.ledger.journal with deferred := [] })) := by
  rw [releaseAllDeferred, h]
  rfl

/-- A deferred request that is released leaves the arbiter and a reset under way. -/
theorem releaseDeferred_frame (c : ClockId) (s : State) :
    (releaseDeferred c s).ledger.arbiter = s.ledger.arbiter ∧
      (releaseDeferred c s).hlp.resetting = s.hlp.resetting :=
  ⟨congrArg Prod.snd recordsOf_releaseDeferred, congrArg (fun x => x.2.1) sideOf_releaseDeferred⟩

/-- With two requests deferred the completion releases the one and then the other. -/
theorem exec_dayClose_releases (hmain : s.hall.main = .present) (hwaits : NothingWaits s)
    (hreset : s.hlp.resetting = none) (hop : s.ledger.arbiter.inProgress = some (.host tag .dayClose line v))
    (hdeferred : s.ledger.journal.deferred = [c, d]) : ∃ replies buyers invoices,
      exec .ledgerOperationComplete s =
        .next (releaseDeferred d (releaseDeferred c (dayClosed replies buyers invoices s))) := by
  obtain ⟨buyers, invoices, changed⟩ := requestChanges_dayClose v (free s)
  let a := requestChanges .dayClose v (free s)
  refine ⟨s.hlp.replies ++ [ledgerReply tag .dayClose a.status a.body], buyers, invoices, ?_⟩
  have event : answeredBy (.host tag .dayClose line v) s = releaseDeferred d (releaseDeferred c
      (dayClosed (s.hlp.replies ++ [ledgerReply tag .dayClose a.status a.body]) buyers invoices s)) := by
    show releaseAllDeferred (placeReply (ledgerReply tag .dayClose a.status a.body) a.state) = _
    rw [show a.state = _ from changed]
    exact releaseAllDeferred_two hdeferred
  refine (exec_completionOf_present hop hmain).trans (congrArg _ ?_)
  rw [choiceNow_nothing (s := free s) hwaits, event]
  obtain ⟨arbiterFirst, resetFirst⟩ := releaseDeferred_frame c
    (dayClosed (s.hlp.replies ++ [ledgerReply tag .dayClose a.status a.body]) buyers invoices s)
  refine afterCompletion_nothing ?_ ?_
  · rw [NothingWaits, (releaseDeferred_frame d _).1, arbiterFirst]
    exact hwaits
  · rw [(releaseDeferred_frame d _).2, resetFirst]
    exact hreset

/-! ## A deferred request reaches the journal (R64 to R66) -/

/-- A LOADED clock that waits for its reservation alone: it has asked, and every other start condition holds. -/
def AwaitsGrant (s : State) (c : ClockId) : Prop :=
  hallReady s c = true ∧ s.hlp.link = .linked ∧ (s.clock c).reservation = false ∧
    (((s.clock c).state = .loaded .new ∧ (s.clock c).previewEnds = none) ∨
      ((s.clock c).state = .loaded .restart ∧ (s.clock c).holdPending = none))

section
variable (h : AwaitsGrant s c) (hday : dayCloseRuns s = false)
include h hday

/-- With a place free the clock runs. -/
theorem releaseDeferred_runs (hg : grantable s = true) : releaseDeferred c s = runClock c (grant c s) := by
  obtain ⟨hready, hlink, hr, ⟨hst, hp⟩ | ⟨hst, hh⟩⟩ := h
  · have ready : newReady s c = true := by simp [newReady, hp, hready, hlink]
    simp only [releaseDeferred, hst]
    exact testNew_runs ready hday hg
  · simp only [releaseDeferred, hst, hr]
    exact askRestart_runs hday hg hh hready

/-- With none free it waits on, its reservation asked. -/
theorem releaseDeferred_asks (hg : grantable s = false) : releaseDeferred c s = askLater c s := by
  obtain ⟨hready, hlink, hr, ⟨hst, hp⟩ | ⟨hst, -⟩⟩ := h
  · have ready : newReady s c = true := by simp [newReady, hp, hready, hlink]
    simp only [releaseDeferred, hst]
    exact testNew_asks ready hday hg
  · simp only [releaseDeferred, hst, hr]
    exact askRestart_asks hday hg

end

/-! ## What a clock that runs leaves of the journal and of the others -/

theorem runClock_grant_deferred : (runClock c (grant c s)).ledger.journal.deferred =
    s.ledger.journal.deferred.filter (· ≠ c) := by simp [runClock, leaveLoaded]

theorem markChanged_online : ((markChanged c s).board d).online = (s.board d).online := by
  by_cases hd : d = c
  · rw [hd, markChanged, State.setBoard_board_self]
  · rw [markChanged, State.setBoard_board_ne _ _ _ _ hd]

theorem runClock_online : ((runClock c s).board d).online = (s.board d).online := by
  rw [runClock, markChanged_online]
  rfl

theorem runClock_grant_clocks : (runClock c (grant c s)).clocks = s.clocks.set c { s.clock c with
    state := .running, k := 0, reservation := true, asked := false,
    stepTimer := .running (s.timebase + periodOf (s.clock c).params 0) } := by
  rw [clocks_eq_set fun d hd => runClock_grant_clock_ne hd, runClock_grant_clock_self]

theorem reservationsHeld_runClock_grant (h : (s.clock c).reservation = false) :
    reservationsHeld (runClock c (grant c s)) = reservationsHeld s + 1 :=
  (reservationsHeld_release (by rw [runClock_grant_clock_self]) h fun d hd => (runClock_grant_clock_ne hd).symm).symm

/-- A second clock's wait is as it was, with one place fewer. -/
theorem awaitsGrant_runClock_grant (hd : d ≠ c) (h : AwaitsGrant s d) : AwaitsGrant (runClock c (grant c s)) d := by
  obtain ⟨hready, hlink, hclock⟩ := h
  refine ⟨?_, by simpa using hlink, by rwa [runClock_grant_clock_ne hd]⟩
  simpa [hallReady, runClock_online] using hready

theorem grantable_runClock_grant (h : (s.clock c).reservation = false) :
    grantable (runClock c (grant c s)) = true ↔
      s.ledger.journal.lastWritten - s.ledger.journal.lastReleased + reservationsHeld s + 1 < 8192 ∧
        s.ledger.journal.lastWritten + reservationsHeld s + 1 < 4294967295 := by
  have tables := congrArg Prod.fst (recordsOf_runClock (c := c) (s := grant c s))
  have written : (runClock c (grant c s)).ledger.journal.lastWritten = s.ledger.journal.lastWritten :=
    congrArg Tables.lastWritten tables
  have released : (runClock c (grant c s)).ledger.journal.lastReleased = s.ledger.journal.lastReleased :=
    congrArg Tables.lastReleased tables
  rw [grantable_iff, reservationsHeld_runClock_grant h, written, released]
  rfl

theorem dayCloseRuns_runClock_grant : dayCloseRuns (runClock c (grant c s)) = dayCloseRuns s := by
  have arbiter := congrArg Prod.snd (recordsOf_runClock (c := c) (s := grant c s))
  rw [dayCloseRuns, show (runClock c (grant c s)).ledger.arbiter = s.ledger.arbiter from arbiter]
  rfl

/-- Settles O42: an expiry under the DAY-CLOSE defers its request (`defer_eq`); at the completion the first clock is
granted and runs, and the second finds one place fewer. -/
theorem dayCloseDefers : Obligations.DayCloseDefers := by
  unfold Obligations.DayCloseDefers
  refine ⟨fun c e tag line v s hmain hop =>
      ⟨fun hst he hkey honline htime hlink => ?new, fun l p hst he hl hp => ?restart⟩,
    fun c d tag line v s hmain hwaits hreset hop hcd hdeferred hkey htime hlink hclocks hseq => ?complete⟩
  case new =>
    have ready := newReady_previewed (e := e).2 ⟨hkey, honline, htime, hlink⟩
    have runs : dayCloseRuns (previewed c e s) = true := dayCloseRuns_of hop
    rw [exec_previewExpiry hmain hst he, testNew_defers ready runs, defer_eq]
    rfl
  case restart =>
    have runs : dayCloseRuns (restarted c l p (s.reach e)) = true :=
      dayCloseRuns_of (line := line) (v := v) (tag := tag) (by rw [restarted_ledger]; exact hop)
    refine ⟨_, (exec_pauseExpiry hmain hst he hl hp).trans (congrArg _ ((askRestart_defers runs).trans (defer_eq ..))),
      ?_⟩
    simp [restartForm, restartPrice]
  case complete =>
    obtain ⟨replies, buyers, invoices, complete⟩ := exec_dayClose_releases hmain hwaits hreset hop hdeferred
    have idle : dayCloseRuns (dayClosed replies buyers invoices s) = false := rfl
    have awaits : ∀ x, x = c ∨ x = d → AwaitsGrant (dayClosed replies buyers invoices s) x := fun x hx => by
      obtain ⟨honline, hr, hst⟩ := hclocks x hx
      exact ⟨hallReady_iff.2 ⟨hkey, honline, htime⟩, hlink, hr, hst⟩
    have deferred : (dayClosed replies buyers invoices s).ledger.journal.deferred = [] := rfl
    have firstRoom : grantable (dayClosed replies buyers invoices s) = true ↔
        s.ledger.journal.lastWritten - s.ledger.journal.lastReleased + reservationsHeld s < 8192 ∧
          s.ledger.journal.lastWritten + reservationsHeld s < 4294967295 := grantable_iff
    have nextRoom : grantable (runClock c (grant c (dayClosed replies buyers invoices s))) = true ↔
        s.ledger.journal.lastWritten - s.ledger.journal.lastReleased + reservationsHeld s + 1 < 8192 ∧
          s.ledger.journal.lastWritten + reservationsHeld s + 1 < 4294967295 :=
      grantable_runClock_grant (hclocks c (.inl rfl)).2.1
    have clock : ∀ x, (dayClosed replies buyers invoices s).clock x = s.clock x := fun _ => rfl
    have clocks : (dayClosed replies buyers invoices s).clocks = s.clocks := rfl
    have time : (dayClosed replies buyers invoices s).timebase = s.timebase := rfl
    generalize dayClosed replies buyers invoices s = u at *
    have runs := releaseDeferred_runs (awaits c (.inl rfl)) idle
    have awaitsNext := awaitsGrant_runClock_grant hcd.symm (awaits d (.inr rfl))
    have idleNext := (dayCloseRuns_runClock_grant (c := c)).trans idle
    refine ⟨fun hroom => ?one, fun hroom => ?two⟩
    case one =>
      have full : grantable (runClock c (grant c u)) = false := Bool.eq_false_iff.2 fun hg => by
        have := (nextRoom.1 hg).1
        omega
      rw [runs (firstRoom.2 (by omega)), releaseDeferred_asks awaitsNext idleNext full] at complete
      refine ⟨_, complete, ?_, ?_⟩
      · rw [askLater_ledger, runClock_grant_deferred, deferred]
        rfl
      · rw [askLater, State.setClock_clocks, runClock_grant_clocks, runClock_grant_clock_ne hcd.symm, clock, clock,
          clocks, time]
        rfl
    case two =>
      rw [runs (firstRoom.2 (by omega)), releaseDeferred_runs awaitsNext idleNext (nextRoom.2 (by omega))] at complete
      refine ⟨_, complete, ?_, ?_⟩
      · rw [runClock_grant_deferred, runClock_grant_deferred, deferred]
        rfl
      · rintro x (rfl | rfl)
        · rw [runClock_grant_clock_ne hcd, runClock_grant_clock_self, clock, time]
        · rw [runClock_grant_clock_self, runClock_grant_clock_ne hcd.symm, runClock_timebase, grant_timebase, clock,
            time]

end Sys2Proof.Machine
end

section
/-! The Board Driver by itself (9.2 to 9.4): refresh windows and BOARD-SET, the end of a frame, and the answers that reach
no clock. -/

namespace Sys2Proof.Machine

open Sys2Proof.Safety

variable {s t : State} {c d : ClockId} {f : BoardFrame} {b : Board} {e n period : Nat}

/-! ## The frame built from the snapshot (R169, R170) -/

/-- A picture shows clocks, lots and last sales alone. -/
theorem pictureOf_congr (hclocks : t.clocks = s.clocks) (hlots : t.lots = s.lots) (hledger : t.ledger = s.ledger) :
    pictureOf t c = pictureOf s c := by
  have clock : t.clock = s.clock := by unfold State.clock; rw [hclocks]
  have lot : t.currentLot c = s.currentLot c := currentLot_congr hclocks hlots c
  simp only [pictureOf, shownPrice, shownSale, clock, lot, hledger]

theorem pictureOf_raise (x : ReportBody) : pictureOf (raise x s) c = pictureOf s c :=
  pictureOf_congr (raise_clocks ..) (raise_lots ..) (raise_ledger ..)

/-- A board whose display frame of picture `p` begins to be sent at `now` (R169). -/
def displaying (now : Nat) (p : Picture) (b : Board) : Board :=
  { b with
    frameNumber := (b.frameNumber + 1) % 256, snapshotChanged := false, builtAt := now,
    framesSent := countUp 65535 b.framesSent, activity := .sending (.display ((b.frameNumber + 1) % 256) p) }

theorem sendDisplay_eq : sendDisplay c s = s.setBoard c (displaying s.timebase (pictureOf s c) (s.board c)) := rfl

theorem sendDisplay_setBoard :
    sendDisplay c (s.setBoard c b) = s.setBoard c (displaying s.timebase (pictureOf s c) b) := by
  rw [sendDisplay_eq, State.setBoard_board_self, State.setBoard_setBoard, pictureOf_congr (s := s) rfl rfl rfl]
  rfl

theorem sendProbe_setBoard : sendProbe c (s.setBoard c b) = s.setBoard c { b with
    frameNumber := (b.frameNumber + 1) % 256, activity := .sending (.probe ((b.frameNumber + 1) % 256)) } := by
  simp [sendProbe, nextFrameNumber]

/-! ## Refresh windows (R172, R176) -/

theorem exec_refreshWindow (h : s.hall.main = .present) :
    exec (.refreshWindow c) s = .next (refreshBoard c (nextWindow c s)) :=
  congrArg Host.Outcome.next (whenPowered_present h _)

/-- The board with its refresh timer set for the window after this one (R172). -/
def windowSet (b : Board) : Board := { b with windowAt := b.windowAt + b.period * 1000 }

theorem nextWindow_eq : nextWindow c s = (s.reach (s.board c).windowAt).setBoard c (windowSet (s.board c)) := rfl

/-- Keep-alive time has reached 1,000 ms exactly 1,000,000 µs after the last frame was built (R168, R172). -/
theorem frameDue_iff :
    frameDue s c = true ↔ (s.board c).snapshotChanged = true ∨ (s.board c).builtAt + 1000000 ≤ s.timebase := by
  simp only [frameDue, Bool.or_eq_true, decide_eq_true_iff]
  refine or_congr_right ?_
  simp only [keepAlive, Config.keepAliveTop, Config.ms]
  omega

section
variable (honline : (s.board c).online = true)
include honline

theorem refreshBoard_sends (hdue : frameDue s c = true) (hidle : (s.board c).activity = .idle) :
    refreshBoard c s = sendDisplay c s := by simp [refreshBoard, honline, hdue, hidle]

theorem refreshBoard_pends (hdue : frameDue s c = true) (hbusy : (s.board c).activity ≠ .idle) :
    refreshBoard c s = s.setBoard c { s.board c with updatePending := true } := by
  simp only [refreshBoard, honline, hdue, if_true]
  cases h : (s.board c).activity with
  | idle => exact absurd h hbusy
  | sending f => rfl
  | awaiting f e => rfl

theorem refreshBoard_rests (hdue : frameDue s c = false) : refreshBoard c s = s := by
  simp [refreshBoard, honline, hdue]

end

theorem refreshBoard_probes (hoffline : (s.board c).online = false) (hidle : (s.board c).activity = .idle) :
    refreshBoard c s = sendProbe c s := by simp [refreshBoard, hoffline, hidle]

/-! ## BOARD-SET of one board (R177) -/

theorem boardSetFault_period (hn : clockNumbered n = some c) (h : period < 20 ∨ 200 < period) :
    boardSetFault n period = some 2 := by
  obtain ⟨h1, h4⟩ := clockNumbered_range hn
  simp [boardSetFault, firstFault, faultFrom, inRange_eq_true (lo := 0) (hi := 4) (n := n) (by omega),
    inRange_eq_false h]

theorem boardSetFault_none (hn : clockNumbered n = some c) (h : 20 ≤ period ∧ period ≤ 200) :
    boardSetFault n period = none := by
  obtain ⟨h1, h4⟩ := clockNumbered_range hn
  simp [boardSetFault, firstFault_eq_none_iff, inRange_eq_true h,
    inRange_eq_true (lo := 0) (hi := 4) (n := n) (by omega)]

theorem doBoardSet_badField (hn : clockNumbered n = some c) (h : period < 20 ∨ 200 < period) :
    doBoardSet n period s = ⟨s, .badField, .field 2⟩ := by
  simp [doBoardSet, boardSetFault_period hn h, badField]

theorem doBoardSet_one (hn : clockNumbered n = some c) (h : 20 ≤ period ∧ period ≤ 200) :
    doBoardSet n period s = ⟨s.setBoard c (setPeriod s.timebase period (s.board c)), .ok, .empty⟩ := by
  simp [doBoardSet, boardSetFault_none hn h, hn, accept]

/-! ## The end of a frame and its answers (R174, R175) -/

section
variable (hmain : s.hall.main = .present)
include hmain

theorem exec_boardTransmitEnd (h : (s.board c).activity = .sending f) :
    exec (.boardTransmitEnd c) s = .next (awaitAnswer c f s) := by
  refine (congrArg Host.Outcome.next (whenPowered_present hmain _)).trans ?_
  simp only [h]

theorem exec_boardAnswerBad : exec (.boardAnswerBad c) s = .next (discardAnswer c s) :=
  congrArg Host.Outcome.next (whenPowered_present hmain _)

variable (hwait : (s.board c).activity = .awaiting f e)
include hwait

theorem exec_boardAnswerGood : exec (.boardAnswerGood c f.number) s = .next (goodAnswer c s) := by
  refine (congrArg Host.Outcome.next (whenPowered_present hmain _)).trans ?_
  simp only [hwait, if_true]

theorem exec_boardAnswerGood_ne (h : n ≠ f.number) : exec (.boardAnswerGood c n) s = .next (discardAnswer c s) := by
  refine (congrArg Host.Outcome.next (whenPowered_present hmain _)).trans ?_
  simp only [hwait, if_neg h]

theorem exec_boardAnswerTimeout : exec (.boardAnswerTimeout c) s = .next (missBoard c (s.reach e)) := by
  refine (congrArg Host.Outcome.next (whenPowered_present hmain _)).trans ?_
  simp only [hwait]

end

/-- A good answer of an ONLINE board ends its misses and frees the link (R174). -/
theorem goodAnswer_online (h : (s.board c).online = true) :
    goodAnswer c s = linkFree c (s.setBoard c { s.board c with misses := 0 }) := by simp [goodAnswer, h]

/-- A miss below the third is counted and frees the link (R175). -/
theorem missBoard_below (h : (s.board c).misses < 2) : missBoard c s = linkFree c (s.setBoard c { s.board c with
    missCount := countUp 65535 (s.board c).missCount, misses := (s.board c).misses + 1 }) := by
  have counted : countUp Config.boardMissLimit (s.board c).misses = (s.board c).misses + 1 :=
    if_pos (show (s.board c).misses < 3 by omega)
  have below : (s.board c).misses + 1 ≠ Config.boardMissLimit := show (s.board c).misses + 1 ≠ 3 by omega
  simp [missBoard, counted, below, top16]

theorem linkFree_idles (h : b.updatePending = false) :
    linkFree c (s.setBoard c b) = s.setBoard c { b with activity := .idle } := by simp [linkFree, h]

/-- The link of an ONLINE board comes free with an update pending: the frame is built and sent at once (R174). -/
theorem linkFree_sends (honline : b.online = true) (h : b.updatePending = true) : linkFree c (s.setBoard c b) =
    s.setBoard c (displaying s.timebase (pictureOf s c) { b with activity := .idle, updatePending := false }) := by
  simp [linkFree, honline, h, sendDisplay_setBoard]

/-- Settles O49: a window by the board's ONLINE, the frame due and the link; an answer by the update pending as the link
comes free. -/
theorem boardWindowsAndAnswers : Obligations.BoardWindowsAndAnswers := by
  unfold Obligations.BoardWindowsAndAnswers
  refine ⟨fun c now s hmain hnow => ?windows, fun c f s hmain => ?answers⟩
  case windows =>
    have window := exec_refreshWindow (c := c) hmain
    rw [nextWindow_eq] at window
    have board : ((s.reach (s.board c).windowAt).setBoard c (windowSet (s.board c))).board c = windowSet (s.board c) :=
      State.setBoard_board_self ..
    have due : frameDue ((s.reach (s.board c).windowAt).setBoard c (windowSet (s.board c))) c = true ↔
        (s.board c).snapshotChanged = true ∨ (s.board c).builtAt + 1000000 ≤ now := by
      rw [frameDue_iff, board, hnow]
      rfl
    refine ⟨fun honline hidle hdue => ?sends, fun honline hsame hnot => ?rests, fun hoffline hidle => ?probes,
      fun honline hbusy hdue => ?pends, fun tag n period hs hn h => ?outOfRange, fun tag n period hs hn h1 h2 => ?stored⟩
    case sends =>
      rw [window, refreshBoard_sends (by rwa [board]) (due.2 hdue) (by rwa [board]), sendDisplay_setBoard,
        pictureOf_congr (s := s) rfl rfl rfl, hnow]
      rfl
    case rests =>
      have notDue := Bool.eq_false_iff.2 (mt due.1 (by simp [hsame, hnot]))
      rw [window, refreshBoard_rests (by rwa [board]) notDue]
      rfl
    case probes =>
      rw [window, refreshBoard_probes (by rwa [board]) (by rwa [board]), sendProbe_setBoard]
      rfl
    case pends =>
      rw [window, refreshBoard_pends (by rwa [board]) (due.2 hdue) (by rwa [board]), board, State.setBoard_setBoard]
      rfl
    case outOfRange => exact exec_of_answer hs tag (.boardSet n period) (doBoardSet_badField (s := framed s) hn h) rfl
    case stored => exact exec_of_answer hs tag (.boardSet n period) (doBoardSet_one (s := framed s) hn ⟨h1, h2⟩) rfl
  case answers =>
    refine ⟨fun hsends => exec_boardTransmitEnd hmain hsends, exec_boardAnswerBad hmain,
      fun e hwait honline hnone => ⟨?good, fun m hm => exec_boardAnswerGood_ne hmain hwait hm, fun hmisses => ?miss⟩,
      fun e hwait honline hpending => ⟨?goodPending, fun hmisses => ?missPending⟩⟩
    case good => rw [exec_boardAnswerGood hmain hwait, goodAnswer_online honline, linkFree_idles (by exact hnone)]
    case miss =>
      rw [exec_boardAnswerTimeout hmain hwait, missBoard_below (by exact hmisses), linkFree_idles (by exact hnone)]
      rfl
    case goodPending =>
      rw [exec_boardAnswerGood hmain hwait, goodAnswer_online honline,
        linkFree_sends (by exact honline) (by exact hpending)]
      rfl
    case missPending =>
      rw [exec_boardAnswerTimeout hmain hwait, missBoard_below (by exact hmisses),
        linkFree_sends (by exact honline) (by exact hpending), pictureOf_congr (s := s) rfl rfl rfl]
      rfl

end Sys2Proof.Machine
end

section
/-! A board lost and found again (R175, R176), and what its clock makes of it (R63 to R66, R72). -/

namespace Sys2Proof.Machine

open Sys2Proof.Safety

variable {s : State} {c d : ClockId} {f : BoardFrame}

/-! ## The third miss (R175) -/

/-- The state in which the clock of a board just lost is held: the board OFFLINE, its report raised (R175). -/
def boardLost (c : ClockId) (s : State) : State :=
  raise (.board c false (countUp 65535 (s.board c).missCount)) (s.setBoard c { s.board c with
    missCount := countUp 65535 (s.board c).missCount, misses := 3, online := false, updatePending := false,
    snapshotChanged := true, activity := .idle })

theorem missBoard_third (honline : (s.board c).online = true) (h : (s.board c).misses = 2) :
    missBoard c s = holdClock c .board (boardLost c s) := by
  have third : countUp Config.boardMissLimit 2 = Config.boardMissLimit := rfl
  simp only [missBoard, honline, h, third, decide_true, Bool.and_self, if_true]
  rfl

theorem boardLost_clock : (boardLost c s).clock d = s.clock d := by simp [boardLost]

theorem holdClock_running (cause : HoldCause) (h : (s.clock c).state = .running) :
    holdClock c cause s = enterHeld c cause s := by simp only [holdClock, h]

/-- A clock held while its board is OFFLINE leaves the priority update for the board's return (R173). -/
theorem enterHeld_board_offline (cause : HoldCause) (h : (s.board c).online = false) :
    (enterHeld c cause s).board c = { s.board c with snapshotChanged := true } := by
  simp [enterHeld, askUpdate, h, markChanged]

/-! ## The good answer to a probe (R176) -/

/-- The state in which the clock of a board just found is told: the board ONLINE, its report raised and the frame of its
return on the link (R176). -/
def boardFound (c : ClockId) (s : State) : State :=
  sendDisplay c (raise (.board c true (s.board c).missCount) (s.setBoard c { s.board c with
    misses := 0, online := true, activity := .idle }))

theorem goodAnswer_offline (h : (s.board c).online = false) : goodAnswer c s = tellClock c (boardFound c s) := by
  simp [goodAnswer, h, boardFound]

@[simp] theorem boardFound_timebase : (boardFound c s).timebase = s.timebase := by simp [boardFound]
@[simp] theorem boardFound_clocks : (boardFound c s).clocks = s.clocks := by simp [boardFound]
@[simp] theorem boardFound_clock : (boardFound c s).clock d = s.clock d := by simp [boardFound]
@[simp] theorem boardFound_lots : (boardFound c s).lots = s.lots := by simp [boardFound]
@[simp] theorem boardFound_lanes : (boardFound c s).lanes = s.lanes := by simp [boardFound]
@[simp] theorem boardFound_ledger : (boardFound c s).ledger = s.ledger := by simp [boardFound]
@[simp] theorem boardFound_bus : (boardFound c s).bus = s.bus := by simp [boardFound]
@[simp] theorem boardFound_hall : (boardFound c s).hall = s.hall := by simp [boardFound]
@[simp] theorem boardFound_link : (boardFound c s).hlp.link = s.hlp.link := by simp [boardFound]

theorem boardFound_board_self : (boardFound c s).board c =
    displaying s.timebase (pictureOf s c) { s.board c with misses := 0, online := true, activity := .idle } := by
  rw [boardFound, sendDisplay_eq, State.setBoard_board_self, raise_board, State.setBoard_board_self, raise_timebase,
    pictureOf_raise, pictureOf_congr (s := s) rfl rfl rfl]
  rfl

theorem boardFound_board_ne (h : d ≠ c) : (boardFound c s).board d = s.board d := by
  rw [boardFound, sendDisplay_eq, State.setBoard_board_ne _ _ _ _ h, raise_board, State.setBoard_board_ne _ _ _ _ h]

theorem grantable_boardFound : grantable (boardFound c s) = grantable s :=
  grantable_congr (fun _ => by rw [boardFound_clock]) boardFound_ledger

theorem dayCloseRuns_boardFound : dayCloseRuns (boardFound c s) = dayCloseRuns s :=
  dayCloseRuns_congr boardFound_ledger

/-! ## What is on the link stays there (R173) -/

/-- The board is ONLINE and `f` is being sent to it. -/
def IsSent (f : BoardFrame) (b : Board) : Prop := b.online = true ∧ b.activity = .sending f

theorem isSent_askUpdate (h : IsSent f (s.board c)) : IsSent f ((askUpdate c s).board c) := by
  obtain ⟨honline, hsends⟩ := h
  simp [askUpdate, IsSent, honline, hsends]

theorem runClock_board_self : (runClock c s).board c = { s.board c with snapshotChanged := true } := by
  simp [runClock, markChanged]

theorem isSent_runClock (h : IsSent f (s.board c)) : IsSent f ((runClock c s).board c) := by
  rwa [runClock_board_self]

theorem isSent_testNew (h : IsSent f (s.board c)) : IsSent f ((testNew c s).board c) := by
  unfold testNew
  split
  · split
    · simpa using h
    · split
      · exact isSent_runClock h
      · exact h
  · exact h

theorem isSent_testRestart (h : IsSent f (s.board c)) : IsSent f ((testRestart c s).board c) := by
  unfold testRestart
  split
  · exact isSent_askUpdate (by simpa using h)
  · split
    · exact isSent_runClock h
    · exact h

/-- A clock that is told sends nothing while its board's link is busy: its update waits (R173). -/
theorem isSent_tellClock (h : IsSent f (s.board c)) : IsSent f ((tellClock c s).board c) := by
  unfold tellClock
  split
  · exact isSent_testNew h
  · split
    · exact isSent_testRestart h
    · exact h
  · exact h

/-! ## The clock that is told (R63 to R66) -/

theorem tellClock_held (h : (s.clock c).state = .held) : tellClock c s = s := by simp only [tellClock, h]

section
variable (hst : (s.clock c).state = .loaded .new)
include hst

theorem tellClock_new_runs (hp : (s.clock c).previewEnds = none) (hready : hallReady s c = true)
    (hlink : s.hlp.link = .linked) (hday : dayCloseRuns s = false) (hg : grantable s = true) :
    tellClock c s = runClock c (grant c s) := by
  have ready : newReady s c = true := by simp [newReady, hp, hready, hlink]
  simp only [tellClock, hst]
  exact testNew_runs ready hday hg

theorem tellClock_new_waits
    (h : (s.clock c).previewEnds ≠ none ∨ s.hall.key ≠ .sale ∨ s.hall.timeSet = false ∨ s.hlp.link ≠ .linked) :
    tellClock c s = s := by
  have waits : newReady s c = false := by
    obtain h | h | h | h := h <;> simp [newReady, hallReady, h]
  simp only [tellClock, hst]
  exact testNew_waits waits

end

section
variable (hst : (s.clock c).state = .loaded .restart)
include hst

theorem tellClock_restart_runs (hr : (s.clock c).reservation = true) (hh : (s.clock c).holdPending = none)
    (hready : hallReady s c = true) : tellClock c s = runClock c s := by
  simp [tellClock, hst, hr, testRestart, hh, hready]

theorem tellClock_restart_unreserved (hr : (s.clock c).reservation = false) : tellClock c s = s := by
  simp [tellClock, hst, hr]

theorem tellClock_restart_waits (hh : (s.clock c).holdPending = none) (hready : hallReady s c = false) :
    tellClock c s = s := by
  simp [tellClock, hst, testRestart, hh, hready]

end

/-- Settles O50: the third miss holds the clock; the answer to a probe leaves `boardFound`, and what the telling then does
is read off the clock's state. -/
theorem boardLostAndFound : Obligations.BoardLostAndFound := by
  unfold Obligations.BoardLostAndFound
  intro c e f s hmain hwait
  refine ⟨fun honline hmisses hst => ?lost, fun hoffline hst => ?held, fun ran hoffline hran => ?told⟩
  case lost =>
    have holds : missBoard c (s.reach e) = enterHeld c .board (boardLost c (s.reach e)) :=
      (missBoard_third (s := s.reach e) honline hmisses).trans (holdClock_running .board (by rwa [boardLost_clock]))
    have board : (enterHeld c .board (boardLost c (s.reach e))).board c =
        { (boardLost c (s.reach e)).board c with snapshotChanged := true } :=
      enterHeld_board_offline .board (by simp [boardLost])
    refine ⟨_, (exec_boardAnswerTimeout hmain hwait).trans (congrArg _ holds), ?_⟩
    rw [board, enterHeld_clocks, boardLost_clock]
    refine ⟨?_, ?_, rfl, ?_, ?_, fun d hd => ?_, ?_⟩
    · simp [boardLost]
    · simp [boardLost]
    · simp [boardLost]
    · simp [boardLost, heldForm]
    · rw [enterHeld_board_ne .board hd, boardLost, raise_board, State.setBoard_board_ne _ _ _ _ hd, State.reach_board]
    · simp [boardLost]
  case held =>
    have found : goodAnswer c s = boardFound c s :=
      (goodAnswer_offline hoffline).trans (tellClock_held (by rwa [boardFound_clock]))
    refine ⟨_, (exec_boardAnswerGood hmain hwait).trans (congrArg _ found), ?_⟩
    rw [boardFound_board_self]
    exact ⟨rfl, rfl, rfl, boardFound_clocks, fun d hd => boardFound_board_ne hd, boardFound_lots, boardFound_lanes,
      boardFound_ledger, boardFound_bus, boardFound_hall⟩
  case told =>
    have back : ((boardFound c s).board c).online = true := by rw [boardFound_board_self]; rfl
    have sent : IsSent (.display (((s.board c).frameNumber + 1) % 256) (pictureOf s c)) ((boardFound c s).board c) := by
      rw [boardFound_board_self]
      exact ⟨rfl, rfl⟩
    have ready (hkey : s.hall.key = .sale) (htime : s.hall.timeSet = true) : hallReady (boardFound c s) c = true :=
      hallReady_iff.2 ⟨by simpa, back, by simpa⟩
    obtain ⟨online, sending⟩ := isSent_tellClock sent
    refine ⟨_, (exec_boardAnswerGood hmain hwait).trans (congrArg _ (goodAnswer_offline hoffline)), online, sending,
      fun hst hp hkey htime hlink hday hg => ?newRuns, fun hst hr hh hkey htime => ?restartRuns,
      fun hst hlack => ?newWaits, fun hst hlack => ?restartWaits⟩
    case newRuns =>
      rw [tellClock_new_runs (by simpa) (by simpa) (ready hkey htime) (by simpa) (dayCloseRuns_boardFound.trans hday)
        (grantable_boardFound.trans hg)]
      refine ⟨?_, runClock_snapshotChanged⟩
      simp [runClock_grant_clocks, hran]
    case restartRuns =>
      rw [tellClock_restart_runs (by simpa) (by simpa) (by simpa) (ready hkey htime)]
      refine ⟨?_, runClock_snapshotChanged⟩
      simp [runClock_clocks, runningForm, hran, hr]
    case newWaits => rw [tellClock_new_waits (by simpa) (by simpa using hlack), boardFound_clocks]
    case restartWaits =>
      obtain hr | ⟨hh, hlack⟩ := hlack
      · rw [tellClock_restart_unreserved (by simpa) (by simpa), boardFound_clocks]
      · have notReady : hallReady (boardFound c s) c = false :=
          hallReady_eq_false (by obtain h | h := hlack <;> simp [h])
        rw [tellClock_restart_waits (by simpa) (by simpa) notReady, boardFound_clocks]

end Sys2Proof.Machine
end

section
/-! The starts (R192, R193, R202 and the start rule of each chapter): the values of a warm start, the reports and the
departures that follow them, and each way to a start. -/

namespace Sys2Proof.Machine

open Sys2Proof.Safety

variable {s t : State} {c : ClockId} {n : Nat} {b : ReportBody} {gone kept : List Train} {kind : StartKind}
  {mainReturn : Bool} {backup : BackupSupply}

/-! ## From the values to the start -/

/-- The state in which a warm start tests its lanes: its values, and the reports of the main return and of a low backup
(R192). -/
def warmReported (kind : StartKind) (mainReturn : Bool) (backup : BackupSupply) (s : State) : State :=
  reportBackup backup (if mainReturn then reportMainFail kind (warmValues kind backup s) else warmValues kind backup s)

theorem warmStart_eq_eachClock : warmStart kind mainReturn backup s =
    eachClock testDepartures (warmReported kind mainReturn backup s) := rfl

theorem reportBackup_keeps {α : Type} (read : State → α) (h : ∀ s b, read (raise b s) = read s) :
    read (reportBackup backup s) = read s := by
  cases backup
  · rfl
  · exact h _ _

theorem warmReported_keeps {α : Type} (read : State → α) (h : ∀ s b, read (raise b s) = read s) :
    read (warmReported kind mainReturn backup s) = read (warmValues kind backup s) := by
  have failed : ∀ t, read (reportMainFail kind t) = read t := fun t => by cases kind <;> simp [reportMainFail, h]
  rw [warmReported, reportBackup_keeps read h]
  split
  · exact failed _
  · rfl

/-- What neither a report nor a departure changes is, after a warm start, what its values give. -/
theorem warmStart_keeps {α : Type} (read : State → α) (raised : ∀ s b, read (raise b s) = read s)
    (departed : ∀ s c, read (testDepartures c s) = read s) :
    read (warmStart kind mainReturn backup s) = read (warmValues kind backup s) :=
  (eachClock_keeps read departed).trans (warmReported_keeps read raised)

theorem testDepartures_link : (testDepartures c s).hlp.link = s.hlp.link ∧
    (testDepartures c s).hlp.linkRate = s.hlp.linkRate ∧
    (testDepartures c s).hlp.supervision = s.hlp.supervision ∧ (testDepartures c s).hlp.held = s.hlp.held := by
  rw [testDepartures_eq_departAll]
  refine List.foldlRecOn (motive := fun (u : State) => u.hlp.link = s.hlp.link ∧ u.hlp.linkRate = s.hlp.linkRate ∧
    u.hlp.supervision = s.hlp.supervision ∧ u.hlp.held = s.hlp.held) _ _ ⟨rfl, rfl, rfl, rfl⟩ fun u h y _ => ?_
  simpa [departHead_eq] using h

/-! ## The lanes and the lots (R17, R39) -/

/-- Which trains have left, said of the places that the lane walk passes over (R30, R32). -/
theorem leftBy_iff : LeftBy t gone kept ↔
    (∀ y ∈ gone, ∀ n, some n ∈ placesOf y → passedOver t (some n) = true) ∧
      ∀ y, kept.head? = some y → ∃ n, some n ∈ placesOf y ∧ ¬ passedOver t (some n) = true := by
  simp only [LeftBy, passedOver_some, not_forall, exists_prop, ← exists_and_left]
  exact and_congr_left fun _ => ⟨fun h y hy n hn l => h y hy n l hn, fun h y hy n l hn => h y hy n hn l⟩

theorem leftBy_congr (h : ∀ n, t.lotState n = s.lotState n) (hs : LeftBy s gone kept) : LeftBy t gone kept := by
  rw [leftBy_iff, passedOver_congr h]
  exact leftBy_iff.1 hs

/-- After the departure test of every lane each lane has lost the head trains that had nothing to sell, and no more. -/
theorem eachClock_testDepartures_lane (c : ClockId) (s : State) :
    (eachClock testDepartures s).lane c =
        { s.lane c with trains := ((eachClock testDepartures s).lane c).trains } ∧
      ∃ gone, (s.lane c).trains = gone ++ ((eachClock testDepartures s).lane c).trains ∧
        LeftBy (eachClock testDepartures s) gone ((eachClock testDepartures s).lane c).trains := by
  obtain ⟨u, hu, e⟩ := eachClock_reads (s := s) (f := testDepartures) (fun u => (u.lane c, u.lotState)) c
    fun _ _ h => Prod.ext (testDepartures_lane_ne h.symm) (funext testDepartures_lotState)
  obtain ⟨lane, states⟩ := Prod.mk.inj e
  rw [lane, ← (Prod.mk.inj hu).1]
  exact ⟨testDepartures_lane_self, departing c u, departing_append_kept.symm,
    leftBy_congr (congrFun states) leftBy_testDepartures⟩

theorem sortLot_packs (l : Lot) :
    ((sortLot l).packsSold, (sortLot l).packsRemaining) = (l.packsSold, l.packsRemaining) := by
  unfold sortLot
  split <;> rfl

theorem sortLot_state_eq (l : Lot) : (sortLot l).state = if l.state = .onClock then sortedState l else l.state := by
  unfold sortLot
  split <;> rfl

/-! ## The values of a warm start -/

section
variable (h : s.ledger.arbiter.inProgress = none)
include h

/-- With no operation in progress there is nothing to complete before the values are given. -/
theorem warmValues_idle : warmValues kind backup s =
    { s with
      hlp := .atStart s.timebase s.hlp.linkRate s.hlp.supervision
      lots := s.lots.map sortLot
      lanes := mapCells (warmLane s.timebase) s.lanes
      clocks := mapCells warmClock s.clocks
      bus := .atStart
      ledger := warmLedger s.ledger
      boards := Vector.replicate 4 (.atStart s.timebase)
      hall := warmHall kind backup s.hall } := by
  rw [warmValues, settleInProgress_idle h]

theorem warmStart_timebase : (warmStart kind mainReturn backup s).timebase = s.timebase := by
  rw [warmStart_keeps State.timebase raise_timebase (fun s c => testDepartures_timebase s c), warmValues_idle h]

theorem warmStart_bus : (warmStart kind mainReturn backup s).bus = .atStart := by
  rw [warmStart_keeps State.bus raise_bus (fun s c => testDepartures_bus s c), warmValues_idle h]

theorem warmStart_boards :
    (warmStart kind mainReturn backup s).boards = Vector.replicate 4 (.atStart s.timebase) := by
  rw [warmStart_keeps State.boards raise_boards (fun s c => testDepartures_boards s c), warmValues_idle h]

theorem warmStart_hall : (warmStart kind mainReturn backup s).hall = warmHall kind backup s.hall := by
  rw [warmStart_keeps State.hall raise_hall (fun s c => testDepartures_hall s c), warmValues_idle h]

theorem warmStart_clock : (warmStart kind mainReturn backup s).clock c = warmClock (s.clock c) := by
  rw [State.clock, warmStart_clocks, settleInProgress_idle h]
  exact mapCells_get ..

theorem warmStart_link : (warmStart kind mainReturn backup s).hlp.linkRate = s.hlp.linkRate ∧
    (warmStart kind mainReturn backup s).hlp.supervision = s.hlp.supervision ∧
    (warmStart kind mainReturn backup s).hlp.link = .linked ∧ (warmStart kind mainReturn backup s).hlp.replies = [] ∧
    (warmStart kind mainReturn backup s).hlp.held = none := by
  have side := warmStart_keeps (s := s) (kind := kind) (mainReturn := mainReturn) (backup := backup)
    (fun u => (u.hlp.linkRate, u.hlp.supervision, u.hlp.link, u.hlp.replies, u.hlp.held)) (fun _ _ => by simp)
    fun _ _ => by simp only [testDepartures_link, testDepartures_replies]
  rw [warmValues_idle h] at side
  simp only [Prod.mk.injEq] at side
  exact side

theorem warmStart_lane : (warmStart kind mainReturn backup s).lane c =
      { warmLane s.timebase (s.lane c) with trains := ((warmStart kind mainReturn backup s).lane c).trains } ∧
    ∃ gone, (s.lane c).trains = gone ++ ((warmStart kind mainReturn backup s).lane c).trains ∧
      LeftBy (warmStart kind mainReturn backup s) gone ((warmStart kind mainReturn backup s).lane c).trains := by
  have lane : (warmReported kind mainReturn backup s).lane c = warmLane s.timebase (s.lane c) := by
    rw [warmReported_keeps (fun u => u.lane c) fun _ _ => raise_lane .., warmValues_idle h]
    exact mapCells_get ..
  rw [warmStart_eq_eachClock]
  obtain ⟨hlane, hgone⟩ := eachClock_testDepartures_lane c (warmReported kind mainReturn backup s)
  rw [lane] at hlane hgone
  exact ⟨hlane, hgone⟩

/-- A lot keeps its packs, and its state unless it was ON_CLOCK (R17). -/
theorem warmStart_lot {l : Lot} (hl : s.lot n = some l) :
    ∃ l', (warmStart kind mainReturn backup s).lot n = some l' ∧ l'.packsSold = l.packsSold ∧
      l'.packsRemaining = l.packsRemaining ∧
      l'.state = if l.state = .onClock then sortedState l else l.state := by
  have values : (warmValues kind backup s).lot n = some (sortLot l) := by
    rw [warmValues_idle h]
    exact (findKey_map sortLot_number s.lots).trans (congrArg (Option.map sortLot) hl)
  have packs := warmStart_keeps (s := s) (kind := kind) (mainReturn := mainReturn) (backup := backup)
    (fun u => packsOf u n) (fun _ _ => packsOf_congr (raise_lots ..) n)
    fun _ _ => congrFun (congrArg (fun x => x.2.2) sideOf_testDepartures) n
  have state := warmStart_keeps (s := s) (kind := kind) (mainReturn := mainReturn) (backup := backup)
    (fun u => u.lotState n) (fun _ _ => by simp [State.lotState]) fun _ _ => testDepartures_lotState n
  simp only [packsOf, State.lotState, values, Option.map_some, sortLot_packs, sortLot_state_eq] at packs state
  obtain ⟨l', hl', hpacks⟩ := Option.map_eq_some_iff.1 packs
  obtain ⟨hsold, hremaining⟩ := Prod.mk.inj hpacks
  rw [hl'] at state
  exact ⟨l', hl', hsold, hremaining, Option.some.inj state⟩

end

/-! ## What every warm start leaves -/

theorem busStarted_of_atStart (h : t.bus = .atStart) : BusStarted t := by
  refine ⟨fun r => ?_, by simp [h, DeskBus.atStart]⟩
  rw [State.row, h]
  exact Vector.get_replicate ..

theorem boardsStarted_of_atStart (h : t.boards = Vector.replicate 4 (.atStart t.timebase)) : BoardsStarted t := by
  intro c
  rw [State.board, h]
  exact Vector.get_replicate ..

theorem warmFrom_warmStart (h : s.ledger.arbiter.inProgress = none) :
    WarmFrom s (warmStart kind mainReturn backup s) := by
  have time := warmStart_timebase (kind := kind) (mainReturn := mainReturn) (backup := backup) h
  have bus := warmStart_bus (kind := kind) (mainReturn := mainReturn) (backup := backup) h
  have boards := warmStart_boards (kind := kind) (mainReturn := mainReturn) (backup := backup) h
  have hall := warmStart_hall (kind := kind) (mainReturn := mainReturn) (backup := backup) h
  have ledger := warmStart_ledger (s := s) (kind := kind) (mainReturn := mainReturn) (backup := backup)
  rw [settleInProgress_idle h] at ledger
  obtain ⟨rate, supervision, link, replies, -⟩ :=
    warmStart_link (kind := kind) (mainReturn := mainReturn) (backup := backup) h
  have lane (c : ClockId) := warmStart_lane (kind := kind) (mainReturn := mainReturn) (backup := backup) (c := c) h
  have clock (c : ClockId) := warmStart_clock (kind := kind) (mainReturn := mainReturn) (backup := backup) (c := c) h
  have lot (n : Nat) (l : Lot) (hl : s.lot n = some l) :=
    warmStart_lot (kind := kind) (mainReturn := mainReturn) (backup := backup) h hl
  generalize warmStart kind mainReturn backup s = t at *
  unfold WarmFrom
  rw [ledger, hall, time]
  exact ⟨busStarted_of_atStart bus, boardsStarted_of_atStart (time ▸ boards), lane, rfl, rfl,
    Vector.get_replicate 4 none, rfl, rfl, rfl, rfl, rfl, rfl, rfl, clock, rfl, rfl, rfl, Vector.get_replicate 4 none,
    rfl, rfl, rfl, rfl, lot, rate, supervision, link, replies⟩

/-- What a warm start leaves is said of the retained values alone. -/
theorem warmFrom_congr {u : State} (hlink : (u.hlp.linkRate, u.hlp.supervision) = (s.hlp.linkRate, s.hlp.supervision))
    (hlots : u.lots = s.lots) (hlanes : u.lanes = s.lanes) (hclocks : u.clocks = s.clocks)
    (hledger : u.ledger = s.ledger) (hhall : u.hall = s.hall) (h : WarmFrom u t) : WarmFrom s t := by
  obtain ⟨hrate, hsupervision⟩ := Prod.mk.inj hlink
  unfold WarmFrom State.lane State.clock State.lot at *
  rwa [hrate, hsupervision, hlots, hlanes, hclocks, hledger, hhall] at h

/-! ## The reports of a start (R192) -/

theorem mem_reports_raise {x : Report} (h : x ∈ (raise b s).hlp.reports) : x ∈ s.hlp.reports ∨ x.body = b := by
  unfold raise at h
  split at h
  · split at h
    · obtain h | h := List.mem_append.1 h
      · exact .inl h
      · exact .inr (congrArg Report.body (List.mem_singleton.1 h))
    · exact .inl h
  · exact .inl h

/-- No MAIN_FAIL report waits. -/
abbrev NoMainFail (s : State) : Prop :=
  ∀ x ∈ s.hlp.reports, ∀ failed returned timeSet, x.body ≠ .mainFail failed returned timeSet

theorem noMainFail_raise (h : NoMainFail s) (hb : ∀ failed returned timeSet, b ≠ .mainFail failed returned timeSet) :
    NoMainFail (raise b s) := fun x hx =>
  (mem_reports_raise hx).elim (h x) fun e => e ▸ hb

/-- A departure raises TRAIN_DONE reports alone. -/
theorem noMainFail_testDepartures (h : NoMainFail s) : NoMainFail (testDepartures c s) := by
  rw [testDepartures_eq_departAll]
  refine List.foldlRecOn (motive := NoMainFail) _ _ h fun u hu y _ => ?_
  rw [departHead_eq]
  refine noMainFail_raise ?_ fun _ _ _ => ReportBody.noConfusion
  simp only [NoMainFail, modLots_hlp, State.setLane_hlp]
  exact hu

/-- A warm start that follows no main return queues no MAIN_FAIL (R192). -/
theorem noMainFail_warmStart : NoMainFail (warmStart kind false backup s) := by
  have values : NoMainFail (warmValues kind backup s) := fun x hx => nomatch hx
  have reported : NoMainFail (warmReported kind false backup s) := by
    cases backup
    · exact values
    · exact noMainFail_raise values fun _ _ _ => ReportBody.noConfusion
  rw [warmStart_eq_eachClock, eachClock_eq_foldl]
  exact List.foldlRecOn (motive := NoMainFail) _ _ reported fun _ hu _ _ => noMainFail_testDepartures hu

theorem reportBackup_reports_prefix : s.hlp.reports <+: (reportBackup backup s).hlp.reports := by
  cases backup
  · exact List.prefix_rfl
  · exact raise_reports_prefix _

theorem eachClock_testDepartures_reports_prefix : s.hlp.reports <+: (eachClock testDepartures s).hlp.reports := by
  rw [eachClock_eq_foldl]
  exact List.foldlRecOn (motive := fun (u : State) => s.hlp.reports <+: u.hlp.reports) allClocks _ List.prefix_rfl
    fun _ h _ _ => h.trans testDepartures_reports_prefix

/-- The first report of a warm start at a main return is MAIN_FAIL (R192). -/
theorem warmStart_mainFail (h : s.ledger.arbiter.inProgress = none) :
    (warmStart .warmSupply true backup s).hlp.reports.head?.map Report.body =
      some (.mainFail s.hall.failStamp s.hall.calendar s.hall.timeSet) := by
  have behind : (reportMainFail .warmSupply (warmValues .warmSupply backup s)).hlp.reports <+:
      (warmStart .warmSupply true backup s).hlp.reports :=
    reportBackup_reports_prefix.trans eachClock_testDepartures_reports_prefix
  have first := report_of_prefix (s := warmValues .warmSupply backup s) rfl (by decide : 0 < 64) behind
  rw [List.head?_eq_getElem?]
  rw [warmValues_idle h] at first
  exact first

/-! ## The cold start (R193) -/

theorem coldStart_timebase : (coldStart backup s).timebase = s.timebase :=
  reportBackup_keeps State.timebase raise_timebase

theorem coldStart_hall : (coldStart backup s).hall = .atColdStart s.timebase backup :=
  reportBackup_keeps State.hall raise_hall

theorem boardsStarted_coldStart : BoardsStarted (coldStart backup s) := by
  refine boardsStarted_of_atStart ?_
  rw [coldStart_timebase]
  exact reportBackup_keeps State.boards raise_boards

/-! ## The ways to a start (R190, R192, R202) -/

theorem exec_powerOn_warm (h : s.hall.retainedValid = true) :
    exec (.powerOn backup) s = .next (warmStart .warmSupply (s.hall.main = .failed) backup s) :=
  congrArg Host.Outcome.next (if_pos h)

theorem exec_mainSupplyReturn {e : Nat} (hmain : s.hall.main = .failed) (hreturns : s.hall.mainReturns = some e) :
    exec (.mainSupplyReturn backup) s = .next (startBySupply true backup (s.reach e)) := by
  show execMainSupplyReturn backup s = _
  rw [execMainSupplyReturn, hmain, hreturns]

/-- The oldest reply has freed its place, and `rest` wait (R196). -/
def replyFreed (rest : List Reply) (s : State) : State := { s with hlp := { s.hlp with replies := rest } }

/-- The end of the reply to a CONTROLLER-RESET is its warm start; no request is held behind it (R202). -/
theorem exec_replySent_warmStart {r : Reply} {rest : List Reply} (hmain : s.hall.main = .present)
    (hreplies : s.hlp.replies = r :: rest) (hafter : r.after = .warmStart)
    (hidle : s.ledger.arbiter.inProgress = none) :
    exec (.replySent backup) s = .next (warmStart .warmReset false backup (replyFreed rest s)) := by
  obtain ⟨-, -, -, -, held⟩ := warmStart_link (s := replyFreed rest s) (kind := .warmReset) (mainReturn := false)
    (backup := backup) hidle
  have gone : replyGone backup s = dispatchHeld (warmStart .warmReset false backup (replyFreed rest s)) := by
    simp only [replyGone, hreplies, hafter, afterReply, replyFreed]
  refine (congrArg Host.Outcome.next (whenPowered_present hmain _)).trans (congrArg Host.Outcome.next ?_)
  simp only [gone, dispatchHeld, held]

/-- Settles O55: every way to a start is `warmStart` or `coldStart`; a warm start is its values (`warmValues_idle`), and
then its reports and the departures. -/
theorem warmStarts : Obligations.WarmStarts := by
  unfold Obligations.WarmStarts
  refine fun backup s => ⟨fun e hmain hreturns hvalid hidle => ?mainReturn, fun hvalid hidle => ?powerOn,
    fun e hmain hreturns hlost => ?coldReturn, fun hlost => ?coldPowerOn,
    fun r rest hmain hreplies hafter hidle => ?reset⟩
  case mainReturn =>
    have hidle : (s.reach e).ledger.arbiter.inProgress = none := hidle
    have warm : startBySupply true backup (s.reach e) = warmStart .warmSupply true backup (s.reach e) := if_pos hvalid
    refine ⟨_, (exec_mainSupplyReturn hmain hreturns).trans (congrArg _ warm), warmStart_timebase hidle, ?_, ?_,
      warmFrom_congr (u := s.reach e) rfl rfl rfl rfl rfl rfl (warmFrom_warmStart hidle), warmStart_mainFail hidle⟩ <;>
        rw [warmStart_hall hidle] <;> rfl
  case powerOn =>
    refine ⟨_, exec_powerOn_warm hvalid, warmStart_timebase hidle, ?_, ?_, warmFrom_warmStart hidle,
      fun hmain => ?_, fun hmain => ?_⟩
    · rw [warmStart_hall hidle]; rfl
    · rw [warmStart_hall hidle]; rfl
    · rw [decide_eq_true hmain]
      exact warmStart_mainFail hidle
    · rw [decide_eq_false (by simp [hmain])]
      exact noMainFail_warmStart
  case coldReturn =>
    have cold : startBySupply true backup (s.reach e) = coldStart backup (s.reach e) :=
      if_neg (Bool.eq_false_iff.1 hlost)
    refine ⟨_, (exec_mainSupplyReturn hmain hreturns).trans (congrArg _ cold), exec_powerOn_cold hlost,
      coldStart_timebase, ?_⟩
    rw [coldStart_hall]
    exact ⟨rfl, rfl, rfl, rfl, rfl, rfl, coldStart_reports⟩
  case coldPowerOn =>
    exact ⟨_, exec_powerOn_cold hlost, by rw [coldStart_hall]; rfl, coldStart_timebase, boardsStarted_coldStart⟩
  case reset =>
    have sent := exec_replySent_warmStart (backup := backup) hmain hreplies hafter hidle
    have hidle : (replyFreed rest s).ledger.arbiter.inProgress = none := hidle
    refine ⟨_, sent, warmStart_timebase hidle, ?_, ?_,
      warmFrom_congr (u := replyFreed rest s) rfl rfl rfl rfl rfl rfl (warmFrom_warmStart hidle),
      noMainFail_warmStart⟩ <;> rw [warmStart_hall hidle] <;> rfl

end Sys2Proof.Machine
end

section
/-! What a hold cause and a telling do at the four clocks, one after the other (R63 to R66, R72): what a change of the
time or of the key sets off. -/

namespace Sys2Proof.Machine

open Sys2Proof.Safety

variable {s t : State} {c d : ClockId} {cause : HoldCause} {x : Clock}

/-! ## A hold cause at every clock (R72) -/

/-- What a hold cause makes of a clock, by its state (the table of R72). -/
def heldBy (cause : HoldCause) (x : Clock) : Clock :=
  match x.state with
  | .running => heldForm x
  | .stopping | .deciding | .sold => { x with holdPending := some (x.holdPending.getD cause) }
  | .idle | .loaded _ | .held | .closed => x

theorem heldBy_running (h : x.state = .running) : heldBy cause x =
    { x with state := .held, stepTimer := .halted (periodOf x.params x.k), holdPending := none } := by
  rw [heldBy, h, heldForm]

theorem heldBy_pends (h : x.state = .stopping ∨ x.state = .deciding ∨ x.state = .sold) :
    heldBy cause x = { x with holdPending := some (x.holdPending.getD cause) } := by
  obtain h | h | h := h <;> rw [heldBy, h]

theorem heldBy_rests (h : x.state = .idle ∨ x.state = .loaded .new ∨ x.state = .loaded .restart ∨ x.state = .held ∨
    x.state = .closed) : heldBy cause x = x := by
  obtain h | h | h | h | h := h <;> rw [heldBy, h]

theorem holdClock_clocks : (holdClock c cause s).clocks = s.clocks.set c (heldBy cause (s.clock c)) := by
  have same : s.clocks.set c (s.clock c) = s.clocks := vector_set_get ..
  unfold holdClock heldBy
  split <;> simp only [*, enterHeld_clocks, State.setClock_clocks]

theorem eachClock_holdClock_clock :
    (eachClock (fun c s => holdClock c cause s) s).clock c = heldBy cause (s.clock c) := by
  obtain ⟨u, hu, e⟩ := eachClock_reads (s := s) (f := fun c s => holdClock c cause s) (fun u => u.clock c) c
    fun _ _ h => clock_ne_of_clocks holdClock_clocks h.symm
  refine e.trans ?_
  rw [← hu, State.clock, holdClock_clocks, vector_get_set_self]

/-! ## A telling at one clock (R63 to R66) -/

/-- A clock that is not LOADED passes a telling over (R63). -/
theorem tellClock_notLoaded (hn : (s.clock c).state ≠ .loaded .new) (hr : (s.clock c).state ≠ .loaded .restart) :
    tellClock c s = s := by
  unfold tellClock
  split
  · next hst => exact absurd hst hn
  · next hst => exact absurd hst hr
  · rfl

theorem tellClock_new_unready (hst : (s.clock c).state = .loaded .new) (h : hallReady s c = false) :
    tellClock c s = s := by
  simp only [tellClock, hst]
  exact testNew_waits (by simp [newReady, h])

theorem tellClock_clock_ne (h : d ≠ c) : (tellClock c s).clock d = s.clock d := by
  unfold tellClock
  split
  · exact testNew_clock_ne h
  · split
    · exact testRestart_clock_ne h
    · rfl
  · rfl

theorem enterHeld_online : ((enterHeld c cause s).board d).online = (s.board d).online := by
  by_cases h : d = c
  · subst h
    rw [enterHeld, askUpdate_online, raise_board]
    rfl
  · rw [enterHeld_board_ne cause h]

theorem enterHeld_link : (enterHeld c cause s).hlp.link = s.hlp.link := by simp [enterHeld]

theorem enterHeld_reports_prefix : s.hlp.reports <+: (enterHeld c cause s).hlp.reports := by
  rw [enterHeld, askUpdate_hlp]
  exact raise_reports_prefix (s := s.setClock c (heldForm (s.clock c))) _

theorem testRestart_cases : testRestart c s = s ∨ testRestart c s = runClock c s ∨
    ∃ cause, testRestart c s = enterHeld c cause (leaveLoaded c s) := by
  unfold testRestart
  split
  · exact .inr (.inr ⟨_, rfl⟩)
  · split
    · exact .inr (.inl rfl)
    · exact .inl rfl

theorem testNew_cases : testNew c s = s ∨ testNew c s = runClock c (grant c s) ∨ testNew c s = defer c s ∨
    testNew c s = askLater c s := by
  unfold testNew
  split_ifs <;> simp

/-- What a telling can do: nothing, entry to RUNNING or to HELD, and for a LOADED NEW clock a request for its
reservation, granted, deferred or not granted. -/
theorem tellClock_cases (c : ClockId) (s : State) : tellClock c s = s ∨ tellClock c s = runClock c s ∨
    (∃ cause, tellClock c s = enterHeld c cause (leaveLoaded c s)) ∨
    ((s.clock c).state = .loaded .new ∧ (tellClock c s = runClock c (grant c s) ∨ tellClock c s = defer c s ∨
      tellClock c s = askLater c s)) := by
  unfold tellClock
  split
  · next hst => exact testNew_cases.imp_right fun h => .inr (.inr ⟨hst, h⟩)
  · split
    · exact testRestart_cases.imp_right fun h => h.imp_right .inl
    · exact .inl rfl
  · exact .inl rfl

theorem tellClock_online : ((tellClock c s).board d).online = (s.board d).online := by
  obtain e | e | ⟨cause, e⟩ | ⟨-, e | e | e⟩ := tellClock_cases c s <;> rw [e]
  · exact runClock_online
  · exact enterHeld_online
  · exact runClock_online
  · rw [defer_board]
  · rfl

theorem tellClock_link : (tellClock c s).hlp.link = s.hlp.link := by
  obtain e | e | ⟨cause, e⟩ | ⟨-, e | e | e⟩ := tellClock_cases c s <;> rw [e]
  · rw [runClock_hlp]
  · exact enterHeld_link
  · rw [runClock_hlp]
    rfl
  · rw [defer_hlp]
  · rfl

theorem tellClock_reports_prefix : s.hlp.reports <+: (tellClock c s).hlp.reports := by
  obtain e | e | ⟨cause, e⟩ | ⟨-, e | e | e⟩ := tellClock_cases c s <;> rw [e]
  · rw [runClock_hlp]
  · exact enterHeld_reports_prefix (s := leaveLoaded c s)
  · rw [runClock_hlp]
    exact List.prefix_rfl
  · rw [defer_hlp]
  · exact List.prefix_rfl

/-- A clock that is not LOADED NEW asks for no reservation: it stays so, with the reservation it has or has not. -/
theorem tellClock_seat (h : (s.clock c).state ≠ .loaded .new) :
    ((tellClock c s).clock c).state ≠ .loaded .new ∧
      ((tellClock c s).clock c).reservation = (s.clock c).reservation := by
  obtain e | e | ⟨cause, e⟩ | ⟨hst, -⟩ := tellClock_cases c s
  · rw [e]
    exact ⟨h, rfl⟩
  · rw [e, State.clock, runClock_clocks, vector_get_set_self]
    exact ⟨ClockState.noConfusion, rfl⟩
  · rw [e, State.clock, enterHeld_clocks, vector_get_set_self, leaveLoaded_clock_self]
    exact ⟨ClockState.noConfusion, rfl⟩
  · exact absurd hst h

/-! ## A telling at every clock -/

/-- What clock `c` tests when it is told, the journal apart (R63). -/
def tested (c : ClockId) (s : State) : Clock × Bool × Hall × LinkState × Nat :=
  (s.clock c, (s.board c).online, s.hall, s.hlp.link, s.timebase)

theorem tested_tellClock_ne (h : d ≠ c) : tested c (tellClock d s) = tested c s := by
  simp only [tested, tellClock_clock_ne h.symm, tellClock_online, tellClock_hall, tellClock_link, tellClock_timebase]

/-- `eachClock_reads`, where the parts of the other clocks keep `P` besides. -/
theorem eachClock_reads_of {α : Type} {f : ClockId → State → State} {P : State → Prop} (read : State → α) (c : ClockId)
    (leaves : ∀ d s, d ≠ c → read (f d s) = read s) (keeps : ∀ d s, d ≠ c → P s → P (f d s)) (h : P s) :
    ∃ u, P u ∧ read u = read s ∧ read (eachClock f s) = read (f c u) := by
  unfold eachClock
  match c with
  | 0 => exact ⟨s, h, rfl, by simp only [leaves 1 _ (by decide), leaves 2 _ (by decide), leaves 3 _ (by decide)]⟩
  | 1 => exact ⟨f 0 s, keeps 0 _ (by decide) h, leaves 0 _ (by decide),
      by simp only [leaves 2 _ (by decide), leaves 3 _ (by decide)]⟩
  | 2 => exact ⟨f 1 (f 0 s), keeps 1 _ (by decide) (keeps 0 _ (by decide) h),
      by simp only [leaves 0 _ (by decide), leaves 1 _ (by decide)], leaves 3 _ (by decide)⟩
  | 3 => exact ⟨f 2 (f 1 (f 0 s)), keeps 2 _ (by decide) (keeps 1 _ (by decide) (keeps 0 _ (by decide) h)),
      by simp only [leaves 0 _ (by decide), leaves 1 _ (by decide), leaves 2 _ (by decide)], rfl⟩

/-- The journal can grant a reservation at once, and no clock but `c` can ask for one first (R64, R65). -/
structure GrantsFirst (c : ClockId) (s : State) : Prop where
  others : ∀ d, d ≠ c → (s.clock d).state ≠ .loaded .new
  day : dayCloseRuns s = false
  room : grantable s = true

theorem grantsFirst_tellClock (hd : d ≠ c) (h : GrantsFirst c s) : GrantsFirst c (tellClock d s) := by
  obtain ⟨hstate, hreservation⟩ := tellClock_seat (h.others d hd)
  have records := recordsOf_tellClock (c := d) (s := s)
  have arbiter : (tellClock d s).ledger.arbiter = s.ledger.arbiter := congrArg Prod.snd records
  have written : (tellClock d s).ledger.journal.lastWritten = s.ledger.journal.lastWritten :=
    congrArg (fun x => x.1.lastWritten) records
  have released : (tellClock d s).ledger.journal.lastReleased = s.ledger.journal.lastReleased :=
    congrArg (fun x => x.1.lastReleased) records
  have reserved : reservationsHeld (tellClock d s) = reservationsHeld s := reservationsHeld_congr fun e => by
    by_cases he : e = d
    · rw [he, hreservation]
    · rw [tellClock_clock_ne he]
  refine ⟨fun e he => ?_, ?_, ?_⟩
  · by_cases hed : e = d
    · rw [hed]
      exact hstate
    · rw [tellClock_clock_ne hed]
      exact h.others e he
  · rw [dayCloseRuns, arbiter]
    exact h.day
  · rw [grantable_iff, written, released, reserved]
    exact grantable_iff.1 h.room

/-- Clock `c` is told in a state in which it tests what it would test at first. -/
theorem eachClock_tellClock_clock (c : ClockId) (s : State) :
    ∃ u, tested c u = tested c s ∧ (eachClock tellClock s).clock c = (tellClock c u).clock c := by
  obtain ⟨u, hu, e⟩ := eachClock_reads (s := s) (f := tellClock) (tested c) c fun _ _ h => tested_tellClock_ne h
  exact ⟨u, hu, congrArg Prod.fst e⟩

/-- A clock that the telling would leave as it is, in every state where it tests the same, is left as it is. -/
theorem eachClock_tellClock_stays (h : ∀ u, tested c u = tested c s → tellClock c u = u) :
    (eachClock tellClock s).clock c = s.clock c := by
  obtain ⟨u, hu, e⟩ := eachClock_tellClock_clock c s
  rw [e, h u hu]
  exact congrArg Prod.fst hu

section
variable {u : State} (h : tested c u = tested c s)
include h

theorem clock_of_tested : u.clock c = s.clock c := congrArg Prod.fst h
theorem hallReady_of_tested : hallReady u c = hallReady s c := by
  simp only [tested, Prod.mk.injEq] at h
  obtain ⟨-, honline, hhall, -⟩ := h
  rw [hallReady, honline, hhall, hallReady]
theorem link_of_tested : u.hlp.link = s.hlp.link := congrArg (fun x => x.2.2.2.1) h
theorem timebase_of_tested : u.timebase = s.timebase := congrArg (fun x => x.2.2.2.2) h

end

/-- A LOADED RESTART clock with its reservation and no hold pending runs where the hall is ready (R66). -/
theorem eachClock_tellClock_restart_runs (hst : (s.clock c).state = .loaded .restart)
    (hr : (s.clock c).reservation = true) (hh : (s.clock c).holdPending = none) (hready : hallReady s c = true) :
    (eachClock tellClock s).clock c = runningForm s.timebase (s.clock c) := by
  obtain ⟨u, hu, e⟩ := eachClock_tellClock_clock c s
  have clock := clock_of_tested hu
  rw [e, tellClock_restart_runs (by rwa [clock]) (by rwa [clock]) (by rwa [clock])
    ((hallReady_of_tested hu).trans hready), State.clock, runClock_clocks, vector_get_set_self, clock,
    timebase_of_tested hu]

/-- The one LOADED NEW clock is granted its reservation and runs (R64, R65). -/
theorem eachClock_tellClock_new_runs (hst : (s.clock c).state = .loaded .new) (hp : (s.clock c).previewEnds = none)
    (hready : hallReady s c = true) (hlink : s.hlp.link = .linked) (hgrants : GrantsFirst c s) :
    (eachClock tellClock s).clock c = { s.clock c with
      state := .running, k := 0, reservation := true, asked := false,
      stepTimer := .running (s.timebase + periodOf (s.clock c).params 0) } := by
  obtain ⟨u, hgrants, hu, e⟩ := eachClock_reads_of (f := tellClock) (P := GrantsFirst c) (tested c) c
    (fun _ _ h => tested_tellClock_ne h) (fun _ _ hd h => grantsFirst_tellClock hd h) hgrants
  have clock := clock_of_tested hu
  rw [clock_of_tested e, tellClock_new_runs (by rwa [clock]) (by rwa [clock]) ((hallReady_of_tested hu).trans hready)
    ((link_of_tested hu).trans hlink) hgrants.day hgrants.room, runClock_grant_clock_self, clock,
    timebase_of_tested hu]

theorem eachClock_tellClock_reports_prefix : s.hlp.reports <+: (eachClock tellClock s).hlp.reports := by
  rw [eachClock_eq_foldl]
  exact List.foldlRecOn (motive := fun (u : State) => s.hlp.reports <+: u.hlp.reports) allClocks _ List.prefix_rfl
    fun _ h _ _ => h.trans tellClock_reports_prefix

theorem boards_online_congr (h : ∀ d, (t.board d).online = (s.board d).online) :
    t.boards.map Board.online = s.boards.map Board.online := by
  ext i hi
  simpa [State.board, Vector.get_eq_getElem] using h ⟨i, hi⟩

/-- What is done at every clock and changes nothing at any is done for nothing. -/
theorem eachClock_stays {f : ClockId → State → State} (h : ∀ d, f d s = s) : eachClock f s = s := by
  simp only [eachClock, h]

end Sys2Proof.Machine
end

section
/-! The calendar and the close alarm (R183 to R188): HALL-TIME-SET and CLOSE-ALARM-SET on a part that is ready for them,
and an advance of the calendar that fires no alarm. -/

namespace Sys2Proof.Machine

open Sys2Proof.Safety

variable {s : State} {a : Alarm} {x y : Stamp} {pos : Nat}

/-! ## Time-set (R184) -/

/-- `s` with the time-set flag as given, before any clock is told. -/
def timeMarked (flag : Bool) (s : State) : State := { s with hall := { s.hall with timeSet := flag } }

theorem timeMarked_same {flag : Bool} (h : s.hall.timeSet = flag) : timeMarked flag s = s := by
  subst h
  rfl

theorem setTime_clear (h : s.hall.timeSet = false) : setTime s = eachClock tellClock (timeMarked true s) :=
  if_neg (Bool.eq_false_iff.1 h)

theorem clearTime_set (h : s.hall.timeSet = true) :
    clearTime s = eachClock (fun c s => holdClock c .timeNotSet s) (timeMarked false s) := if_pos h

theorem clearTime_clear (h : s.hall.timeSet = false) : clearTime s = timeMarked false s :=
  (if_neg (Bool.eq_false_iff.1 h)).trans (timeMarked_same h).symm

/-- What a hold cause at a clock leaves is, once time-set is cleared, as it was. -/
theorem clearTime_keeps {α : Type} (read : State → α) (h : ∀ s c, read (holdClock c .timeNotSet s) = read s) :
    read (clearTime s) = read (timeMarked false s) := by
  cases hset : s.hall.timeSet with
  | false => rw [clearTime_clear hset]
  | true =>
    rw [clearTime_set hset]
    exact eachClock_keeps read h

section
variable (h : ∀ c, (s.clock c).state = .idle)
include h

theorem setTime_idle : setTime s = timeMarked true s := by
  cases hset : s.hall.timeSet with
  | false =>
    have idle (c : ClockId) : ((timeMarked true s).clock c).state = .idle := h c
    rw [setTime_clear hset]
    exact eachClock_stays fun d => tellClock_notLoaded (by simp [idle]) (by simp [idle])
  | true => exact (if_pos hset).trans (timeMarked_same hset).symm

theorem clearTime_idle : clearTime s = timeMarked false s := by
  cases hset : s.hall.timeSet with
  | false => exact clearTime_clear hset
  | true =>
    have idle (c : ClockId) : ((timeMarked false s).clock c).state = .idle := h c
    rw [clearTime_set hset]
    exact eachClock_stays fun d => by simp only [holdClock, idle]

end

/-! ## HALL-TIME-SET (R185) and CLOSE-ALARM-SET (R188) -/

theorem doHallTimeSet_key (h : s.hall.key ≠ .setup) : doHallTimeSet x s = ⟨s, .key, .empty⟩ := if_pos h

theorem doCloseAlarmSet_key (h : s.hall.key ≠ .setup) : doCloseAlarmSet a s = ⟨s, .key, .empty⟩ := if_pos h

section
variable (h : s.hall.key = .setup)
include h

theorem doHallTimeSet_inRange (hx : timeFault x = none) (hidle : ∀ c, (s.clock c).state = .idle) :
    doHallTimeSet x s = ⟨{ s with hall := { s.hall with
      calendar := x, timeSet := true, nextAdvance := s.timebase + 10000 } }, .ok,
      .timeChanged s.hall.calendar s.hall.timeSet x⟩ := by
  simp only [doHallTimeSet, h, hx, ne_eq, not_true_eq_false, if_false, accept]
  rw [setTime_idle (by exact hidle)]
  rfl

theorem doHallTimeSet_badField (hx : timeFault x = some pos) (hidle : ∀ c, (s.clock c).state = .idle) :
    doHallTimeSet x s = ⟨{ s with hall := { s.hall with timeSet := false } }, .badField, .field pos⟩ := by
  simp only [doHallTimeSet, h, hx, ne_eq, not_true_eq_false, if_false, badField, clearTime_idle hidle,
    timeMarked]

theorem doCloseAlarmSet_inRange (ha : alarmFault a = none) :
    doCloseAlarmSet a s = ⟨{ s with hall := { s.hall with alarm := a } }, .ok, .alarm a⟩ := by
  simp only [doCloseAlarmSet, h, ha, ne_eq, not_true_eq_false, if_false, accept]

theorem doCloseAlarmSet_badField (ha : alarmFault a = some pos) :
    doCloseAlarmSet a s = ⟨s, .badField, .field pos⟩ := by
  simp only [doCloseAlarmSet, h, ha, ne_eq, not_true_eq_false, if_false, badField]

end

theorem alarmFault_hour (h : 23 < a.hour) : alarmFault a = some 1 := by
  simp [alarmFault, firstFault, faultFrom, Nat.not_le.2 h]

theorem alarmFault_minute (hh : a.hour ≤ 23) (h : 59 < a.minute) : alarmFault a = some 3 := by
  simp [alarmFault, firstFault, faultFrom, hh, Nat.not_le.2 h]

theorem alarmFault_none (hh : a.hour ≤ 23) (h : a.minute ≤ 59) : alarmFault a = none := by
  simp [alarmFault, firstFault, faultFrom, hh, h]

/-- Settles O51: the key, then the fields. -/
theorem hallTimeSet : Obligations.HallTimeSet := by
  unfold Obligations.HallTimeSet
  refine fun tag x a s hs => ⟨fun hk => ⟨?_, ?_⟩, fun hk hx hidle => ?_, fun pos hk hx hidle => ?_, fun hk hh => ?_,
    fun hk hh hm => ?_, fun hk hh hm => ?_⟩
  · exact exec_of_answer hs tag (.hallTimeSet x) (doHallTimeSet_key (s := framed s) hk) rfl
  · exact exec_of_answer hs tag (.closeAlarmSet a) (doCloseAlarmSet_key (s := framed s) hk) rfl
  · exact exec_of_answer hs tag (.hallTimeSet x) (doHallTimeSet_inRange (s := framed s) hk hx hidle) rfl
  · exact exec_of_answer hs tag (.hallTimeSet x) (doHallTimeSet_badField (s := framed s) hk hx hidle) rfl
  · exact exec_of_answer hs tag (.closeAlarmSet a)
      (doCloseAlarmSet_badField (s := framed s) hk (alarmFault_hour hh)) rfl
  · exact exec_of_answer hs tag (.closeAlarmSet a)
      (doCloseAlarmSet_badField (s := framed s) hk (alarmFault_minute hh hm)) rfl
  · exact exec_of_answer hs tag (.closeAlarmSet a)
      (doCloseAlarmSet_inRange (s := framed s) hk (alarmFault_none hh hm)) rfl

/-! ## An advance of the calendar (R183, R187) -/

theorem alarmMeets_of_alarmMatches (h : alarmMatches a x = true) : AlarmMeets a x := by
  unfold alarmMatches at h
  split at h <;> simp_all [AlarmMeets]

/-- The carry within a minute. -/
theorem nextHundredth_within (h : (y.hundredth < 99 ∧ x = { y with hundredth := y.hundredth + 1 }) ∨
    (y.hundredth = 99 ∧ y.second < 59 ∧ x = { y with hundredth := 0, second := y.second + 1 })) :
    nextHundredth y = x ∧ atCalendarEnd y = false ∧ entersMinute x = false := by
  obtain ⟨hh, rfl⟩ | ⟨hh, hs, rfl⟩ := h
  · refine ⟨if_pos hh, decide_eq_false ?_, by simp [entersMinute]⟩
    rintro rfl
    exact absurd hh (by decide)
  · refine ⟨by simp [nextHundredth, hh, hs], decide_eq_false ?_, by simp [entersMinute]⟩
    rintro rfl
    exact absurd hs (by decide)

/-- An advance that fires no alarm, before the end of 2099. -/
theorem exec_calendarAdvance_quiet (hx : nextHundredth s.hall.calendar = x)
    (hend : atCalendarEnd s.hall.calendar = false) (quiet : s.hall.main = .present → s.hall.timeSet = true →
      entersMinute x = true → alarmMatches s.hall.alarm x = false) :
    exec .calendarAdvance s = .next (advancedTo x s) := by
  show Host.Outcome.next (advanceCalendar _) = _
  cases hm : s.hall.main with
  | failed => simp [advanceCalendar, State.reach, hm, hx, hend, advancedTo, Config.hundredth]
  | present =>
    have silent : (s.hall.timeSet && entersMinute x && alarmMatches s.hall.alarm x) = false := by
      simpa using quiet hm
    simp [advanceCalendar, State.reach, hm, hx, hend, silent, advancedTo, Config.hundredth]

theorem exec_calendarAdvance_carries (h : (s.hall.calendar.hundredth < 99 ∧
        x = { s.hall.calendar with hundredth := s.hall.calendar.hundredth + 1 }) ∨
      (s.hall.calendar.hundredth = 99 ∧ s.hall.calendar.second < 59 ∧
        x = { s.hall.calendar with hundredth := 0, second := s.hall.calendar.second + 1 }) ∨
      (CarriesTo s.hall.calendar x ∧
        (s.hall.main = .failed ∨ s.hall.timeSet = false ∨ ¬ AlarmMeets s.hall.alarm x))) :
    exec .calendarAdvance s = .next (advancedTo x s) := by
  obtain hwithin | ⟨hcarries, hquiet⟩ := or_assoc.2 h
  · obtain ⟨hx, hend, hminute⟩ := nextHundredth_within hwithin
    exact exec_calendarAdvance_quiet hx hend fun _ _ h => absurd h (by simp [hminute])
  · refine exec_calendarAdvance_quiet (nextHundredth_of_carriesTo hcarries) (atCalendarEnd_of_carriesTo hcarries)
      fun hm ht _ => Bool.eq_false_iff.2 fun hmatches => ?_
    simp [hm, ht, alarmMeets_of_alarmMatches hmatches] at hquiet

/-! ## The end of 2099 (R183, R184) -/

/-- The last hundredth of 2099 (R183). -/
abbrev calendarEnd : Stamp :=
  { year := 2099, month := 12, day := 31, hour := 23, minute := 59, second := 59, hundredth := 99 }

/-- What the advance past the end of 2099 leaves: time-set cleared, which is told to the clocks while the supply is
PRESENT. -/
def pastEnd (s : State) : State :=
  match s.hall.main with
  | .failed => timeMarked false (advancedTo calendarOrigin s)
  | .present => clearTime (advancedTo calendarOrigin s)

theorem exec_calendarAdvance_end (h : s.hall.calendar = calendarEnd) :
    exec .calendarAdvance s = .next (pastEnd s) := by
  have carried : nextHundredth calendarEnd = calendarOrigin := by decide
  have ended : atCalendarEnd calendarEnd = true := by decide
  have cleared (t : State) : (clearTime t).hall.timeSet = false :=
    clearTime_keeps (fun u => u.hall.timeSet) fun s c => by rw [holdClock_hall]
  show Host.Outcome.next (advanceCalendar _) = _
  unfold pastEnd
  cases hm : s.hall.main with
  | failed => simp [advanceCalendar, State.reach, hm, h, carried, ended, advancedTo, Config.hundredth, timeMarked]
  | present => simp [advanceCalendar, State.reach, hm, h, carried, ended, advancedTo, Config.hundredth, cleared]

/-- With the supply FAILED or time-set clear no clock is told. -/
theorem pastEnd_silent (h : s.hall.main = .failed ∨ s.hall.timeSet = false) :
    pastEnd s = timeMarked false (advancedTo calendarOrigin s) := by
  unfold pastEnd
  split
  · rfl
  · next hm =>
    have clear : s.hall.timeSet = false := by simpa [hm] using h
    exact clearTime_clear clear

theorem pastEnd_told (hm : s.hall.main = .present) (ht : s.hall.timeSet = true) : pastEnd s =
    eachClock (fun c s => holdClock c .timeNotSet s) (timeMarked false (advancedTo calendarOrigin s)) := by
  rw [pastEnd, hm]
  exact clearTime_set ht

theorem pastEnd_keeps {α : Type} (read : State → α) (h : ∀ s c, read (holdClock c .timeNotSet s) = read s) :
    read (pastEnd s) = read (timeMarked false (advancedTo calendarOrigin s)) := by
  unfold pastEnd
  split
  · rfl
  · exact clearTime_keeps read h

/-! ## Every advance -/

theorem fireAlarm_hall : (fireAlarm s).hall = s.hall :=
  (eachClock_keeps State.hall closeClock_hall).trans (raise_hall ..)

theorem fireAlarm_timebase : (fireAlarm s).timebase = s.timebase :=
  (eachClock_keeps State.timebase closeClock_timebase).trans (raise_timebase ..)

/-- An advance sets neither the time of the next one nor the timebase. -/
theorem advanceCalendar_times : (advanceCalendar s).hall.nextAdvance = s.hall.nextAdvance ∧
    (advanceCalendar s).timebase = s.timebase := by
  unfold advanceCalendar
  extract_lets old hall advanced calendar ended
  have times : ended.hall.nextAdvance = s.hall.nextAdvance ∧ ended.timebase = s.timebase := by
    unfold ended
    split
    · exact ⟨clearTime_keeps (fun u => u.hall.nextAdvance) fun s c => by rw [holdClock_hall],
        clearTime_keeps State.timebase fun s c => holdClock_timebase s c _⟩
    · exact ⟨rfl, rfl⟩
  split
  · split <;> exact ⟨rfl, rfl⟩
  · split
    · rwa [fireAlarm_hall, fireAlarm_timebase]
    · exact times

/-- Settles O52: the carry before the end of 2099 (`exec_calendarAdvance_carries`), the advance past it (`pastEnd`), and
the times every advance leaves. -/
theorem calendarAdvances : Obligations.CalendarAdvances := by
  unfold Obligations.CalendarAdvances
  refine ⟨fun s t x ht h => ?carries, fun s hend => ?past, fun s => ?times⟩
  case carries =>
    subst ht
    exact exec_calendarAdvance_carries h
  case past =>
    refine ⟨pastEnd s, exec_calendarAdvance_end hend, ?_, ?_, fun h => ?_, fun hm ht c => ?_, ?_, ?_, ?_, ?_⟩
    · exact pastEnd_keeps State.timebase fun s c => holdClock_timebase s c _
    · exact pastEnd_keeps State.hall fun s c => holdClock_hall s c _
    · rw [pastEnd_silent h]
      exact ⟨rfl, rfl⟩
    · rw [pastEnd_told hm ht, eachClock_holdClock_clock]
      exact ⟨fun h => heldBy_running h, fun h => heldBy_pends h, fun h => heldBy_rests h⟩
    · exact pastEnd_keeps State.lots fun s c => holdClock_lots s c _
    · exact pastEnd_keeps State.lanes fun s c => holdClock_lanes s c _
    · exact pastEnd_keeps State.ledger fun s c => holdClock_ledger s c _
    · exact pastEnd_keeps State.bus fun s c => holdClock_bus s c _
  case times => exact ⟨_, rfl, advanceCalendar_times⟩

end Sys2Proof.Machine
end

section
/-! The key switch (R189): samples of its contacts, and what a qualified change tells the clocks. -/

namespace Sys2Proof.Machine

open Sys2Proof.Safety

variable {s : State} {c : ClockId} {p : KeyPosition}

/-! ## Samples -/

theorem exec_keySample (h : s.hall.main = .present) (a b : Bool) :
    exec (.keySample a b) s = .next (sampleKey (sampledKey a b) s) :=
  congrArg Host.Outcome.next (whenPowered_present h _)

theorem exec_keyQualifiedChange (h : s.hall.main = .present) (hp : p ≠ s.hall.key) :
    exec (.keyQualifiedChange p) s = .next (changeKey p s) :=
  congrArg Host.Outcome.next ((whenPowered_present h _).trans (if_neg hp))

theorem sampleKey_equal (h : p = s.hall.key) :
    sampleKey p s = { s with hall := { s.hall with keyRaw := s.hall.key, keyCounter := 0 } } := by
  simp only [sampleKey, h, if_true]

section
variable (h : p ≠ s.hall.key)
include h

theorem sampleKey_first (hraw : p ≠ s.hall.keyRaw) :
    sampleKey p s = { s with hall := { s.hall with keyRaw := p, keyCounter := 1 } } := by
  simp [sampleKey, h, hraw, Config.keySamples]

theorem sampleKey_counts (hraw : p = s.hall.keyRaw) (hn : s.hall.keyCounter < 19) :
    sampleKey p s = { s with hall := { s.hall with keyCounter := s.hall.keyCounter + 1 } } := by
  subst hraw
  have few : s.hall.keyCounter + 1 < Config.keySamples := Nat.succ_lt_succ hn
  simp [sampleKey, h, few]

theorem sampleKey_qualifies (hraw : p = s.hall.keyRaw) (hn : s.hall.keyCounter = 19) :
    sampleKey p s = changeKey p s := by
  subst hraw
  simp [sampleKey, h, hn, Config.keySamples]

end

/-! ## A qualified change -/

/-- The state in which the clocks are told of a qualified change: the position taken, its KEY report raised (R189). -/
def keyTurned (p : KeyPosition) (s : State) : State :=
  raise (.key s.hall.key p s.hall.calendar) { s with hall := { s.hall with key := p, keyRaw := p, keyCounter := 0 } }

section
variable (p : KeyPosition) (s : State)

@[simp] theorem keyTurned_timebase : (keyTurned p s).timebase = s.timebase := raise_timebase ..
@[simp] theorem keyTurned_clock : (keyTurned p s).clock c = s.clock c := raise_clock ..
@[simp] theorem keyTurned_board : (keyTurned p s).board c = s.board c := raise_board ..
@[simp] theorem keyTurned_lots : (keyTurned p s).lots = s.lots := raise_lots ..
@[simp] theorem keyTurned_lanes : (keyTurned p s).lanes = s.lanes := raise_lanes ..
@[simp] theorem keyTurned_ledger : (keyTurned p s).ledger = s.ledger := raise_ledger ..
@[simp] theorem keyTurned_bus : (keyTurned p s).bus = s.bus := raise_bus ..
@[simp] theorem keyTurned_hall : (keyTurned p s).hall = { s.hall with key := p, keyRaw := p, keyCounter := 0 } :=
  raise_hall ..
@[simp] theorem keyTurned_link : (keyTurned p s).hlp.link = s.hlp.link := raise_hlp_link ..

end

theorem changeKey_fromSale (h : s.hall.key = .sale) :
    changeKey p s = eachClock (fun c s => holdClock c .key s) (keyTurned p s) := if_pos h

theorem changeKey_toSale (h : s.hall.key ≠ .sale) : changeKey .sale s = eachClock tellClock (keyTurned .sale s) :=
  (if_neg h).trans (if_pos rfl)

theorem changeKey_aside (h : s.hall.key ≠ .sale) (hp : p ≠ .sale) : changeKey p s = keyTurned p s :=
  (if_neg h).trans (if_neg hp)

/-! ## The key comes to SALE (R63 to R66) -/

/-- With the key in SALE a clock's board and the time are what the hall's readiness asks for. -/
theorem hallReady_keyTurned : hallReady (keyTurned .sale s) c = ((s.board c).online && s.hall.timeSet) := by
  simp [hallReady]

theorem grantsFirst_keyTurned (hday : dayCloseRuns s = false) (hg : grantable s = true)
    (h : ∀ d, d ≠ c → (s.clock d).state ≠ .loaded .new) : GrantsFirst c (keyTurned p s) :=
  ⟨fun d hd => by simpa using h d hd, (dayCloseRuns_congr (keyTurned_ledger ..)).trans hday,
    (grantable_congr (fun _ => by rw [keyTurned_clock]) (keyTurned_ledger ..)).trans hg⟩

/-- A clock that a telling leaves, with the key in SALE, wherever it tests the same, is left. -/
theorem toSale_clock_stays
    (h : ∀ u, u.clock c = s.clock c → hallReady u c = ((s.board c).online && s.hall.timeSet) →
      u.hlp.link = s.hlp.link → tellClock c u = u) :
    (eachClock tellClock (keyTurned .sale s)).clock c = s.clock c := by
  refine (eachClock_tellClock_stays fun u hu => ?_).trans (keyTurned_clock ..)
  exact h u ((clock_of_tested hu).trans (keyTurned_clock ..)) ((hallReady_of_tested hu).trans hallReady_keyTurned)
    ((link_of_tested hu).trans (keyTurned_link ..))

/-- Settles O53: a sample by the two positions it is compared with; a change by the position left and the one taken, and
there by the state of each clock. -/
theorem keyQualified : Obligations.KeyQualified := by
  unfold Obligations.KeyQualified
  refine fun s hmain => ⟨fun a b h => ?_, fun a b h hraw => ?_, fun a b h hraw hn => ?_, fun a b h hraw hn => ?_,
    fun p hkey hp => ?fromSale, fun p hkey hp hne => ?aside, fun hkey => ?toSale⟩
  · rw [exec_keySample hmain, sampleKey_equal h]
  · rw [exec_keySample hmain, sampleKey_first h hraw]
  · rw [exec_keySample hmain, sampleKey_counts h hraw hn]
  · rw [exec_keySample hmain, sampleKey_qualifies h hraw hn, exec_keyQualifiedChange hmain h]
  case aside => rw [exec_keyQualifiedChange hmain hne, changeKey_aside hkey hp, keyTurned]
  case fromSale =>
    have clock (c : ClockId) : (eachClock (fun c s => holdClock c .key s) (keyTurned p s)).clock c =
        heldBy .key (s.clock c) := eachClock_holdClock_clock.trans (congrArg _ (keyTurned_clock ..))
    refine ⟨_, (exec_keyQualifiedChange hmain (hkey ▸ hp)).trans (congrArg _ (changeKey_fromSale hkey)), ?_,
      fun c h => (clock c).trans (heldBy_running h), fun c h => (clock c).trans (heldBy_pends h),
      fun c h => (clock c).trans (heldBy_rests h), ?_, ?_, ?_, ?_⟩
    · exact (eachClock_keeps State.hall fun s c => holdClock_hall s c _).trans (keyTurned_hall ..)
    · exact (eachClock_keeps State.lots fun s c => holdClock_lots s c _).trans (keyTurned_lots ..)
    · exact (eachClock_keeps State.lanes fun s c => holdClock_lanes s c _).trans (keyTurned_lanes ..)
    · exact (eachClock_keeps State.ledger fun s c => holdClock_ledger s c _).trans (keyTurned_ledger ..)
    · exact (eachClock_keeps State.bus fun s c => holdClock_bus s c _).trans (keyTurned_bus ..)
  case toSale =>
    refine ⟨_, (exec_keyQualifiedChange hmain hkey.symm).trans (congrArg _ (changeKey_toSale hkey)), ?hall,
      fun hon hroom => ?report, fun c hn hr => ?notLoaded, fun c hst hlack => ?unready, fun c hst hlack => ?newWaits,
      fun c hst hr => ?unreserved, fun c hst hr hh honline htime => ?restartRuns,
      fun c hst hp honline htime hlink hday hg hothers => ?newRuns, ?lots, ?lanes, ?boards⟩
    case hall => exact (eachClock_keeps State.hall tellClock_hall).trans (keyTurned_hall ..)
    case report =>
      exact report_of_prefix (s := { s with hall := { s.hall with key := .sale, keyRaw := .sale, keyCounter := 0 } })
        hon hroom eachClock_tellClock_reports_prefix
    case notLoaded =>
      exact toSale_clock_stays fun u hu _ _ => tellClock_notLoaded (by rwa [hu]) (by rwa [hu])
    case unready =>
      refine toSale_clock_stays fun u hu hready _ => ?_
      have hready : hallReady u c = false := by
        rw [hready]
        obtain h | h := hlack <;> simp [h]
      obtain hst | ⟨hst, hh⟩ := hst
      · exact tellClock_new_unready (by rwa [hu]) hready
      · exact tellClock_restart_waits (by rwa [hu]) (by rwa [hu]) hready
    case newWaits =>
      refine toSale_clock_stays fun u hu _ hlink => tellClock_new_waits (by rwa [hu]) ?_
      rw [hu, hlink]
      exact hlack.imp_right fun h => .inr (.inr h)
    case unreserved =>
      exact toSale_clock_stays fun u hu _ _ => tellClock_restart_unreserved (by rwa [hu]) (by rwa [hu])
    case restartRuns =>
      have ready : hallReady (keyTurned .sale s) c = true := by simp [hallReady_keyTurned, honline, htime]
      rw [eachClock_tellClock_restart_runs (by simpa) (by simpa) (by simpa) ready, keyTurned_clock, keyTurned_timebase,
        runningForm]
    case newRuns =>
      have ready : hallReady (keyTurned .sale s) c = true := by simp [hallReady_keyTurned, honline, htime]
      rw [eachClock_tellClock_new_runs (by simpa) (by simpa) ready (by simpa) (grantsFirst_keyTurned hday hg hothers),
        keyTurned_clock, keyTurned_timebase]
    case lots => exact (eachClock_keeps State.lots tellClock_lots).trans (keyTurned_lots ..)
    case lanes => exact (eachClock_keeps State.lanes tellClock_lanes).trans (keyTurned_lanes ..)
    case boards =>
      have online (d : ClockId) : ((eachClock tellClock (keyTurned .sale s)).board d).online = (s.board d).online :=
        (eachClock_keeps (fun u => (u.board d).online) fun _ _ => tellClock_online).trans
          (congrArg Board.online (keyTurned_board ..))
      exact boards_online_congr online

end Sys2Proof.Machine
end

section
/-! The main and the backup supply (R190, R191): the fail, the threshold while FAILED, and the changes of the backup. -/

namespace Sys2Proof.Machine

open Sys2Proof.Safety

variable {s : State}

/-! ## The main supply (R190) -/

theorem exec_mainSupplyFail (h : s.hall.main = .present) : exec .mainSupplyFail s = .next (failMain s) :=
  congrArg Host.Outcome.next (whenPowered_present h _)

/-- A reading below threshold while PRESENT declares the supply FAILED. -/
theorem exec_mainSupplyBelowThreshold_present (h : s.hall.main = .present) :
    exec .mainSupplyBelowThreshold s = .next (failMain s) := by
  show execMainSupplyBelowThreshold s = _
  rw [execMainSupplyBelowThreshold, h]

theorem exec_mainSupplyBelowThreshold_failed (h : s.hall.main = .failed) :
    exec .mainSupplyBelowThreshold s = .next { s with hall := { s.hall with mainReturns := none } } := by
  show execMainSupplyBelowThreshold s = _
  rw [execMainSupplyBelowThreshold, h]

theorem exec_mainSupplyAboveThreshold_failed (h : s.hall.main = .failed) (hr : s.hall.mainReturns = none) :
    exec .mainSupplyAboveThreshold s =
      .next { s with hall := { s.hall with mainReturns := some (s.timebase + 200000) } } := by
  show execMainSupplyAboveThreshold s = _
  rw [execMainSupplyAboveThreshold, h, hr]
  rfl

theorem nothingWaits_failMain : NothingWaits (failMain s) := ⟨rfl, Vector.get_replicate 4 none⟩

theorem failMain_clock (c : ClockId) : (failMain s).clock c = stopClockTimers (s.clock c) := mapCells_get ..

/-! ## The backup supply (R191) -/

theorem exec_backupChange_same : exec (.backupChange s.hall.backup) s = .next s :=
  congrArg Host.Outcome.next (if_pos rfl)

theorem exec_backupChange {x : BackupSupply} (h : x ≠ s.hall.backup) :
    exec (.backupChange x) s = .next (changeBackup x s) := congrArg Host.Outcome.next (if_neg h)

theorem changeBackup_failed (h : s.hall.main = .failed) (x : BackupSupply) : changeBackup x s =
    { s with hall := { s.hall with backup := x, retainedValid := s.hall.retainedValid && x = .ok } } := by
  rw [changeBackup, h]

theorem changeBackup_present (h : s.hall.main = .present) (x : BackupSupply) : changeBackup x s =
    raise (.backupLow x) { s with hall := { s.hall with backup := x, backupFlag := x = .low } } := by
  rw [changeBackup, h]

/-- Settles O54: the fail is `failMain`; the threshold and the backup by the state of the main supply. -/
theorem supplyEvents : Obligations.SupplyEvents := by
  unfold Obligations.SupplyEvents
  refine fun s => ⟨fun hmain => ?fail, fun hmain hr => exec_mainSupplyAboveThreshold_failed hmain hr,
    fun hmain => exec_mainSupplyBelowThreshold_failed hmain, fun hmain hb => ?lowFailed, fun hmain hb => ?lowPresent,
    fun hmain hb => ?okFailed, fun hmain hb => ?okPresent, exec_backupChange_same⟩
  case fail =>
    exact ⟨failMain s, exec_mainSupplyFail hmain, exec_mainSupplyBelowThreshold_present hmain, rfl, rfl, rfl, rfl, rfl,
      rfl, nothingWaits_failMain, rfl, rfl, rfl, rfl, rfl, failMain_clock⟩
  case lowFailed =>
    rw [exec_backupChange (by simp [hb]), changeBackup_failed hmain]
    simp
  case lowPresent =>
    rw [exec_backupChange (by simp [hb]), changeBackup_present hmain]
    simp
  case okFailed =>
    rw [exec_backupChange (by simp [hb]), changeBackup_failed hmain]
    simp
  case okPresent =>
    rw [exec_backupChange (by simp [hb]), changeBackup_present hmain]
    simp

end Sys2Proof.Machine
end

section
/-! What the invariants of the host link read (R194, R196, R198): the report queue with attention, and the reply places with
the requests that hold one. What keeps them: nothing they read changes, a report is raised, an operation is served. -/

set_option Elab.async false

namespace Sys2Proof.Machine

open Sys2Proof.Safety

variable {s t u : State} {c : ClockId} {d : DeskId} {n : Nat}

/-! ## The report queue (R198) -/

theorem reportsKept_congr (h : ReportsKept s) (hhlp : t.hlp = s.hlp) (hmain : t.hall.main = s.hall.main) :
    ReportsKept t :=
  ⟨hhlp ▸ h.room, hhlp ▸ h.lost, hhlp ▸ h.number, fun hp => hhlp ▸ h.attention (hmain ▸ hp)⟩

theorem countUp_le {top n : Nat} (h : n ≤ top) : countUp top n ≤ top := by
  unfold countUp
  split
  · next hlt => exact hlt
  · exact h

/-- A report raised joins a queue with room, or is lost and counted, or is discarded (R198). -/
theorem reportsKept_raise (h : ReportsKept s) (b : ReportBody) : ReportsKept (raise b s) := by
  have number : (s.hlp.reportNumber + 1) % 65536 < 65536 := Nat.mod_lt _ (by decide)
  unfold raise
  split
  · split
    · next hroom => exact ⟨by simpa using hroom, h.lost, number, fun _ => rfl⟩
    · exact ⟨h.room, countUp_le h.lost, number, h.attention⟩
  · exact h

/-! ## The relation -/

/-- The operation in progress that holds a reply place: a host ledger request (R196). -/
def servedPlace (op : Option Operation) : Nat :=
  match op with
  | some (.host _ _ _ _) => 1
  | some (.commit _ _ _) => 0
  | none => 0

/-- The reply place of a CONTROLLER-RESET whose reply is not yet placed (R202). -/
def resetPlace (x : Option ResetPhase) : Nat :=
  match x with
  | some (.waiting _) => 1
  | some .replying => 0
  | none => 0

theorem placesUsed_eq (s : State) : placesUsed s = s.hlp.replies.length + (s.ledger.arbiter.requests.length +
    servedPlace s.ledger.arbiter.inProgress + resetPlace s.hlp.resetting) := rfl

/-- `s` keeps the report queue where `u` does, and uses no reply place and no place of the ledger list more than `u`. -/
structure Within (u s : State) : Prop where
  reports : ReportsKept u → ReportsKept s
  places : placesUsed s ≤ placesUsed u
  waiting : s.ledger.arbiter.requests.length ≤ u.ledger.arbiter.requests.length

theorem Within.refl (s : State) : Within s s := ⟨id, le_rfl, le_rfl⟩

theorem Within.trans (h : Within u s) (h' : Within s t) : Within u t :=
  ⟨h'.reports ∘ h.reports, h'.places.trans h.places, h'.waiting.trans h.waiting⟩

/-! ## Nothing the invariants read changes -/

/-- Host link, arbiter and main supply are the same. -/
theorem within_of_same (h : Within u s) (hhlp : t.hlp = s.hlp := by rfl)
    (harb : t.ledger.arbiter = s.ledger.arbiter := by rfl) (hmain : t.hall.main = s.hall.main := by rfl) :
    Within u t :=
  h.trans ⟨fun k => reportsKept_congr k hhlp hmain, by rw [placesUsed_eq, placesUsed_eq, hhlp, harb],
    by rw [harb]⟩

/-- Host link, hall and the records of the ledger are the same. -/
theorem within_of_records (h : Within u s) (hhlp : t.hlp = s.hlp := by simp)
    (hrecords : recordsOf t.ledger = recordsOf s.ledger := by simp) (hhall : t.hall = s.hall := by simp) : Within u t :=
  within_of_same h hhlp (congrArg Prod.snd hrecords) (congrArg Hall.main hhall)

theorem within_setClock (h : Within u s) {x : Clock} : Within u (s.setClock c x) := within_of_same h

theorem within_setBoard (h : Within u s) {x : Board} : Within u (s.setBoard c x) := within_of_same h

theorem within_setLane (h : Within u s) {x : Lane} : Within u (s.setLane c x) := within_of_same h

theorem within_setRow (h : Within u s) {r : RowId} {x : Row} : Within u (s.setRow r x) := within_of_same h

theorem within_modLot (h : Within u s) {f : Lot → Lot} : Within u (s.modLot n f) := within_of_same h

theorem within_modLots (h : Within u s) {f : Lot → Lot} {l : List (Option Nat)} : Within u (modLots f l s) :=
  within_of_records h

theorem within_modBuyer (h : Within u s) {f : Buyer → Buyer} : Within u (s.modBuyer n f) := within_of_same h

theorem within_modInvoice (h : Within u s) {f : Invoice → Invoice} : Within u (s.modInvoice n f) := within_of_same h

theorem within_setJournal (h : Within u s) {j : Journal} : Within u (s.setJournal j) := within_of_same h

theorem within_setLastSale (h : Within u s) {x : Option LastSale} : Within u (s.setLastSale c x) := within_of_same h

theorem within_reach (h : Within u s) {e : Nat} : Within u (s.reach e) := within_of_same h

theorem within_askUpdate (h : Within u s) : Within u (askUpdate c s) := within_of_records h

theorem within_leaveLoaded (h : Within u s) : Within u (leaveLoaded c s) := within_of_same h

theorem within_runClock (h : Within u s) : Within u (runClock c s) := within_of_records h

theorem within_testNew (h : Within u s) : Within u (testNew c s) := within_of_records h

/-- The hall is replaced, the main supply as it was. -/
theorem within_setHall (h : Within u s) {x : Hall} (hx : x.main = s.hall.main := by rfl) :
    Within u { s with hall := x } := within_of_same h (hmain := hx)

/-! ## A report raised, and operations made on every clock, on a list, or under a guard -/

theorem within_raise (h : Within u s) {b : ReportBody} : Within u (raise b s) :=
  h.trans ⟨fun k => reportsKept_raise k b, by simp [placesUsed_eq], by simp⟩

theorem within_eachClock {f : ClockId → State → State} (hf : ∀ c s, Within u s → Within u (f c s)) (h : Within u s) :
    Within u (eachClock f s) := hf 3 _ (hf 2 _ (hf 1 _ (hf 0 _ h)))

theorem within_foldl {α : Type} {f : State → α → State} (hf : ∀ a s, Within u s → Within u (f s a)) (l : List α)
    (h : Within u s) : Within u (l.foldl f s) := List.foldlRecOn l f h fun s hs a _ => hf a s hs

/-! ## Clocks (chapter 4) -/

theorem within_enterHeld (h : Within u s) {cause : HoldCause} : Within u (enterHeld c cause s) :=
  within_askUpdate (within_raise (within_setClock h))

theorem within_testRestart (h : Within u s) : Within u (testRestart c s) := by
  unfold testRestart
  split
  · exact within_enterHeld (within_leaveLoaded h)
  · split
    · exact within_runClock h
    · exact h

theorem within_askRestart (h : Within u s) : Within u (askRestart c s) := by
  unfold askRestart
  split
  · exact within_of_records h
  · split
    · exact within_testRestart (within_setClock h)
    · exact within_setClock h

theorem within_tellClock (h : Within u s) : Within u (tellClock c s) := by
  unfold tellClock
  split
  · exact within_testNew h
  · split
    · exact within_testRestart h
    · exact h
  · exact h

theorem within_tellSpace (h : Within u s) : Within u (tellSpace c s) := by
  unfold tellSpace
  split
  · exact within_testNew h
  · split
    · exact within_testRestart h
    · exact within_askRestart h
  · exact h

theorem within_releaseDeferred (h : Within u s) : Within u (releaseDeferred c s) := by
  unfold releaseDeferred
  split
  · exact within_testNew h
  · split
    · exact h
    · exact within_askRestart h
  · exact h

theorem within_holdClock (h : Within u s) {cause : HoldCause} : Within u (holdClock c cause s) := by
  have pend : Within u (s.setClock c { s.clock c with
      holdPending := some ((s.clock c).holdPending.getD cause) }) := within_setClock h
  unfold holdClock
  cases (s.clock c).state with
  | running => exact within_enterHeld h
  | stopping | deciding | sold => exact pend
  | loaded | held | idle | closed => exact h

/-! ## Lanes (2.3, 2.4, 2.6) -/

theorem within_passage (h : Within u s) : Within u (passage c s) := by
  simp only [passage]
  split
  · exact within_raise (within_setLane h)
  · split
    · exact within_raise (within_setLane (within_modLots h))
    · exact within_setLane (within_modLots h)

theorem within_gateChanges (h : Within u s) : Within u (gateChanges c s) := by
  simp only [gateChanges]
  split
  · split
    · exact within_passage (within_setLane h)
    · exact within_setLane h
  · exact within_setLane h

theorem within_sampleGate (h : Within u s) {blocked : Bool} : Within u (sampleGate c blocked s) := by
  simp only [sampleGate]
  split
  · exact within_setLane h
  · split
    · exact within_setLane h
    · exact within_gateChanges h

theorem within_testDepartures (h : Within u s) : Within u (testDepartures c s) := by
  rw [testDepartures_eq_departAll]
  refine within_foldl (fun y s hs => ?_) _ h
  rw [departHead_eq]
  exact within_raise (within_modLots (within_setLane hs))

theorem within_gapRunsOut (h : Within u s) : Within u (gapRunsOut c s) := by
  simp only [gapRunsOut]
  split
  · exact within_setLane h
  · exact within_testDepartures (within_raise (within_modLots (within_setLane h)))

/-! ## Lots taken and ended, steps, pauses (R62, R67, R70, R71, R77, R78) -/

theorem within_takeLot (h : Within u s) {l : Lot} : Within u (takeLot c l s) :=
  within_of_same h (by simp) (congrArg Prod.snd recordsOf_takeLot) (by simp)

theorem within_endLot (h : Within u s) {cause : LotEndCause} : Within u (endLot c cause s) := by
  unfold endLot
  split
  · exact h
  · refine within_askUpdate (within_testDepartures (within_raise (within_raise ?_)))
    exact within_of_same h

theorem within_writeNoSale (h : Within u s) {cause : NoSaleCause} : Within u (writeNoSale c cause s) := by
  simp only [writeNoSale]
  split
  · exact within_of_same h
  · exact h

theorem within_stepClock (h : Within u s) : Within u (stepClock c s) := by
  simp only [stepClock]
  split
  · split
    · exact within_of_same h
    · exact within_endLot (within_writeNoSale h)
  · exact h

theorem within_restartClock (h : Within u s) : Within u (restartClock c s) := by
  simp only [restartClock]
  split
  · exact within_askRestart (within_askUpdate (within_setClock h))
  · exact h

theorem within_closeClock (h : Within u s) : Within u (closeClock c s) := by
  simp only [closeClock]
  split
  · exact within_raise (within_of_same h)
  · refine within_askUpdate (within_raise ?_)
    split <;> exact within_of_same h
  · exact within_setClock h

theorem within_openClock (h : Within u s) : Within u (openClock c s) := by
  simp only [openClock]
  split
  · exact within_raise (within_of_same h)
  · exact within_setClock h

/-! ## Boards and rows (R90, R174 to R176) -/

theorem within_missBoard (h : Within u s) : Within u (missBoard c s) := by
  simp only [missBoard]
  split
  · exact within_holdClock (within_raise (within_setBoard h))
  · exact within_of_records h

theorem within_goodAnswer (h : Within u s) : Within u (goodAnswer c s) := by
  simp only [goodAnswer]
  split
  · exact within_of_records h
  · exact within_tellClock (within_setBoard (within_raise (within_setBoard h)))

theorem within_goodRow (h : Within u s) {r : RowId} : Within u (goodRow r s) := by
  simp only [goodRow]
  split
  · exact within_setRow h
  · exact within_raise (within_setRow h)

theorem within_missRow (h : Within u s) {r : RowId} : Within u (missRow r s) := by
  simp only [missRow]
  split
  · exact within_raise (within_setRow h)
  · exact within_setRow h

end Sys2Proof.Machine
end

section
/-! The host link's invariants through the ledger operations and the arbiter (chapters 7 and 8), the presses and row replies
(5 and 6), the hall and the host link (10 and 11), and the starts. -/

set_option Elab.async false

namespace Sys2Proof.Machine

open Sys2Proof.Safety

variable {s t u : State} {c : ClockId} {d : DeskId} {n : Nat}

/-! ## The changes of the records (R128 to R133, R138 to R141, R156 to R163) -/

theorem within_writeLine (h : Within u s) {l : JournalLine} : Within u (writeLine l s) := within_of_same h

theorem within_count (h : Within u s) {f : LedgerCounters → LedgerCounters} : Within u (s.count f) := within_of_same h

theorem within_writeSale (h : Within u s) {r : CommitRequest} {f : SaleFigures} : Within u (writeSale c r f s) := by
  unfold writeSale
  extract_lets seq opened number written clock unreserved invoiced charged sold last
  have hopened : Within u opened := by
    unfold opened
    split
    · exact h
    · exact within_of_same h
  have hunreserved : Within u unreserved := within_setClock (within_writeLine hopened)
  exact within_count (within_setLastSale (within_modLot (within_modBuyer (within_modInvoice hunreserved))))

theorem within_commitChanges (h : Within u s) {r : CommitRequest} {a : CommitAnswer} :
    Within u (commitChanges c r a s) := by
  cases a with
  | accepted f => exact within_writeSale h
  | refused x => exact within_of_same h

theorem within_closeInvoice (h : Within u s) : Within u (closeInvoice n s) := by
  unfold closeInvoice
  split
  · exact h
  · exact within_modBuyer (within_modInvoice h)

theorem within_applyClose (h : Within u s) : Within u (applyClose n s).state := by
  unfold applyClose
  split
  · exact h
  · exact within_closeInvoice h

theorem within_writeVoid (h : Within u s) {l : JournalLine} : Within u (writeVoid l s) := by
  simp only [writeVoid]
  refine within_setBoard ?_
  split
  · split <;> exact within_of_same h
  · exact within_of_same h

theorem within_applyVoid (h : Within u s) : Within u (applyVoid n s).state := by
  unfold applyVoid
  split
  · exact h
  · split
    · exact h
    · exact within_writeVoid h

theorem within_applyRequest (h : Within u s) {r : LedgerRequest} : Within u (applyRequest s r).state := by
  cases r with
  | buyerEnter a => exact within_of_same h
  | buyerFlags a =>
    simp only [applyRequest]
    split <;> exact within_modBuyer h
  | buyerLimit number limit => exact within_modBuyer h
  | buyerRemove number =>
    simp only [applyRequest]
    split
    · exact within_of_same h
    · exact h
  | tariffSet feeClass rate =>
    simp only [applyRequest]
    split
    · exact within_of_same h
    · exact h
  | saleVoid n => exact within_applyVoid h
  | paymentPost n =>
    simp only [applyRequest, applyPayment]
    split
    · exact h
    · exact within_of_same h
  | invoiceClose which =>
    simp only [applyRequest]
    split
    · exact within_applyClose h
    · exact h
  | dayClose => exact within_foldl (fun _ _ hs => within_closeInvoice hs) _ h

theorem within_requestChanges (h : Within u s) {r : LedgerRequest} {v : Service} :
    Within u (requestChanges r v s).state := by
  cases v with
  | refuse status body => exact h
  | go => exact within_applyRequest h

/-! ## The arbiter (R134, R135, R145) -/

/-- Another arbiter holds no more places, and no more requests wait there. -/
theorem within_setArbiter (h : Within u s) {a : Arbiter}
    (hplaces : a.requests.length + servedPlace a.inProgress ≤
      s.ledger.arbiter.requests.length + servedPlace s.ledger.arbiter.inProgress)
    (hwaiting : a.requests.length ≤ s.ledger.arbiter.requests.length) : Within u (s.setArbiter a) :=
  h.trans ⟨fun k => reportsKept_congr k rfl rfl, by simp only [placesUsed_eq, State.setArbiter]; omega, hwaiting⟩

/-- A request served gives its place on the list for the one in progress; a commit served holds no place. -/
theorem within_serveChoice (h : Within u s) {x : Choice} : Within u (serveChoice x s) := by
  simp only [serveChoice]
  split
  · split
    · exact within_setArbiter h (by simp [servedPlace]) le_rfl
    · exact h
  · split
    · next hrequests =>
      exact within_setArbiter h (by simp [servedPlace, hrequests]) (by simp [hrequests])
    · exact h
  · exact h

theorem within_serveWaiting (h : Within u s) : Within u (serveWaiting s) := by
  unfold serveWaiting
  split
  · exact within_serveChoice h
  · exact h

theorem within_placeCommit (h : Within u s) : Within u (placeCommit c s) := by
  unfold placeCommit
  split
  · exact within_setArbiter h le_rfl le_rfl
  · exact h

theorem within_clearProgress (h : Within u s) : Within u (clearProgress s) :=
  within_setArbiter h (by simp [servedPlace]) le_rfl

theorem within_dropWaiting (h : Within u s) : Within u (dropWaiting s) :=
  within_setArbiter h (by simp) (by simp)

/-! ## The clock's part in a completion (R116 to R120) -/

theorem within_allRefused (h : Within u s) : Within u (allRefused c s) := by
  unfold allRefused
  split
  · exact within_enterHeld h
  · exact within_askUpdate (within_of_same h)

theorem within_reportCredit (h : Within u s) {r : CommitRequest} {x : CommitRefusal} :
    Within u (reportCredit c r x s) := by
  cases x with
  | credit f => exact within_raise h
  | notSigned | blocked | notPermitted | invoiceFull => exact h

theorem within_clockRefused (h : Within u s) {r : CommitRequest} {x : CommitRefusal} :
    Within u (clockRefused c r x s) := by
  simp only [clockRefused]
  split
  · exact within_allRefused (within_reportCredit (within_of_records h))
  · exact within_placeCommit (within_reportCredit (within_of_records h))

theorem within_refusePress (h : Within u s) {x : DeskRefusal} : Within u (refusePress d x c s) := within_of_records h

theorem within_pulseWin (h : Within u s) : Within u (pulseWin d s) := within_of_records h

theorem within_clockAccepted (h : Within u s) {r : CommitRequest} {f : SaleFigures} {seq : Nat} :
    Within u (clockAccepted c r f seq s) := by
  have answered : Within u (pulseWin r.desk ((s.clock c).collection.tail.foldl
      (fun s p => refusePress p.desk .outbid c s) (s.setClock c { s.clock c with collection := [] }))) :=
    within_pulseWin (within_foldl (fun _ _ hs => within_refusePress hs) _ (within_setClock h))
  simp only [clockAccepted]
  split
  · exact answered
  · split
    · exact within_askUpdate (within_setClock (within_raise answered))
    · exact within_askUpdate (within_endLot (within_raise answered))

theorem within_clockAnswered (h : Within u s) {r : CommitRequest} {a : CommitAnswer} :
    Within u (clockAnswered c r a s) := by
  cases a with
  | accepted f => exact within_clockAccepted h
  | refused x => exact within_clockRefused h

/-! ## Completions (R134, R138, R145, R152, R202) -/

theorem reportsKept_placeReply (h : ReportsKept s) (r : Reply) : ReportsKept (placeReply r s) :=
  ⟨h.room, h.lost, h.number, h.attention⟩

@[simp] theorem placesUsed_placeReply (r : Reply) : placesUsed (placeReply r s) = placesUsed s + 1 := by
  simp [placesUsed_eq]
  omega

theorem within_releaseAllDeferred (h : Within u s) : Within u (releaseAllDeferred s) :=
  within_foldl (fun _ _ hs => within_releaseDeferred hs) _ (within_setJournal h)

/-- The reply of a CONTROLLER-RESET takes the place that was held for it (R202). -/
theorem within_continueReset (h : Within u s) : Within u (continueReset s) := by
  unfold continueReset
  split
  · next hreset =>
    refine h.trans ⟨fun k => ⟨k.room, k.lost, k.number, k.attention⟩, ?_, le_rfl⟩
    simp only [placesUsed_eq, placeReply, hreset, resetPlace, List.length_append, List.length_singleton]
    omega
  · exact h

theorem within_afterCompletion (h : Within u s) {x : Choice} : Within u (afterCompletion x s) :=
  within_continueReset (within_serveWaiting (within_serveChoice h))

theorem within_completeCommit (h : Within u s) {r : CommitRequest} {a : CommitAnswer} :
    Within u (completeCommit c r a s) := by
  have changed := within_commitChanges (c := c) (r := r) (a := a) (within_clearProgress h)
  simp only [completeCommit]
  split
  · exact changed
  · exact within_afterCompletion (within_clockAnswered changed)

/-- The reply of a request that completes takes the place that was held for it (R196). -/
theorem within_placeReply_requestChanges {tag : Byte} {q r : LedgerRequest} {line : Option ClockId} {v w : Service}
    {y : Reply} (hprog : s.ledger.arbiter.inProgress = some (.host tag q line w)) :
    Within s (placeReply y (requestChanges r v (clearProgress s)).state) := by
  have changed : Within (clearProgress s) (requestChanges r v (clearProgress s)).state :=
    within_requestChanges (.refl _)
  have cleared : placesUsed (clearProgress s) + 1 = placesUsed s := by
    simp only [placesUsed_eq, clearProgress, State.setArbiter, hprog, servedPlace]
    omega
  have places := changed.places
  refine ⟨fun k => reportsKept_placeReply (changed.reports (reportsKept_congr k rfl rfl)) y, ?_, changed.waiting⟩
  rw [placesUsed_placeReply]
  omega

theorem within_completeHost (h : Within u s) {tag : Byte} {q r : LedgerRequest} {line : Option ClockId}
    {v w : Service} (hprog : s.ledger.arbiter.inProgress = some (.host tag q line w)) :
    Within u (completeHost tag r v s) := by
  simp only [completeHost]
  split
  · exact within_requestChanges (within_clearProgress h)
  · have placed := fun y => h.trans (within_placeReply_requestChanges (r := r) (v := v) (y := y) hprog)
    refine within_afterCompletion ?_
    split
    · exact within_releaseAllDeferred (placed _)
    · exact placed _

/-! ## Presses and row replies (R88 to R99, R108 to R112) -/

theorem within_enterDeciding (h : Within u s) : Within u (enterDeciding c s) :=
  within_serveWaiting (within_placeCommit (within_setClock h))

theorem within_collect (h : Within u s) {p : Press} : Within u (collect c p s) := by
  simp only [collect]
  split
  · exact within_refusePress h
  · split
    · exact within_setClock h
    · split
      · exact h
      · split
        · exact within_refusePress (within_setClock h)
        · exact within_refusePress h

theorem within_stopClock (h : Within u s) {p : Press} : Within u (stopClock c p s) := by
  simp only [stopClock]
  split
  · exact within_serveWaiting (within_placeCommit (within_askUpdate (within_of_same h)))
  · exact within_askUpdate (within_setClock h)

theorem within_takePress (h : Within u s) {run tag offset packs : Nat} :
    Within u (takePress d c run tag offset packs s) := by
  have numbered : Within u { s with bus := { s.bus with nextArrival := (s.bus.nextArrival + 1) % 4294967296 } } :=
    within_of_same h
  simp only [takePress]
  split
  · exact within_refusePress numbered
  · split
    · exact within_stopClock numbered
    · exact within_collect numbered

theorem within_unbindDesk (h : Within u s) : Within u (unbindDesk d s) := by
  unfold unbindDesk
  split
  · exact h
  · exact within_of_same h

theorem within_signOn (h : Within u s) : Within u (signOn d n s) := by
  have unbound : Within u (unbindDesk d s) := within_unbindDesk h
  have refused : Within u (refuseSignOn d s) := within_of_same unbound
  unfold signOn
  split
  · split
    · exact refused
    · unfold bindDesk
      split
      · exact h
      · exact within_of_same unbound
  · exact refused

theorem within_takeEvent (h : Within u s) {e : DeskEvent} : Within u (takeEvent e s) := by
  cases e with
  | press d c run tag offset packs =>
    simp only [takeEvent]
    split
    · exact within_takePress h
    · exact h
  | signOn d b =>
    simp only [takeEvent]
    split
    · exact within_signOn h
    · exact h
  | signOff d =>
    simp only [takeEvent]
    split
    · exact within_unbindDesk h
    · exact h

theorem within_takeReply (h : Within u s) {r : RowId} {y : RowReply} : Within u (takeReply r y s) := by
  simp only [takeReply]
  split
  · exact within_goodRow h
  · exact within_foldl (fun _ _ hs => within_takeEvent hs) _ (within_setRow (within_goodRow h))

theorem within_endWait (h : Within u s) {held : Bool} : Within u (endWait held s) := within_of_same h

theorem within_badReply (h : Within u s) {r : RowId} : Within u (badReply r s) :=
  within_endWait (within_missRow (within_setRow h))

/-! ## The hall and the host link (R182 to R191, R195, R197) -/

theorem within_setTime (h : Within u s) : Within u (setTime s) := by
  unfold setTime
  split
  · exact h
  · exact within_eachClock (fun _ _ hs => within_tellClock hs) (within_setHall h)

theorem within_clearTime (h : Within u s) : Within u (clearTime s) := by
  unfold clearTime
  split
  · exact within_eachClock (fun _ _ hs => within_holdClock hs) (within_setHall h)
  · exact h

theorem within_advanceCalendar (h : Within u s) : Within u (advanceCalendar s) := by
  unfold advanceCalendar
  extract_lets old _ advanced _ ended
  have hadvanced : Within u advanced := within_setHall h
  have hended : Within u ended := by
    unfold ended
    split
    · exact within_clearTime hadvanced
    · exact hadvanced
  split
  · split
    · exact within_setHall hadvanced
    · exact hadvanced
  · split
    · exact within_eachClock (fun _ _ hs => within_closeClock hs) (within_raise hended)
    · exact hended

theorem within_changeKey (h : Within u s) {new : KeyPosition} : Within u (changeKey new s) := by
  have changed : Within u (raise (.key s.hall.key new s.hall.calendar)
      { s with hall := { s.hall with key := new, keyCounter := 0, keyRaw := new } }) := within_raise (within_setHall h)
  simp only [changeKey]
  split
  · exact within_eachClock (fun _ _ hs => within_holdClock hs) changed
  · split
    · exact within_eachClock (fun _ _ hs => within_tellClock hs) changed
    · exact changed

theorem within_sampleKey (h : Within u s) {x : KeyPosition} : Within u (sampleKey x s) := by
  unfold sampleKey
  extract_lets hall count
  split
  · exact within_setHall h
  · split
    · exact within_setHall h
    · exact within_changeKey h

theorem within_changeBackup (h : Within u s) {x : BackupSupply} : Within u (changeBackup x s) := by
  unfold changeBackup
  split
  · exact within_raise (within_setHall h)
  · exact within_setHall h

/-- Of the host link, the report queue and what holds a reply place are the same. -/
theorem within_setLink (h : Within u s) {x : HostLink}
    (hreports : x.reports = s.hlp.reports := by rfl) (hnumber : x.reportNumber = s.hlp.reportNumber := by rfl)
    (hlost : x.lostCount = s.hlp.lostCount := by rfl) (henables : x.enables = s.hlp.enables := by rfl)
    (hattention : x.attention = s.hlp.attention := by rfl) (hreplies : x.replies = s.hlp.replies := by rfl)
    (hreset : x.resetting = s.hlp.resetting := by rfl) : Within u { s with hlp := x } :=
  h.trans ⟨fun k => ⟨hreports ▸ k.room, hlost ▸ k.lost, hnumber ▸ k.number, fun hp =>
    hattention.trans ((k.attention hp).trans (by rw [hreports, henables]))⟩,
    by simp only [placesUsed_eq, hreplies, hreset]; exact le_rfl, le_rfl⟩

theorem within_frameArrives (h : Within u s) : Within u (frameArrives s) := by
  have restarted : Within u (restartSupervision
      { s with hlp := { s.hlp with framesGood := countUp top16 s.hlp.framesGood, receiver := .hunting } }) :=
    within_setLink (within_setLink h)
  simp only [frameArrives, restoreHost]
  split
  · exact restarted
  · exact within_eachClock (fun _ _ hs => within_tellClock hs) (within_raise (within_setLink restarted))

theorem within_loseHost (h : Within u s) : Within u (loseHost s) :=
  within_eachClock (fun _ _ hs => within_tellClock hs) (within_raise (within_setLink h))

theorem within_frameFails (h : Within u s) : Within u (frameFails s) := within_setLink h

theorem within_countOverrun (h : Within u s) : Within u (countOverrun s) := within_setLink h

/-! ## Supply failure and starts (R145, R190, R192, R203) -/

/-- With the main supply FAILED attention is not read, and the reply queue is empty (R190, R203). -/
theorem within_failMain (h : Within u s) : Within u (failMain s) :=
  (within_dropWaiting h).trans ⟨fun k => ⟨k.room, k.lost, k.number, nofun⟩,
    by simp only [placesUsed_eq, failMain, resetPlace, dropWaiting, State.setArbiter, List.length_nil]; omega, le_rfl⟩

/-- A start leaves the report queue empty, with nothing lost and attention negated (R203). -/
theorem reportsKept_atStart {now rate : Nat} {x : Supervision} (h : t.hlp = .atStart now rate x) : ReportsKept t := by
  refine ⟨?_, ?_, ?_, fun _ => ?_⟩ <;> rw [h]
  · exact Nat.zero_le _
  · exact Nat.zero_le _
  · exact (by decide : 0 < 65536)
  · rfl

/-- A start leaves the reply queue empty, and nothing at the arbiter (R143, R203). -/
theorem placesUsed_atStart {now rate : Nat} {x : Supervision} (h : t.hlp = .atStart now rate x)
    (harb : t.ledger.arbiter = .atStart) : placesUsed t = 0 := by
  rw [placesUsed_eq, h, harb]
  rfl

theorem within_of_started {now rate : Nat} {x : Supervision} (h : t.hlp = .atStart now rate x)
    (harb : t.ledger.arbiter = .atStart) : Within u t :=
  ⟨fun _ => reportsKept_atStart h, placesUsed_atStart h harb ▸ Nat.zero_le _, harb ▸ Nat.zero_le _⟩

theorem within_reportBackup (h : Within u s) {backup : BackupSupply} : Within u (reportBackup backup s) := by
  cases backup
  · exact h
  · exact within_raise h

theorem within_reportMainFail (h : Within u s) {kind : StartKind} : Within u (reportMainFail kind s) := by
  cases kind
  · exact h
  · exact within_raise h
  · exact h

theorem within_warmStart {kind : StartKind} {mainReturn : Bool} {backup : BackupSupply} :
    Within u (warmStart kind mainReturn backup s) := by
  have values : Within u (warmValues kind backup s) := within_of_started rfl rfl
  unfold warmStart
  extract_lets start reported
  have hreported : Within u reported := by
    unfold reported
    split
    · exact within_reportMainFail values
    · exact values
  exact within_eachClock (fun _ _ hs => within_testDepartures hs) (within_reportBackup hreported)

theorem within_startBySupply {mainReturn : Bool} {backup : BackupSupply} :
    Within u (startBySupply mainReturn backup s) := by
  unfold startBySupply
  split
  · exact within_warmStart
  · exact within_reportBackup (within_of_started rfl rfl)

end Sys2Proof.Machine
end

section
/-! The host link's invariants through every request, its dispatch and its reply (R196), every command, and so through a
step. -/

set_option Elab.async false

namespace Sys2Proof.Machine

open Sys2Proof.Safety

variable {s t u : State} {c : ClockId} {n : Nat} {tag : Byte} {r : Request}

/-! ## Lots and lanes (1.5, 2.2, 2.6) -/

theorem within_doLotEnter (h : Within u s) {a : LotFields} : Within u (doLotEnter a s).state := by
  simp only [doLotEnter]
  split
  · exact h
  · exact h
  · split
    · exact h
    · split
      · exact h
      · exact within_of_same h

theorem within_doLotAmend (h : Within u s) {a : LotAmendment} : Within u (doLotAmend a s).state := by
  simp only [doLotAmend]
  split
  · exact h
  · split
    · split
      · exact h
      · exact within_modLot h
    · exact h

theorem within_doLotRemove (h : Within u s) : Within u (doLotRemove n s).state := by
  simp only [doLotRemove]
  split
  · exact h
  · split
    · exact within_of_same h
    · exact h

theorem within_queuePlaces {train trolley : Nat} (l : List Nat) {place : Nat} (h : Within u s) :
    Within u (queuePlaces c train trolley place l s) := by
  induction l generalizing place s with
  | nil => exact h
  | cons n l ih => exact ih (within_modLot h)

theorem within_queueTrolleys {train : Nat} (l : List TrolleyEntry) {trolley : Nat} (h : Within u s) :
    Within u (queueTrolleys c train trolley l s) := by
  induction l generalizing trolley s with
  | nil => exact h
  | cons x l ih => exact ih (within_queuePlaces x.lots h)

theorem within_doTrainAnnounce (h : Within u s) {a : TrainAnnouncement} : Within u (doTrainAnnounce a s).state := by
  simp only [doTrainAnnounce]
  split
  · exact h
  · exact h
  · split
    · exact h
    · split
      · exact h
      · split
        · exact h
        · exact within_queueTrolleys a.trolleys (within_setLane h)

theorem within_doTrainCancel (h : Within u s) {lane train : Nat} : Within u (doTrainCancel lane train s).state := by
  simp only [doTrainCancel]
  split
  · exact h
  · exact h
  · split
    · exact h
    · split
      · exact within_modLots (within_setLane h)
      · exact h

theorem within_doLaneSet (h : Within u s) {a : LaneSettings} : Within u (doLaneSet a s).state := by
  simp only [doLaneSet]
  split
  · exact h
  · split
    · exact within_setLane h
    · exact within_of_same h

/-! ## Clock requests (R59, R74 to R78) -/

theorem within_setClockParams (h : Within u s) {a : ClockSettings} : Within u (setClockParams a c s).1 := by
  simp only [setClockParams]
  split
  · exact within_setClock h
  · exact h

theorem within_requestHold (h : Within u s) : Within u (requestHold c s).1 := by
  simp only [requestHold]
  split
  · exact h
  · exact h
  · exact within_holdClock h

theorem within_requestResume (h : Within u s) : Within u (requestResume c s).1 := by
  simp only [requestResume]
  split_ifs
  · exact h
  · exact h
  · exact h
  · exact h
  · exact within_askUpdate (within_of_same h)

theorem within_withdrawLot (h : Within u s) : Within u (withdrawLot c s).1 := by
  refine within_endLot ?_
  split
  · exact within_writeNoSale h
  · exact h

theorem within_requestWithdraw (h : Within u s) : Within u (requestWithdraw c s).1 := by
  simp only [requestWithdraw]
  split
  · exact h
  · exact h
  · exact h
  · exact h
  · split
    · exact h
    · exact within_withdrawLot h
  · exact within_withdrawLot h
  · exact within_withdrawLot h
  · exact within_withdrawLot h

theorem within_onClocks {f : ClockStep} (hf : ∀ c s, Within u s → Within u (f c s).1) (h : Within u s) :
    Within u (onClocks n f s).state := by
  simp only [onClocks]
  split
  · exact hf 3 _ (hf 2 _ (hf 1 _ (hf 0 _ h)))
  · split
    · exact h
    · exact hf _ _ h

theorem within_doClockSet (h : Within u s) {a : ClockSettings} : Within u (doClockSet a s).state := by
  simp only [doClockSet]
  split
  · exact h
  · split
    · exact h
    · exact within_onClocks (fun _ _ hs => within_setClockParams hs) h

/-! ## The other requests (R59, R100, R155, R177, R185, R188, R199 to R202) -/

theorem within_doDeskRelease (h : Within u s) : Within u (doDeskRelease n s).state := by
  simp only [doDeskRelease]
  split
  · exact h
  · exact within_unbindDesk h

theorem within_doJournalRelease (h : Within u s) : Within u (doJournalRelease n s).state := by
  unfold doJournalRelease
  extract_lets j freed
  split
  · exact h
  · split
    · exact h
    · show Within u (eachClock tellSpace freed)
      exact within_eachClock (fun _ _ hs => within_tellSpace hs) (within_setJournal h)

theorem within_doBoardSet (h : Within u s) {board period : Nat} : Within u (doBoardSet board period s).state := by
  simp only [doBoardSet]
  split
  · exact h
  · split
    · exact within_setBoard h
    · exact within_of_same h

theorem within_doHallTimeSet (h : Within u s) {time : Stamp} : Within u (doHallTimeSet time s).state := by
  simp only [doHallTimeSet]
  split
  · exact h
  · split
    · exact within_clearTime h
    · exact within_setTime (within_setHall h)

theorem within_doCloseAlarmSet (h : Within u s) {a : Alarm} : Within u (doCloseAlarmSet a s).state := by
  simp only [doCloseAlarmSet]
  split
  · exact h
  · split
    · exact h
    · exact within_setHall h

/-- REPORT-TAKE shortens the queue, empties the lost count and evaluates attention (R199). -/
theorem within_doReportTake (h : Within u s) : Within u (doReportTake n s).state := by
  simp only [doReportTake]
  split
  · refine h.trans ⟨fun k => ⟨?_, Nat.zero_le _, k.number, fun _ => rfl⟩, le_rfl, le_rfl⟩
    exact (List.drop_sublist n _).length_le.trans k.room
  · exact h

/-- REPORT-ENABLE evaluates attention with the enables it sets (R199). -/
theorem within_doReportEnable (h : Within u s) {e : ClassEnables} : Within u (doReportEnable e s).state :=
  h.trans ⟨fun k => ⟨k.room, k.lost, k.number, fun _ => rfl⟩, le_rfl, le_rfl⟩

theorem within_clearStats (h : Within u s) : Within u (clearStats s) :=
  within_of_same (within_setLink h (x := { s.hlp with framesGood := 0, framesBad := 0, overruns := 0 }))
    (by simp only [clearStats]) (by simp only [clearStats]) (by simp only [clearStats])

theorem within_doLinkSet (h : Within u s) {rate : Nat} {x : Option Supervision} :
    Within u (doLinkSet rate x s).state := by
  simp only [doLinkSet]
  split
  · exact h
  · split
    · exact h
    · exact h
    · exact within_setLink h

/-! ## The places of the reply queue (R194, R196) -/

/-- What `u` keeps of the two invariants of the host link, `s` keeps too. -/
structure LinkKeeps (u s : State) : Prop where
  reports : ReportsKept u → ReportsKept s
  replies : RepliesKept u → RepliesKept s

theorem LinkKeeps.trans (h : LinkKeeps u s) (h' : LinkKeeps s t) : LinkKeeps u t :=
  ⟨h'.reports ∘ h.reports, h'.replies ∘ h.replies⟩

theorem Within.linkKeeps (h : Within u s) : LinkKeeps u s :=
  ⟨h.reports, fun k => ⟨h.places.trans k.places, h.waiting.trans k.waiting⟩⟩

theorem LinkKeeps.within (h : LinkKeeps u s) (h' : Within s t) : LinkKeeps u t := h.trans h'.linkKeeps

/-- With a free place, one more reply is completed (R196). -/
theorem linkKeeps_placeReply (hroom : placesUsed s < Config.replyPlaces) (h : Within s t) (y : Reply) :
    LinkKeeps s (placeReply y t) where
  reports k := reportsKept_placeReply (h.reports k) y
  replies k := ⟨by rw [placesUsed_placeReply]; exact Nat.succ_le_of_lt (h.places.trans_lt hroom),
    h.waiting.trans k.waiting⟩

theorem linkKeeps_finish (hroom : placesUsed s < Config.replyPlaces) {a : Answer} (h : Within s a.state)
    {after : AfterReply} : LinkKeeps s (finish tag r after a) := linkKeeps_placeReply hroom h _

/-- A ledger request that joins the list holds its reply place from then on, and finds at most seven before it (R134). -/
theorem linkKeeps_arriveLedger (hroom : placesUsed s < Config.replyPlaces) {q : LedgerRequest} :
    LinkKeeps s (arriveLedger tag q s) := by
  simp only [arriveLedger]
  split
  · exact linkKeeps_placeReply hroom (.refl s) _
  · split
    · exact linkKeeps_placeReply hroom (.refl s) _
    · split
      · exact linkKeeps_placeReply hroom (within_count (.refl s)) _
      · next hlist =>
        refine LinkKeeps.within ⟨fun k => ?_, fun k => ⟨?_, ?_⟩⟩ (within_serveWaiting (.refl _))
        · exact reportsKept_congr k rfl rfl
        · rw [placesUsed_eq] at hroom ⊢
          simp only [State.setArbiter, List.length_append, List.length_singleton]
          omega
        · rw [State.setArbiter_ledger_arbiter, List.length_append, List.length_singleton]
          omega

/-- A CONTROLLER-RESET holds a reply place until its reply is placed (R202). -/
theorem linkKeeps_beginReset (hroom : placesUsed s < Config.replyPlaces) : LinkKeeps s (beginReset tag s) := by
  have dropped : Within s (dropWaiting s) := within_dropWaiting (.refl s)
  have begun : LinkKeeps s { dropWaiting s with hlp := { s.hlp with resetting := some (.waiting tag) } } := by
    refine ⟨fun k => ?_, fun k => ⟨?_, dropped.waiting.trans k.waiting⟩⟩
    · exact ⟨k.room, k.lost, k.number, k.attention⟩
    · have hdropped := dropped.places.trans_lt hroom
      rw [placesUsed_eq] at hdropped ⊢
      simp only [dropWaiting, State.setArbiter, resetPlace] at hdropped ⊢
      omega
  exact begun.within (within_continueReset (.refl _))

/-- A request is dispatched with a free reply place, which it takes or holds (R196). -/
theorem linkKeeps_dispatchRequest (hroom : placesUsed s < Config.replyPlaces) :
    LinkKeeps s (dispatchRequest tag r s) := by
  have h : Within s s := .refl s
  cases r with
  | identify | hallTimeRead | statsRead | unknown => exact linkKeeps_finish hroom h
  | lotEnter a => exact linkKeeps_finish hroom (within_doLotEnter h)
  | lotAmend a => exact linkKeeps_finish hroom (within_doLotAmend h)
  | lotRemove n => exact linkKeeps_finish hroom (within_doLotRemove h)
  | lotQuery q => exact linkKeeps_finish hroom ((doLotQuery_state q).symm ▸ h)
  | trainAnnounce a => exact linkKeeps_finish hroom (within_doTrainAnnounce h)
  | trainCancel lane train => exact linkKeeps_finish hroom (within_doTrainCancel h)
  | laneQuery q => exact linkKeeps_finish hroom ((doLaneQuery_state q).symm ▸ h)
  | laneSet a => exact linkKeeps_finish hroom (within_doLaneSet h)
  | clockSet a => exact linkKeeps_finish hroom (within_doClockSet h)
  | clockQuery n => exact linkKeeps_finish hroom ((doClockQuery_state n).symm ▸ h)
  | clockHold n => exact linkKeeps_finish hroom (within_onClocks (fun _ _ hs => within_requestHold hs) h)
  | clockResume n => exact linkKeeps_finish hroom (within_onClocks (fun _ _ hs => within_requestResume hs) h)
  | clockWithdraw n => exact linkKeeps_finish hroom (within_onClocks (fun _ _ hs => within_requestWithdraw hs) h)
  | clockOpen n => exact linkKeeps_finish hroom (within_onClocks (fun _ _ hs => within_openClock hs) h)
  | deskQuery q => exact linkKeeps_finish hroom ((doDeskQuery_state q).symm ▸ h)
  | deskRelease n => exact linkKeeps_finish hroom (within_doDeskRelease h)
  | ledger q => exact linkKeeps_arriveLedger hroom
  | buyerQuery q => exact linkKeeps_finish hroom ((doBuyerQuery_state q).symm ▸ h)
  | invoiceQuery q => exact linkKeeps_finish hroom ((doInvoiceQuery_state q).symm ▸ h)
  | journalRead start count => exact linkKeeps_finish hroom ((doJournalRead_state start count).symm ▸ h)
  | journalRelease n => exact linkKeeps_finish hroom (within_doJournalRelease h)
  | boardSet board period => exact linkKeeps_finish hroom (within_doBoardSet h)
  | boardQuery n => exact linkKeeps_finish hroom ((doBoardQuery_state n).symm ▸ h)
  | hallTimeSet time => exact linkKeeps_finish hroom (within_doHallTimeSet h)
  | closeAlarmSet a => exact linkKeeps_finish hroom (within_doCloseAlarmSet h)
  | reportTake n => exact linkKeeps_finish hroom (within_doReportTake h)
  | reportEnable e => exact linkKeeps_finish hroom (within_doReportEnable h)
  | statsClear => exact linkKeeps_finish hroom (within_clearStats h)
  | linkSet rate x => exact linkKeeps_finish hroom (within_doLinkSet h)
  | controllerReset => exact linkKeeps_beginReset hroom

theorem linkKeeps_routeRequest (h : LinkKeeps u s) : LinkKeeps u (routeRequest tag r s) := by
  simp only [routeRequest]
  split
  · exact h.within (within_countOverrun (.refl s))
  · split
    · next hroom => exact h.trans (linkKeeps_dispatchRequest hroom)
    · exact h.within (within_setLink (.refl s))

theorem linkKeeps_whenPowered (h : LinkKeeps u s) (ht : LinkKeeps u t) : LinkKeeps u (whenPowered s t) := by
  unfold whenPowered
  split
  · exact ht
  · exact h

theorem linkKeeps_hostRequest (h : LinkKeeps u s) : LinkKeeps u (hostRequest tag r s) :=
  linkKeeps_whenPowered h (linkKeeps_routeRequest (h.within (within_frameArrives (.refl s))))

/-! ## The line's bytes and the replies (R195, R196) -/

theorem linkKeeps_dispatchHeld (h : LinkKeeps u s) : LinkKeeps u (dispatchHeld s) := by
  simp only [dispatchHeld]
  split
  · split
    · next hroom => exact (h.within (within_setLink (.refl s))).trans (linkKeeps_dispatchRequest hroom)
    · exact h
  · exact h

theorem within_afterReply (h : Within u s) {x : AfterReply} {backup : BackupSupply} :
    Within u (afterReply x backup s) := by
  cases x with
  | nothing => exact h
  | newRate rate => exact within_setLink h
  | warmStart => exact within_warmStart

theorem linkKeeps_replyGone (h : LinkKeeps u s) {backup : BackupSupply} : LinkKeeps u (replyGone backup s) := by
  simp only [replyGone]
  split
  · exact h
  · next y rest hreplies =>
    have sent : Within s { s with hlp := { s.hlp with replies := rest } } :=
      ⟨fun k => ⟨k.room, k.lost, k.number, k.attention⟩,
        by simp only [placesUsed_eq, hreplies, List.length_cons]; omega, le_rfl⟩
    exact linkKeeps_dispatchHeld (h.within (within_afterReply sent))

theorem linkKeeps_receiveBytes (h : LinkKeeps u s) {bytes : List LineByte} :
    LinkKeeps u (bytes.foldl (fun s b => receiveByte b s) s) :=
  receiveBytes_keep (fun _ _ s hs => hs.within (within_setLink (.refl s)))
    (fun s hs => hs.within (within_frameFails (.refl s)))
    (fun _ _ s hs => linkKeeps_routeRequest (hs.within (within_frameArrives (.refl s)))) bytes s h

/-! ## Every command -/

theorem after_within (h : Within s t) : After (.next t) (LinkKeeps s) := after_next h.linkKeeps

/-- A command's effect while the main supply is PRESENT. -/
theorem after_whenPowered_within (h : Within s t) : After (.next (whenPowered s t)) (LinkKeeps s) :=
  after_next (linkKeeps_whenPowered (Within.refl s).linkKeeps h.linkKeeps)

theorem linkKeeps_exec (s : State) (i : Instr) : After (exec i s) (LinkKeeps s) := by
  have h : Within s s := .refl s
  have reached : ∀ {e : Nat}, Within s (s.reach e) := within_reach h
  cases i with
  | identify | lotEnter | lotAmend | lotRemove | lotQuery | trainAnnounce | trainCancel | laneQuery | laneSet
  | clockSet | clockQuery | clockHold | clockResume | clockWithdraw | clockOpen | deskQuery | deskRelease
  | buyerEnter | buyerFlags | buyerLimit | buyerRemove | buyerQuery | tariffSet | saleVoid | paymentPost
  | invoiceClose | dayClose | invoiceQuery | journalRead | journalRelease | boardSet | boardQuery | hallTimeSet
  | hallTimeRead | closeAlarmSet | reportTake | reportEnable | statsRead | statsClear | linkSet | controllerReset
  | unknownRequest => exact after_next (linkKeeps_hostRequest h.linkKeeps)
  | frameOverrun =>
    refine after_whenPowered_within ?_
    split
    · exact within_countOverrun (within_frameArrives h)
    · exact h
  | frameBad why =>
    refine after_whenPowered_within ?_
    split
    · exact within_frameFails h
    · exact h
  | receiverIdleTimeout =>
    refine after_whenPowered_within ?_
    split
    · exact h
    · exact within_frameFails reached
  | replySent backup => exact after_next (linkKeeps_whenPowered h.linkKeeps (linkKeeps_replyGone h.linkKeeps))
  | startByteReceived bytes =>
    exact after_next (linkKeeps_whenPowered h.linkKeeps (linkKeeps_receiveBytes h.linkKeeps))
  | supervisionExpiry =>
    refine after_whenPowered_within ?_
    split
    · exact h
    · exact within_loseHost reached
  | ledgerOperationComplete =>
    refine after_within ?_
    split
    · exact h
    · next hprog => exact within_completeHost h hprog
    · exact h
    · exact h
  | saleCommitComplete =>
    refine after_within ?_
    split
    · exact within_completeCommit h
    · exact h
    · exact h
  | saleVoidComplete =>
    refine after_within ?_
    split
    · next hprog => exact within_completeHost h hprog
    · exact h
    · exact h
    · exact h
  | takeLot c =>
    refine after_whenPowered_within ?_
    split
    · exact within_takeLot h
    · exact h
  | previewExpiry c =>
    refine after_whenPowered_within ?_
    split
    · exact within_testNew (within_setClock reached)
    · exact h
  | stepTimerExpiry c =>
    refine after_whenPowered_within ?_
    split
    · exact within_stepClock reached
    · exact h
  | windowExpiry c =>
    refine after_whenPowered_within ?_
    split
    · exact within_enterDeciding reached
    · exact h
  | pauseExpiry c =>
    refine after_whenPowered_within ?_
    split
    · exact within_restartClock reached
    · exact h
  | gateQualifiedChange lane => exact after_whenPowered_within (within_gateChanges h)
  | gapExpiry lane =>
    refine after_whenPowered_within ?_
    split
    · exact h
    · exact within_gapRunsOut reached
  | tickSent =>
    refine after_whenPowered_within ?_
    split
    · exact within_of_same h
    · exact h
    · exact h
    · exact h
  | pollSent =>
    refine after_whenPowered_within ?_
    split
    · exact within_of_same h
    · split
      · exact within_of_same h
      · exact h
    · exact h
    · exact h
  | rowReplyGood reply =>
    refine after_whenPowered_within ?_
    split
    · split
      · exact within_endWait (within_takeReply h)
      · exact within_badReply h
    · exact h
    · exact h
  | rowReplyBad =>
    refine after_whenPowered_within ?_
    split
    · exact within_badReply h
    · exact h
    · exact h
  | rowReplyTimeout part =>
    refine after_whenPowered_within ?_
    split
    · exact within_endWait (within_missRow reached)
    · exact h
    · exact h
  | refreshWindow b =>
    refine after_whenPowered_within (within_of_records (s := nextWindow b s) ?_)
    exact within_setBoard reached
  | boardTransmitEnd b =>
    refine after_whenPowered_within ?_
    split
    · exact within_setBoard h
    · exact h
    · exact h
  | boardAnswerGood b number =>
    have discarded : Within s (discardAnswer b s) := within_setBoard h
    refine after_whenPowered_within ?_
    split
    · split
      · exact within_goodAnswer h
      · exact discarded
    · exact discarded
    · exact discarded
  | boardAnswerBad b => exact after_whenPowered_within (within_setBoard h)
  | boardAnswerTimeout b =>
    refine after_whenPowered_within ?_
    split
    · exact within_missBoard reached
    · exact h
    · exact h
  | calendarAdvance => exact after_within (within_advanceCalendar (within_of_same h))
  | keyQualifiedChange position =>
    refine after_whenPowered_within ?_
    split
    · exact h
    · exact within_changeKey h
  | mainSupplyFail => exact after_whenPowered_within (within_failMain h)
  | mainSupplyAboveThreshold =>
    refine after_within ?_
    split
    · exact within_setHall h
    · exact h
    · exact h
  | mainSupplyReturn backup =>
    refine after_within ?_
    split
    · exact within_startBySupply
    · exact h
    · exact h
  | powerOn backup => exact after_within within_startBySupply
  | backupChange reading =>
    refine after_within ?_
    split
    · exact h
    · exact within_changeBackup h
  | gateSample lane blocked => exact after_whenPowered_within (within_sampleGate h)
  | keySample saleClosed setupClosed => exact after_whenPowered_within (within_sampleKey h)
  | mainSupplyBelowThreshold =>
    refine after_within ?_
    split
    · exact within_setHall h
    · exact within_failMain h
  | deskBusLineIdle =>
    refine after_whenPowered_within ?_
    split
    · exact within_endWait h
    · exact h

theorem within_idle (h : Within u s) : Within u (idle s) := by
  simp only [idle]
  split
  · simp only [goOn]
    split <;> exact within_of_same h
  · exact within_of_same h

/-- A step is the part's own going on, or a command carried out. -/
theorem linkKeeps_step (h : step s = .next t) : LinkKeeps s t := by
  unfold step at h
  split at h
  · cases h
    exact (within_idle (.refl s)).linkKeeps
  · next c rest _ =>
    have taken : Within s { s with pending := rest } := within_of_same (.refl s)
    exact taken.linkKeeps.trans (linkKeeps_exec _ c t h)

/-- Settles O4: the queue grows by reports raised into its room alone, and whatever changes queue or enables evaluates
attention. -/
theorem reportsKeptByStep : Obligations.ReportsKeptByStep := by
  unfold Obligations.ReportsKeptByStep
  exact fun _ _ h hstep => (linkKeeps_step hstep).reports h

/-- Settles O5: a request is dispatched with a free place, which it fills with its reply or holds; a request that completes
gives the place it held to its reply. -/
theorem repliesKeptByStep : Obligations.RepliesKeptByStep := by
  unfold Obligations.RepliesKeptByStep
  exact fun _ _ h hstep => (linkKeeps_step hstep).replies h

end Sys2Proof.Machine
end

section
/-! The state after reset: an empty hall, which keeps every invariant (R16, R38, R83, R105, R143, R165, R193, R203). -/

set_option Elab.async false

namespace Sys2Proof.Machine

open Sys2Proof.Safety

variable {c : ClockId}

/-! ## The records at reset -/

@[simp] theorem reset_clock : State.reset.clock c = .atStart := by simp [State.clock, State.reset]

@[simp] theorem reset_lane : State.reset.lane c = .atStart := by simp [State.lane, State.reset]

@[simp] theorem reset_commits : State.reset.ledger.arbiter.commits.get c = none := by
  simp [State.reset, Ledger.atStart, Arbiter.atStart]

theorem reset_allPlaces : allPlaces State.reset = [] := by simp [allPlaces, Lane.atStart]

/-! ## The invariants at reset -/

theorem repliesKept_reset : RepliesKept State.reset :=
  ⟨(placesUsed_atStart rfl rfl).le.trans (Nat.zero_le _), Nat.zero_le _⟩

theorem creditKept_reset : CreditKept State.reset := creditKept_of_idle .nil (fun _ hb => nomatch hb) rfl

theorem collectionsKept_reset : CollectionsKept State.reset := fun c => by
  rw [reset_clock]
  exact collectionFits_nil

theorem lotsKept_reset : LotsKept State.reset where
  unique := .nil
  held c := by simp [Clock.atStart]
  onClock _ hl := nomatch hl
  once c d _ := .inl (by simp [Clock.atStart])
  bare c _ := by simp [Clock.atStart]
  trains c := by simp [Lane.atStart]
  placed := by simp [reset_allPlaces]
  apart := by simp [reset_allPlaces]
  announced c := by simp [Lane.atStart]

theorem bindingsKept_reset : BindingsKept State.reset :=
  bindingsKept_unbound .nil (fun _ ha => nomatch ha) (busAtStart_binding rfl) rfl

theorem journalKept_reset : JournalKept State.reset where
  order := le_rfl
  room := by decide
  holders _ c h := by simp [Clock.atStart] at h
  served _ _ _ h := nomatch h
  waiting c := by simp

/-- Settles O3: at reset every queue, table and collection is empty, and no clock has a lot or a reservation. -/
theorem keptAtReset : Obligations.KeptAtReset := by
  unfold Obligations.KeptAtReset
  exact ⟨reportsKept_atStart rfl, repliesKept_reset, busAtStart_ticksKept rfl, dateExists_origin, creditKept_reset,
    collectionsKept_reset, lotsKept_reset, bindingsKept_reset, journalKept_reset⟩

end Sys2Proof.Machine
end

section
/-! The Host Link Port's own requests (11.4, 11.5) on a part that is ready for them: REPORT-TAKE, REPORT-ENABLE, IDENTIFY,
the statistics, LINK-SET and CONTROLLER-RESET. -/

set_option Elab.async false

namespace Sys2Proof.Machine

open Sys2Proof.Safety

variable {s : State} {tag : Byte} {n rate : Nat} {x : Option Supervision} {e : ClassEnables}

/-- A ready part dispatches a request as its frame arrives (R196). -/
theorem exec_ready (h : Ready s) (tag : Byte) (r : Request) :
    exec (requestCommand tag r) s = .next (dispatchRequest tag r (framed s)) := by
  rw [exec_requestCommand, hostRequest_ready s h]

/-! ## Reports (R199) -/

/-- The report queue without its first `n` reports, nothing lost and attention evaluated (R199). -/
def reportsTaken (n : Nat) (s : State) : State :=
  { s with hlp := { s.hlp with
      reports := s.hlp.reports.drop n, lostCount := 0,
      attention := attentionOf s.hlp.enables (s.hlp.reports.drop n) } }

theorem doReportTake_inRange (h : 1 ≤ n ∧ n ≤ 8) : doReportTake n s =
    ⟨reportsTaken n s, .ok, .reports s.hlp.lostCount (s.hlp.reports.drop n).length (s.hlp.reports.take n)⟩ :=
  if_pos (inRange_eq_true h)

theorem doReportTake_badField (h : n < 1 ∨ 8 < n) : doReportTake n s = ⟨s, .badField, .field 1⟩ :=
  if_neg (by rw [inRange_eq_false h]; exact Bool.false_ne_true)

theorem reports_answered (hs : Ready s) :
    (1 ≤ n → n ≤ 8 →
      exec (.reportTake tag n) s = .next (replied tag 164 .ok
        (.reports s.hlp.lostCount (s.hlp.reports.drop n).length (s.hlp.reports.take n)) (reportsTaken n (framed s)))) ∧
    (n = 0 ∨ 8 < n → exec (.reportTake tag n) s = .next (replied tag 164 .badField (.field 1) (framed s))) ∧
    exec (.reportEnable tag e) s = .next (replied tag 165 .ok (.enables s.hlp.enables)
      { framed s with hlp := { (framed s).hlp with enables := e, attention := attentionOf e s.hlp.reports } }) := by
  refine ⟨fun h1 h8 => ?_, fun h => ?_, ?_⟩
  · exact exec_of_answer hs tag (.reportTake n) (doReportTake_inRange ⟨h1, h8⟩) rfl
  · exact exec_of_answer hs tag (.reportTake n) (doReportTake_badField (by omega)) rfl
  · exact exec_of_answer hs tag (.reportEnable e) rfl rfl

/-! ## Statistics (R200) -/

theorem clearStats_lane (c : ClockId) : (clearStats s).lane c = { s.lane c with strays := 0 } := mapCells_get ..

theorem clearStats_row (r : RowId) : (clearStats s).row r = { s.row r with
    framesGood := 0, framesBad := 0, pressesLate := 0, pressesRefused := 0, missCount := 0 } := mapCells_get ..

theorem clearStats_board (c : ClockId) : (clearStats s).board c = { s.board c with
    missCount := 0, framesSent := 0, badAnswers := 0 } := mapCells_get ..

theorem clearStats_ticks : (clearStats s).bus.ticks = s.bus.ticks := by simp only [clearStats]

theorem clearStats_activity : (clearStats s).bus.activity = s.bus.activity := by simp only [clearStats]

theorem statsOf_strays (c : ClockId) : (statsOf s).strays.get c = (s.lane c).strays := mapCells_get ..

theorem statsOf_rows (r : RowId) : (statsOf s).rows.get r = rowCounters (s.row r) := mapCells_get ..

theorem statsOf_boards (c : ClockId) : (statsOf s).boards.get c = boardCounters (s.board c) := mapCells_get ..

/-! ## LINK-SET (R201) -/

theorem doLinkSet_key (h : s.hall.key ≠ .setup) : doLinkSet rate x s = ⟨s, .key, .empty⟩ := if_pos h

theorem goodRate_iff :
    goodRate rate = true ↔ rate = 115200 ∨ rate = 230400 ∨ rate = 460800 ∨ rate = 921600 := by
  simp [goodRate, or_assoc]

section
variable (h : s.hall.key = .setup)
include h

theorem doLinkSet_badRate (hr : goodRate rate = false) : doLinkSet rate x s = ⟨s, .badField, .field 1⟩ := by
  simp [doLinkSet, h, linkSetFault, firstFault, faultFrom, hr, badField]

theorem doLinkSet_badSupervision (hr : goodRate rate = true) : doLinkSet rate none s = ⟨s, .badField, .field 2⟩ := by
  simp [doLinkSet, h, linkSetFault, firstFault, faultFrom, hr, badField]

theorem doLinkSet_accepted (hr : goodRate rate = true) {v : Supervision} : doLinkSet rate (some v) s =
    ⟨restartSupervision { s with hlp := { s.hlp with linkRate := rate, supervision := v } }, .ok, .empty⟩ := by
  simp [doLinkSet, h, linkSetFault, firstFault, faultFrom, hr, accept]

end

/-- A LINK-SET that is refused is replied to as it stands: only an accepted one brings a new rate. -/
theorem exec_linkSet_refused (hs : Ready s) {status : Status} {body : ReplyBody}
    (h : doLinkSet rate x (framed s) = ⟨framed s, status, body⟩) (hstatus : status ≠ .ok) :
    exec (.linkSet tag rate x) s = .next (replied tag 168 status body (framed s)) := by
  refine (exec_ready hs tag (.linkSet rate x)).trans (congrArg Host.Outcome.next ?_)
  simp only [dispatchRequest, finish, h, if_neg hstatus]
  rfl

theorem exec_linkSet_accepted (hs : Ready s) (hk : s.hall.key = .setup) (hr : goodRate rate = true)
    {v : Supervision} : exec (.linkSet tag rate (some v)) s = .next { framed s with hlp := { (framed s).hlp with
      linkRate := rate, supervision := v, supervisionEnds := (supervisionTime v).map (s.timebase + ·),
      replies := s.hlp.replies ++
        [{ tag := tag, kind := 168, status := .ok, body := .empty, after := .newRate rate }] } } := by
  refine (exec_ready hs tag (.linkSet rate (some v))).trans (congrArg Host.Outcome.next ?_)
  simp only [dispatchRequest, doLinkSet_accepted (s := framed s) hk hr]
  rfl

/-! ## CONTROLLER-RESET (R202) -/

theorem exec_controllerReset_idle (hs : Ready s) (hidle : s.ledger.arbiter.inProgress = none) :
    exec (.controllerReset tag) s = .next { dropWaiting (framed s) with hlp := { (framed s).hlp with
      resetting := some .replying,
      replies := s.hlp.replies ++
        [{ tag := tag, kind := 169, status := .ok, body := .empty, after := .warmStart }] } } := by
  refine (exec_ready hs tag .controllerReset).trans (congrArg Host.Outcome.next ?_)
  have idle : (dropWaiting (framed s)).ledger.arbiter.inProgress = none := hidle
  simp only [dispatchRequest, beginReset, continueReset, idle]
  rfl

/-! ## The statement -/

/-- Settles O56: each request's owner on the framed state. -/
theorem linkRequests : Obligations.LinkRequests := by
  unfold Obligations.LinkRequests
  refine ⟨fun tag n e s hs => reports_answered hs, fun tag s hs => ⟨?identify, ?stats, ?unknown, ?accepted, ?key, ?rate,
    ?supervision, exec_controllerReset_idle hs⟩⟩
  case identify => exact exec_of_answer hs tag .identify rfl rfl
  case stats =>
    exact ⟨statsOf (framed s), clearStats (framed s), exec_of_answer hs tag .statsRead rfl rfl,
      exec_of_answer hs tag .statsClear rfl rfl, fun c => ⟨statsOf_strays c, clearStats_lane c⟩,
      fun r => ⟨statsOf_rows r, clearStats_row r⟩, rfl, rfl, rfl, rfl,
      fun c => ⟨statsOf_boards c, clearStats_board c⟩, rfl, rfl, rfl, rfl, rfl, rfl, rfl, rfl, rfl,
      clearStats_ticks, clearStats_activity⟩
  case unknown => exact exec_of_answer hs tag .unknown rfl rfl
  case accepted => exact fun rate v hk hr => exec_linkSet_accepted hs hk (goodRate_iff.2 hr)
  case key => exact fun rate x hk => exec_linkSet_refused hs (doLinkSet_key (s := framed s) hk) nofun
  case rate => exact fun rate x hk hr => exec_linkSet_refused hs (doLinkSet_badRate (s := framed s) hk hr) nofun
  case supervision => exact fun rate hk hr => exec_linkSet_refused hs (doLinkSet_badSupervision (s := framed s) hk hr) nofun

end Sys2Proof.Machine
end

section
/-! The receiver of the host link (R195): how far the bytes of a frame have come, what the bytes of the line make of it, and
the frames that are overruns or wait (R196). -/

set_option Elab.async false

namespace Sys2Proof.Machine

open Sys2Proof.Safety

variable {s : State} {f : HostFrame} {b : LineByte} {hi lo : Byte} {bytes more frame : List Byte} {l : List LineByte}
  {spoiled : Bool} {e : Nat} {tag : Byte} {r : Request}

/-! ## How far a frame has come (R195, 11.8.1) -/

/-- With both bytes of the length field in, the length decides. -/
theorem receptionOf_header (x hi lo : Byte) (more : List Byte) : receptionOf (x :: hi :: lo :: more) =
    if 512 < hi.toNat * 256 + lo.toNat then .oversize
    else if hi.toNat * 256 + lo.toNat + 4 ≤ more.length then .whole else .part := by
  simp [receptionOf, readNumber, readFrom]

theorem receptionOf_short (h : more.length < 2) (x : Byte) : receptionOf (x :: more) = .part := by
  match more, h with
  | [], _ => rfl
  | [_], _ => rfl

/-- What stands before the end of an unfinished frame is unfinished. -/
theorem receptionOf_part_of_append {a : List Byte} (h : receptionOf (a ++ more) = .part) : receptionOf a = .part := by
  match a, h with
  | [], _ => rfl
  | [_], _ => rfl
  | [_, _], _ => rfl
  | x :: hi :: lo :: a, h =>
    simp only [List.cons_append, receptionOf_header, List.length_append] at h ⊢
    split_ifs at h ⊢
    · omega
    · rfl

/-- A frame written begins with the start byte and its length, and ends with the check four bytes behind the body. -/
theorem writeHostFrame_header (hbody : f.body.length ≤ 512) : ∃ hi lo more,
    writeHostFrame f = 0xA5 :: hi :: lo :: more ∧ hi.toNat * 256 + lo.toNat = f.body.length ∧
      more.length = f.body.length + 4 := by
  refine ⟨_, _, _, rfl, ?_, ?_⟩
  · simp only [BitVec.toNat_ofNat]
    omega
  · simp [bytesOf]

theorem receptionOf_writeHostFrame (hbody : f.body.length ≤ 512) : receptionOf (writeHostFrame f) = .whole := by
  obtain ⟨hi, lo, more, e, hlen, hmore⟩ := writeHostFrame_header hbody
  rw [e, receptionOf_header, if_neg (by omega), if_pos (by omega)]

/-- A frame that lacks its last byte is unfinished. -/
theorem receptionOf_of_lastMissing (hbody : f.body.length ≤ 512) {x : Byte} (h : bytes ++ [x] = writeHostFrame f) :
    receptionOf bytes = .part := by
  obtain ⟨hi, lo, more, e, hlen, hmore⟩ := writeHostFrame_header hbody
  have hne : more ≠ [] := List.ne_nil_of_length_pos (by omega)
  have split : bytes ++ [x] = (0xA5 :: hi :: lo :: more.dropLast) ++ [more.getLast hne] := by
    rw [h, e, List.cons_append, List.cons_append, List.cons_append, List.dropLast_append_getLast]
  rw [(List.append_inj' split rfl).1, receptionOf_header, List.length_dropLast, if_neg (by omega),
    if_neg (by omega)]

/-! ## Bytes received (R195) -/

/-- The bytes of the line, taken one after another. -/
def receiveBytes (l : List LineByte) (s : State) : State := l.foldl (fun s b => receiveByte b s) s

theorem receiveBytes_singleton (b : LineByte) (s : State) : receiveBytes [b] s = receiveByte b s := rfl

theorem receiveBytes_cons (b : LineByte) (l : List LineByte) (s : State) :
    receiveBytes (b :: l) s = receiveBytes l (receiveByte b s) := rfl

theorem receiveBytes_append (l m : List LineByte) (s : State) :
    receiveBytes (l ++ m) s = receiveBytes m (receiveBytes l s) := List.foldl_append

theorem exec_startByteReceived (h : s.hall.main = .present) (l : List LineByte) :
    exec (.startByteReceived l) s = .next (receiveBytes l s) :=
  congrArg Host.Outcome.next (whenPowered_present h _)

theorem receiveByte_passes (h : s.hlp.receiver = .hunting) (hb : b.value ≠ 0xA5) : receiveByte b s = s := by
  simp only [receiveByte, h]
  exact if_neg hb

theorem receiveByte_begins (h : s.hlp.receiver = .hunting) (hb : b.value = 0xA5) :
    receiveByte b s = keepReceiving [0xA5] b.stopError s := by
  simp [receiveByte, h, Config.hostStartByte, hb]

theorem receiveByte_extends (h : s.hlp.receiver = .receiving frame spoiled e) :
    receiveByte b s = extendFrame (frame ++ [b.value]) (spoiled || b.stopError) s := by
  simp [receiveByte, h]

theorem extendFrame_part (h : receptionOf frame = .part) : extendFrame frame spoiled s = keepReceiving frame spoiled s := by
  simp [extendFrame, h]

theorem extendFrame_oversize (h : receptionOf frame = .oversize) : extendFrame frame spoiled s = frameFails s := by
  simp [extendFrame, h]

/-- The bytes of an unfinished frame are kept (R195). -/
theorem receiveBytes_part (h : receptionOf (frame ++ l.map LineByte.value) = .part) :
    receiveBytes l (keepReceiving frame spoiled s) =
      keepReceiving (frame ++ l.map LineByte.value) (spoiled || l.any LineByte.stopError) s := by
  induction l generalizing frame spoiled with
  | nil => simp [receiveBytes]
  | cons b l ih =>
    rw [List.map_cons, List.append_cons] at h
    have kept : receiveByte b (keepReceiving frame spoiled s) =
        keepReceiving (frame ++ [b.value]) (spoiled || b.stopError) s :=
      (receiveByte_extends rfl).trans (extendFrame_part (receptionOf_part_of_append h))
    rw [receiveBytes_cons, kept, ih h, List.map_cons, ← List.append_cons, List.any_cons, Bool.or_assoc]

/-- The last byte of a frame: what it carries is carried out, or a spoiled frame is counted bad (R195). -/
theorem receiveByte_ends (hkind : f.kind < 256) (hbody : f.body.length ≤ 512)
    (h : s.hlp.receiver = .receiving bytes spoiled e) (hlast : bytes ++ [b.value] = writeHostFrame f) :
    receiveByte b s = if spoiled || b.stopError then frameFails s
      else routeRequest f.tag (requestOf f.kind f.body) (frameArrives s) := by
  rw [receiveByte_extends h, hlast]
  simp only [extendFrame, receptionOf_writeHostFrame hbody, frameEnds, readHostFrame_writeHostFrame f hkind hbody]

/-- The bytes of a whole frame, received at once (R195). -/
theorem receiveBytes_frame (hkind : f.kind < 256) (hbody : f.body.length ≤ 512) (h : s.hlp.receiver = .hunting)
    (hl : l.map LineByte.value = writeHostFrame f) :
    receiveBytes l s = if l.any LineByte.stopError then frameFails s
      else routeRequest f.tag (requestOf f.kind f.body) (frameArrives s) := by
  obtain ⟨hi, lo, more, header, -, hmore⟩ := writeHostFrame_header hbody
  rw [header] at hl
  obtain ⟨start, rest, rfl, hstart, hrest⟩ := List.map_eq_cons_iff.1 hl
  have hne : rest ≠ [] := by
    rintro rfl
    cases hrest
  obtain ⟨mid, last, rfl⟩ := (List.eq_nil_or_concat' rest).resolve_left hne
  have whole : (0xA5 :: mid.map LineByte.value) ++ [last.value] = writeHostFrame f := by
    rw [header, ← hrest]
    simp
  have kept : receiveBytes (start :: mid) s =
      keepReceiving (0xA5 :: mid.map LineByte.value) (start.stopError || mid.any LineByte.stopError) s := by
    rw [receiveBytes_cons, receiveByte_begins h hstart]
    exact receiveBytes_part (receptionOf_of_lastMissing hbody whole)
  rw [← List.cons_append, receiveBytes_append, kept, receiveBytes_singleton, receiveByte_ends hkind hbody rfl whole]
  simp only [List.any_append, List.any_cons, List.any_nil, Bool.or_false]
  rfl

@[simp] theorem clean_values (l : List Byte) : (clean l).map LineByte.value = l := by
  simp [clean, Function.comp_def]

@[simp] theorem clean_any (l : List Byte) : (clean l).any LineByte.stopError = false := by simp [clean]

/-- The first bytes of a frame, received at once (R195). -/
theorem receiveBytes_clean_part (h : s.hlp.receiver = .hunting) (hp : receptionOf (0xA5 :: more) = .part) :
    receiveBytes (clean (0xA5 :: more)) s = keepReceiving (0xA5 :: more) false s := by
  have kept := receiveBytes_part (s := s) (frame := [0xA5]) (spoiled := false) (l := clean more) (by simpa using hp)
  rw [clean_values, clean_any] at kept
  refine Eq.trans ?_ kept
  exact congrArg (receiveBytes (clean more)) (receiveByte_begins h rfl)

/-- A length field above 512 abandons its frame at once (R195). -/
theorem receiveBytes_clean_oversize (h : s.hlp.receiver = .hunting) (hlong : 512 < hi.toNat * 256 + lo.toNat) :
    receiveBytes (clean [0xA5, hi, lo]) s = frameFails s := by
  have begun := receiveBytes_clean_part (more := [hi]) h rfl
  rw [show clean [0xA5, hi, lo] = clean [0xA5, hi] ++ [{ value := lo, stopError := false }] from rfl,
    receiveBytes_append, begun, receiveBytes_singleton, receiveByte_extends rfl, extendFrame_oversize]
  · rfl
  · exact (receptionOf_header ..).trans (if_pos hlong)

/-! ## Requests and frames (R195 to R197) -/

theorem exec_request_present (h : s.hall.main = .present) (tag : Byte) (r : Request) :
    exec (requestCommand tag r) s = .next (routeRequest tag r (frameArrives s)) := by
  rw [exec_requestCommand, hostRequest, whenPowered_present h]

theorem exec_frameBad (h : s.hall.main = .present) {why : FrameFault} (hwhy : hasFault why = true) :
    exec (.frameBad why) s = .next (frameFails s) := by
  refine (congrArg Host.Outcome.next (whenPowered_present h _)).trans ?_
  rw [if_pos hwhy]

theorem exec_receiverIdleTimeout (h : s.hall.main = .present) (hr : s.hlp.receiver = .receiving bytes spoiled e) :
    exec .receiverIdleTimeout s = .next (frameFails (s.reach e)) := by
  refine (congrArg Host.Outcome.next (whenPowered_present h _)).trans ?_
  simp only [hr]

/-- An idle line is due to abandon its frame 1 ms after the frame's last byte (R195). -/
theorem receiverIdleTimeout_due (h : s.hall.main = .present) (hr : s.hlp.receiver = .receiving bytes spoiled e)
    (he : e ≤ s.timebase) : .receiverIdleTimeout ∈ dueCommands s := by
  simp [dueCommands, h, dueAtLink, hr, idleLineEnds, isDue, he]

theorem routeRequest_overrun {t : State} {x : Byte × Request} (h : t.hlp.held = some x) :
    routeRequest tag r t = countOverrun t := by
  simp [routeRequest, h]

theorem exec_frameOverrun (h : s.hall.main = .present) {x : Byte × Request} (hheld : s.hlp.held = some x) :
    exec .frameOverrun s = .next (countOverrun (frameArrives s)) := by
  refine (congrArg Host.Outcome.next (whenPowered_present h _)).trans ?_
  simp [hheld]

/-- A request that finds the reply queue full waits (R196). -/
theorem routeRequest_waits {t : State} (hheld : t.hlp.held = none) (hreset : t.hlp.resetting = none)
    (hfull : 16 ≤ placesUsed t) : routeRequest tag r t = { t with hlp := { t.hlp with held := some (tag, r) } } := by
  simp [routeRequest, hheld, hreset, Config.replyPlaces, Nat.not_lt.2 hfull]

/-! ## The statement -/

/-- In HUNTING: bytes passed over, frames begun, abandoned, carried out and counted bad. -/
theorem framesReceived_hunting (hmain : s.hall.main = .present) (h : s.hlp.receiver = .hunting) :
    (∀ b : LineByte, b.value ≠ 0xA5 → exec (.startByteReceived [b]) s = .next s) ∧
    (∀ spoiled, exec (.startByteReceived [{ value := 0xA5, stopError := spoiled }]) s =
      .next (keepReceiving [0xA5] spoiled s)) ∧
    (∀ more, receptionOf (0xA5 :: more) = .part →
      exec (.startByteReceived (clean (0xA5 :: more))) s = .next (keepReceiving (0xA5 :: more) false s)) ∧
    (∀ hi lo : Byte, 512 < hi.toNat * 256 + lo.toNat →
      exec (.startByteReceived (clean [0xA5, hi, lo])) s = .next (frameFails s)) ∧
    (∀ (f : HostFrame) (l : List LineByte), f.kind < 256 → f.body.length ≤ 512 →
      l.map LineByte.value = writeHostFrame f → exec (.startByteReceived l) s =
        if l.any LineByte.stopError then .next (frameFails s)
        else exec (requestCommand f.tag (requestOf f.kind f.body)) s) := by
  refine ⟨fun b hb => ?_, fun spoiled => ?_, fun more hp => ?_, fun hi lo hlong => ?_, fun f l hkind hbody hl => ?_⟩ <;>
    rw [exec_startByteReceived hmain]
  · exact congrArg Host.Outcome.next (receiveByte_passes h hb)
  · exact congrArg Host.Outcome.next (receiveByte_begins h rfl)
  · rw [receiveBytes_clean_part h hp]
  · rw [receiveBytes_clean_oversize h hlong]
  · rw [receiveBytes_frame hkind hbody h hl, exec_request_present hmain]
    split <;> rfl

/-- In RECEIVING: the frame grows, and its last byte ends it. -/
theorem framesReceived_receiving (hmain : s.hall.main = .present) (h : s.hlp.receiver = .receiving bytes spoiled e) :
    (∀ b : LineByte, receptionOf (bytes ++ [b.value]) = .part → exec (.startByteReceived [b]) s =
      .next (keepReceiving (bytes ++ [b.value]) (spoiled || b.stopError) s)) ∧
    (∀ (b : LineByte) (f : HostFrame), f.kind < 256 → f.body.length ≤ 512 → bytes ++ [b.value] = writeHostFrame f →
      exec (.startByteReceived [b]) s = if spoiled || b.stopError then .next (frameFails s)
        else exec (requestCommand f.tag (requestOf f.kind f.body)) s) := by
  refine ⟨fun b hp => ?_, fun b f hkind hbody hlast => ?_⟩ <;> rw [exec_startByteReceived hmain]
  · exact congrArg Host.Outcome.next ((receiveByte_extends h).trans (extendFrame_part hp))
  · rw [exec_request_present hmain]
    refine (congrArg Host.Outcome.next (receiveByte_ends hkind hbody h hlast)).trans ?_
    split <;> rfl

/-- Settles O57: the receiver collects exactly the bytes before a frame's last one, and the last one hands the frame over
or counts it bad. -/
theorem framesReceived : Obligations.FramesReceived := by
  unfold Obligations.FramesReceived
  intro s hmain
  refine ⟨fun why hwhy => ?bad, fun h => ?hunting, fun bytes spoiled e h => ?receiving, fun x hheld hlink => ?overrun,
    fun tag r hlink hheld hreset hfull => ?waits⟩
  case bad =>
    refine exec_frameBad hmain ?_
    obtain rfl | ⟨n, hn, rfl⟩ | ⟨frame, hframe, rfl⟩ := hwhy
    · rfl
    · exact decide_eq_true hn
    · simp [hasFault, hframe]
  case hunting =>
    obtain ⟨passes, begins, part, oversize, whole⟩ := framesReceived_hunting hmain h
    refine ⟨passes, begins, fun more hmore => part more (receptionOf_short hmore _), fun hi lo more hlen hmore => ?_,
      oversize, fun f hkind hbody => ?_, fun f l hkind hbody hl ⟨b, hb, hspoiled⟩ => ?_⟩
    · refine part _ ?_
      rw [receptionOf_header, if_neg (by omega), if_neg (by omega)]
    · rw [whole f _ hkind hbody (clean_values _), clean_any]
      rfl
    · rw [whole f l hkind hbody hl, if_pos (List.any_eq_true.2 ⟨b, hb, hspoiled⟩)]
      rfl
  case receiving =>
    obtain ⟨part, whole⟩ := framesReceived_receiving hmain h
    refine ⟨exec_receiverIdleTimeout hmain h, receiverIdleTimeout_due hmain h, fun b hi lo more hbytes hlen hmore => ?_,
      fun b f hkind hbody hlast => ⟨fun hclean => ?_, fun hspoiled => ?_⟩⟩
    · refine part b ?_
      rw [hbytes, List.cons_append, List.cons_append, List.cons_append, receptionOf_header, if_neg (by omega),
        if_neg (by simp; omega)]
    · rw [whole b f hkind hbody hlast, hclean]
      rfl
    · rw [whole b f hkind hbody hlast, if_pos hspoiled]
      rfl
  case overrun =>
    have arrived := frameArrives_linked s hlink
    refine ⟨(exec_frameOverrun hmain hheld).trans (by rw [arrived]; rfl), fun tag r => ?_⟩
    rw [exec_request_present hmain, arrived, routeRequest_overrun (t := framed s) hheld]
    rfl
  case waits =>
    rw [exec_request_present hmain, frameArrives_linked s hlink, routeRequest_waits (t := framed s) hheld hreset hfull]

end Sys2Proof.Machine
end

section
/-! A reply sent (R196, R201), and supervision: the host lost, and the link brought back by a valid frame (R197, R79). -/

set_option Elab.async false

namespace Sys2Proof.Machine

open Sys2Proof.Safety

variable {s t u : State} {c d : ClockId} {tag : Byte} {r : Request} {y : Reply} {rest : List Reply}
  {backup : BackupSupply} {e : Nat}

/-! ## A reply sent (R196, R201) -/

/-- The oldest reply has gone, and its place is free (R196). -/
def replyLeft (rest : List Reply) (s : State) : State := { s with hlp := { s.hlp with replies := rest } }

theorem placesUsed_replyLeft (h : s.hlp.replies = y :: rest) : placesUsed (replyLeft rest s) + 1 = placesUsed s := by
  simp only [placesUsed_eq, replyLeft, h, List.length_cons]
  omega

theorem exec_replySent (hmain : s.hall.main = .present) (h : s.hlp.replies = y :: rest) :
    exec (.replySent backup) s = .next (dispatchHeld (afterReply y.after backup (replyLeft rest s))) := by
  refine (congrArg Host.Outcome.next (whenPowered_present hmain _)).trans ?_
  simp only [replyGone, h]
  rfl

theorem dispatchHeld_none (h : s.hlp.held = none) : dispatchHeld s = s := by
  simp only [dispatchHeld, h]

theorem dispatchHeld_room (h : s.hlp.held = some (tag, r)) (hroom : placesUsed s < 16) :
    dispatchHeld s = dispatchRequest tag r { s with hlp := { s.hlp with held := none } } := by
  simp only [dispatchHeld, h]
  exact if_pos hroom

theorem dispatchHeld_full (h : s.hlp.held = some (tag, r)) (hfull : 16 ≤ placesUsed s) : dispatchHeld s = s := by
  simp only [dispatchHeld, h]
  exact if_neg (Nat.not_lt.2 hfull)

/-! ## The link beside the reports (R198) -/

/-- The host link but for what a report raised changes: the queue, the number, the lost count and attention. -/
def linkBeside (h : HostLink) : HostLink := { h with reports := [], reportNumber := 0, lostCount := 0, attention := false }

theorem linkBeside_raise (b : ReportBody) : linkBeside (raise b s).hlp = linkBeside s.hlp := by
  unfold raise
  split
  · split <;> rfl
  · rfl

theorem linkBeside_tellClock : linkBeside (tellClock c s).hlp = linkBeside s.hlp := by
  obtain k | k | ⟨cause, k⟩ | ⟨-, k | k | k⟩ := tellClock_cases c s <;> rw [k]
  · rw [runClock_hlp]
  · rw [enterHeld, askUpdate_hlp, linkBeside_raise]
    rfl
  · rw [runClock_hlp]
    rfl
  · rw [defer_hlp]
  · rfl

theorem linkBeside_told : linkBeside (eachClock tellClock s).hlp = linkBeside s.hlp :=
  eachClock_keeps (fun s => linkBeside s.hlp) fun _ _ => linkBeside_tellClock

/-! ## A change of the link, reported and told (R197) -/

/-- The link takes another state, supervision as given, and the change is reported (R197). -/
def linkTurned (x : LinkState) (ends : Option Nat) (s : State) : State :=
  raise (.hostLost x) { s with hlp := { s.hlp with link := x, supervisionEnds := ends } }

@[simp] theorem linkTurned_clock (x : LinkState) (ends : Option Nat) : (linkTurned x ends s).clock c = s.clock c :=
  raise_clock ..

/-- What a change of the link, with the clocks told of it, leaves of `s` in `t`. -/
structure LinkChanged (x : LinkState) (ends : Option Nat) (s t : State) : Prop where
  link : t.hlp.link = x
  supervisionEnds : t.hlp.supervisionEnds = ends
  replies : t.hlp.replies = s.hlp.replies
  held : t.hlp.held = s.hlp.held
  resetting : t.hlp.resetting = s.hlp.resetting
  overruns : t.hlp.overruns = s.hlp.overruns
  buyers : t.ledger.buyers = s.ledger.buyers
  arbiter : t.ledger.arbiter = s.ledger.arbiter
  timebase : t.timebase = s.timebase
  lots : t.lots = s.lots
  lanes : t.lanes = s.lanes
  hall : t.hall = s.hall

theorem linkChanged_of_beside {x : LinkState} {ends : Option Nat}
    (hhlp : linkBeside t.hlp = linkBeside { s.hlp with link := x, supervisionEnds := ends })
    (hrecords : recordsOf t.ledger = recordsOf s.ledger) (htime : t.timebase = s.timebase) (hlots : t.lots = s.lots)
    (hlanes : t.lanes = s.lanes) (hhall : t.hall = s.hall) : LinkChanged x ends s t := by
  obtain ⟨tables, arbiter⟩ := Prod.mk.inj hrecords
  simp only [linkBeside, HostLink.mk.injEq] at hhlp
  obtain ⟨-, -, -, link, supervisionEnds, -, held, replies, resetting, -, -, -, -, -, -, -, overruns⟩ := hhlp
  exact ⟨link, supervisionEnds, replies, held, resetting, overruns, congrArg Tables.buyers tables, arbiter, htime,
    hlots, hlanes, hhall⟩

theorem linkChanged_told (x : LinkState) (ends : Option Nat) (s : State) :
    LinkChanged x ends s (eachClock tellClock (linkTurned x ends s)) := by
  refine linkChanged_of_beside (linkBeside_told.trans (linkBeside_raise _)) ?_ ?_ ?_ ?_ ?_
  · rw [recordsOf_eachClock fun _ _ => recordsOf_tellClock, linkTurned, raise_ledger]
  all_goals simp [eachClock, linkTurned]

/-- The report of a change of the link stands first of those the change raises. -/
theorem linkTurned_told_report {x : LinkState} {ends : Option Nat} (hon : s.hlp.enables.hall = true)
    (hroom : s.hlp.reports.length < 64) :
    (eachClock tellClock (linkTurned x ends s)).hlp.reports[s.hlp.reports.length]?.map Report.body =
      some (.hostLost x) :=
  report_of_prefix (s := { s with hlp := { s.hlp with link := x, supervisionEnds := ends } }) hon hroom
    eachClock_tellClock_reports_prefix

/-- Where no clock is LOADED the telling does nothing (R63). -/
theorem eachClock_tellClock_notLoaded
    (h : ∀ c, (s.clock c).state ≠ .loaded .new ∧ (s.clock c).state ≠ .loaded .restart) :
    eachClock tellClock s = s := eachClock_stays fun c => tellClock_notLoaded (h c).1 (h c).2

/-! ## The host is lost (R197, R79) -/

theorem exec_supervisionExpiry (hmain : s.hall.main = .present) (he : s.hlp.supervisionEnds = some e) :
    exec .supervisionExpiry s = .next (eachClock tellClock (linkTurned .hostLost none (s.reach e))) := by
  refine (congrArg Host.Outcome.next (whenPowered_present hmain _)).trans ?_
  simp only [he]
  rfl

/-- Without the link a telling reaches a LOADED RESTART clock that holds its reservation alone (R63). -/
theorem tellClock_hostLost (hlink : s.hlp.link = .hostLost)
    (h : (s.clock c).state ≠ .loaded .restart ∨ (s.clock c).reservation = false) : tellClock c s = s := by
  unfold tellClock
  split
  · exact testNew_waits (by simp [newReady, hlink])
  · next hst => rw [if_neg (by simpa [hst] using h)]
  · rfl

theorem linkTurned_hostLost_clock {ends : Option Nat}
    (h : (s.clock c).state ≠ .loaded .restart ∨ (s.clock c).reservation = false) :
    (eachClock tellClock (linkTurned .hostLost ends s)).clock c = s.clock c := by
  refine (eachClock_tellClock_stays fun u hu => ?_).trans (linkTurned_clock ..)
  have clock := (clock_of_tested hu).trans (linkTurned_clock ..)
  refine tellClock_hostLost ((link_of_tested hu).trans ?_) (by rwa [clock])
  exact raise_hlp_link ..

/-- Settles O58: the place of the reply sent is what a held request waits for; the loss of the host is told to clocks
that test without the link. -/
theorem replySentAndHostLost : Obligations.ReplySentAndHostLost := by
  unfold Obligations.ReplySentAndHostLost
  refine ⟨fun tag r s hs => exec_ready hs tag r, fun backup s hmain => ⟨fun y rest hheld h hafter => ?sent,
    fun y rest rate hheld h hafter => ?rate, fun y rest tag q hheld h hafter => ⟨fun hroom => ?room, fun hfull => ?full⟩,
    fun e he => ?lost⟩⟩
  case sent =>
    rw [exec_replySent hmain h, hafter]
    exact congrArg _ (dispatchHeld_none (s := replyLeft rest s) hheld)
  case rate =>
    rw [exec_replySent hmain h, hafter]
    exact congrArg _ (dispatchHeld_none (s := afterReply (.newRate rate) backup (replyLeft rest s)) hheld)
  case room =>
    have places := placesUsed_replyLeft h
    rw [exec_replySent hmain h, hafter]
    exact congrArg _ (dispatchHeld_room (s := replyLeft rest s) hheld (by omega))
  case full =>
    have places := placesUsed_replyLeft h
    rw [exec_replySent hmain h, hafter]
    exact congrArg _ (dispatchHeld_full (s := replyLeft rest s) hheld (by omega))
  case lost =>
    have expired := exec_supervisionExpiry hmain he
    have changed := linkChanged_told .hostLost none (s.reach e)
    refine ⟨fun hidle => ?_, _, expired, changed.timebase, changed.link, changed.supervisionEnds, changed.replies,
      changed.held, fun hon hroom => linkTurned_told_report (s := s.reach e) hon hroom,
      fun c hc => linkTurned_hostLost_clock (s := s.reach e) hc, changed.lots, changed.lanes, changed.buyers,
      changed.hall⟩
    rw [expired, eachClock_tellClock_notLoaded fun c => by simp [hidle c]]
    rfl

/-! ## A valid frame brings the link back (R197, R79) -/

theorem raise_framed (b : ReportBody) : raise b (framed s) = framed (raise b s) := by
  by_cases hon : classOn s.hlp.enables b.cls = true
  · by_cases hroom : s.hlp.reports.length < Config.reportPlaces
    · simp only [raise, framed_enables, framed_reports, hon, hroom, if_true]
      rfl
    · simp only [raise, framed_enables, framed_reports, hon, hroom, if_true, if_false]
      rfl
  · simp only [raise, framed_enables, hon, Bool.false_eq_true, if_false]

/-- The end of the supervision time that a valid frame starts (R197). -/
def supervisedUntil (s : State) : Option Nat := (supervisionTime s.hlp.supervision).map (s.timebase + ·)

theorem frameArrives_hostLost (h : s.hlp.link = .hostLost) :
    frameArrives s = eachClock tellClock (linkTurned .linked (supervisedUntil s) (framed s)) := by
  simp only [frameArrives, restartSupervision, restoreHost, h]
  rfl

/-- The link back before the frame, or the frame before the link: with no clock to tell it is the same. -/
theorem linkTurned_framed : linkTurned .linked (supervisedUntil s) (framed s) =
    framed (raise (.hostLost .linked) { s with hlp := { s.hlp with link := .linked } }) := by
  rw [← raise_framed]
  rfl

theorem placesUsed_congr (hreplies : t.hlp.replies = s.hlp.replies) (hreset : t.hlp.resetting = s.hlp.resetting)
    (harb : t.ledger.arbiter = s.ledger.arbiter) : placesUsed t = placesUsed s := by
  rw [placesUsed_eq, placesUsed_eq, hreplies, hreset, harb]

theorem routeRequest_dispatched (hheld : s.hlp.held = none) (hreset : s.hlp.resetting = none)
    (hroom : placesUsed s < 16) : routeRequest tag r s = dispatchRequest tag r s := by
  simp [routeRequest, hheld, hreset, Config.replyPlaces, hroom]

/-- The one LOADED NEW clock runs as the link comes back, and no other clock is reached (R79, R65). -/
theorem linkTurned_linked_clocks {ends : Option Nat} (hst : (s.clock c).state = .loaded .new)
    (hp : (s.clock c).previewEnds = none) (hready : hallReady s c = true) (hday : dayCloseRuns s = false)
    (hroom : grantable s = true)
    (hothers : ∀ d, d ≠ c → (s.clock d).state ≠ .loaded .new ∧ (s.clock d).state ≠ .loaded .restart) :
    (eachClock tellClock (linkTurned .linked ends s)).clocks = (s.setClock c { s.clock c with
      state := .running, k := 0, reservation := true, asked := false,
      stepTimer := .running (s.timebase + periodOf (s.clock c).params 0) }).clocks := by
  have turned : ∀ d, (linkTurned .linked ends s).clock d = s.clock d := fun d => linkTurned_clock ..
  have hlink : (linkTurned .linked ends s).hlp.link = .linked := raise_hlp_link ..
  have hledger : (linkTurned .linked ends s).ledger = s.ledger := raise_ledger ..
  have grants : GrantsFirst c (linkTurned .linked ends s) := by
    refine ⟨fun d hd => by rw [turned]; exact (hothers d hd).1, ?_, ?_⟩
    · rwa [dayCloseRuns_congr hledger]
    · rwa [grantable_congr (fun d => by rw [turned]) hledger]
  have ready : hallReady (linkTurned .linked ends s) c = true := by
    rw [hallReady, linkTurned, raise_hall, raise_board]
    exact hready
  have others : ∀ d, d ≠ c → (eachClock tellClock (linkTurned .linked ends s)).clock d = s.clock d := fun d hd => by
    refine (eachClock_tellClock_stays fun u hu => ?_).trans (turned d)
    have clock := (clock_of_tested hu).trans (turned d)
    obtain ⟨hnew, hrestart⟩ := hothers d hd
    exact tellClock_notLoaded (by rwa [clock]) (by rwa [clock])
  rw [clocks_eq_set others, eachClock_tellClock_new_runs (by rwa [turned]) (by rwa [turned]) ready hlink grants, turned,
    linkTurned, raise_timebase]
  rfl

/-- Settles O59: the frame's arrival turns the link and tells the clocks, and the request is routed on the state after
that. -/
theorem hostRestored : Obligations.HostRestored := by
  unfold Obligations.HostRestored
  intro s hmain hlost
  have arrived := frameArrives_hostLost hlost
  have changed := linkChanged_told .linked (supervisedUntil s) (framed s)
  refine ⟨fun hnone tag r => ?unloaded, fun x hheld => ?overrun,
    fun c hheld hreset hplaces hst hp hkey honline htime hday hroom hothers => ?loaded⟩
  case unloaded =>
    have rests := eachClock_tellClock_notLoaded (s := linkTurned .linked (supervisedUntil s) (framed s))
      fun c => by rw [linkTurned_clock]; exact hnone c
    have hback := frameArrives_linked (raise (.hostLost .linked) { s with hlp := { s.hlp with link := .linked } })
      (raise_hlp_link ..)
    rw [exec_request_present hmain, exec_request_present (by rw [raise_hall]; exact hmain), arrived, rests, hback,
      linkTurned_framed]
  case overrun =>
    have told := linkTurned_told_report (s := framed s) (x := .linked) (ends := supervisedUntil s)
    refine ⟨_, exec_frameOverrun hmain hheld, ?_⟩
    rw [arrived]
    generalize eachClock tellClock (linkTurned .linked (supervisedUntil s) (framed s)) = t at changed told ⊢
    exact ⟨changed.link, congrArg (countUp 65535) changed.overruns, changed.held.trans hheld, changed.replies,
      changed.supervisionEnds, told⟩
  case loaded =>
    refine ⟨frameArrives s, fun tag r => ?_, ?_⟩
    · rw [exec_request_present hmain, arrived, routeRequest_dispatched]
      · exact changed.held.trans hheld
      · exact changed.resetting.trans hreset
      · rwa [placesUsed_congr (s := framed s) changed.replies changed.resetting changed.arbiter]
    · rw [arrived]
      refine ⟨changed.link, ?_, changed.replies, changed.lots, changed.lanes, changed.hall⟩
      exact linkTurned_linked_clocks (s := framed s) hst hp (hallReady_iff.2 ⟨hkey, honline, htime⟩) hday hroom hothers

end Sys2Proof.Machine
end

section
/-! The queue of waiting commands through every operation (log entry 2): none of them reads or writes it, and a cold
start, which empties all else, takes it over. -/

set_option Elab.async false

namespace Sys2Proof.Machine

variable {s t : State} (u : State)

/-! ## Operations made on every clock, on a list, or under a guard -/

theorem eachClock_pending {f : ClockId → State → State} (hf : ∀ s c, (f c s).pending = s.pending) :
    (eachClock f u).pending = u.pending := eachClock_keeps State.pending hf

theorem foldl_pending {α : Type} {f : State → α → State} (hf : ∀ s a, (f s a).pending = s.pending)
    (l : List α) : (l.foldl f u).pending = u.pending := by
  induction l generalizing u with
  | nil => rfl
  | cons a l ih => exact (ih (f u a)).trans (hf u a)

theorem whenPowered_pending (h : t.pending = s.pending) : (whenPowered s t).pending = s.pending := by
  unfold whenPowered
  split
  · exact h
  · rfl

/-! ## The records (chapters 7 and 8) -/

theorem RecordsOnly.pending (h : RecordsOnly s t) : t.pending = s.pending := by
  obtain ⟨clocks, lots, ledger, boards, rfl, -⟩ := h
  rfl

@[simp] theorem clearProgress_pending : (clearProgress u).pending = u.pending := rfl

@[simp] theorem commitChanges_pending (c : ClockId) (r : CommitRequest) (a : CommitAnswer) :
    (commitChanges c r a u).pending = u.pending := by
  cases a with
  | accepted f => exact recordsOnly_writeSale.pending
  | refused x => rfl

@[simp] theorem requestChanges_pending (r : LedgerRequest) (v : Service) :
    (requestChanges r v u).state.pending = u.pending := by
  cases v with
  | refuse status body => rfl
  | go => exact (recordsOnly_applyRequest r).pending

@[simp] theorem settleInProgress_pending : (settleInProgress u).pending = u.pending := by
  unfold settleInProgress
  split <;> simp

/-! ## The arbiter (R134, R135, R145, R202) -/

@[simp] theorem serveChoice_pending (x : Choice) : (serveChoice x u).pending = u.pending := by
  obtain ⟨a, h⟩ := serveChoice_eq_setArbiter x u
  rw [h, State.setArbiter_pending]

@[simp] theorem serveWaiting_pending : (serveWaiting u).pending = u.pending := by
  obtain ⟨a, h⟩ := serveWaiting_eq_setArbiter u
  rw [h, State.setArbiter_pending]

@[simp] theorem placeCommit_pending (c : ClockId) : (placeCommit c u).pending = u.pending := by
  obtain ⟨a, h⟩ := placeCommit_eq_setArbiter c u
  rw [h, State.setArbiter_pending]

@[simp] theorem dropWaiting_pending : (dropWaiting u).pending = u.pending := rfl

@[simp] theorem continueReset_pending : (continueReset u).pending = u.pending := by
  unfold continueReset
  split <;> rfl

@[simp] theorem afterCompletion_pending (x : Choice) : (afterCompletion x u).pending = u.pending := by
  simp [afterCompletion]

/-! ## The clock's part in a completion (R116 to R120) -/

@[simp] theorem allRefused_pending (c : ClockId) : (allRefused c u).pending = u.pending := by
  unfold allRefused
  split <;> simp

@[simp] theorem reportCredit_pending (c : ClockId) (r : CommitRequest) (x : CommitRefusal) :
    (reportCredit c r x u).pending = u.pending := by
  unfold reportCredit
  split <;> simp

@[simp] theorem clockRefused_pending (c : ClockId) (r : CommitRequest) (x : CommitRefusal) :
    (clockRefused c r x u).pending = u.pending := by
  simp only [clockRefused]
  split <;> simp

@[simp] theorem desksTold_pending (c : ClockId) (r : CommitRequest) : (desksTold c r u).pending = u.pending := by
  obtain ⟨b, h⟩ := desksTold_eq_bus c r u
  rw [h, State.setClock_pending]

@[simp] theorem enterSold_pending (c : ClockId) (price : Nat) : (enterSold c price u).pending = u.pending := by
  simp [enterSold]

@[simp] theorem clockAccepted_pending (c : ClockId) (r : CommitRequest) (f : SaleFigures) (seq : Nat) :
    (clockAccepted c r f seq u).pending = u.pending := by
  cases hlot : u.lot r.lot with
  | none => rw [clockAccepted_noLot hlot, desksTold_pending]
  | some l =>
    simp only [clockAccepted_lot hlot]
    split <;> simp

@[simp] theorem clockAnswered_pending (c : ClockId) (r : CommitRequest) (a : CommitAnswer) :
    (clockAnswered c r a u).pending = u.pending := by
  cases a with
  | accepted f => exact clockAccepted_pending ..
  | refused x => exact clockRefused_pending ..

/-! ## Completions (R134, R138, R152) -/

@[simp] theorem releaseAllDeferred_pending : (releaseAllDeferred u).pending = u.pending :=
  foldl_pending _ (fun s c => releaseDeferred_pending s c) _

@[simp] theorem completeCommit_pending (c : ClockId) (r : CommitRequest) (a : CommitAnswer) :
    (completeCommit c r a u).pending = u.pending := by
  simp only [completeCommit]
  split <;> simp

@[simp] theorem completeHost_pending (tag : Byte) (r : LedgerRequest) (v : Service) :
    (completeHost tag r v u).pending = u.pending := by
  simp only [completeHost]
  split
  · simp
  · rw [afterCompletion_pending]
    split <;> simp

/-! ## Presses and row replies (R88 to R99, R108 to R112) -/

@[simp] theorem enterDeciding_pending (c : ClockId) : (enterDeciding c u).pending = u.pending := by
  simp [enterDeciding]

@[simp] theorem collect_pending (c : ClockId) (p : Press) : (collect c p u).pending = u.pending := by
  simp only [collect]
  split
  · simp
  · split
    · simp
    · split
      · rfl
      · split <;> simp

@[simp] theorem stopClock_pending (c : ClockId) (p : Press) : (stopClock c p u).pending = u.pending := by
  simp only [stopClock]
  split <;> simp

@[simp] theorem takePress_pending (d : DeskId) (c : ClockId) (run tag offset packs : Nat) :
    (takePress d c run tag offset packs u).pending = u.pending := by
  simp only [takePress]
  split
  · simp
  · split <;> simp

@[simp] theorem takeEvent_pending (e : DeskEvent) : (takeEvent e u).pending = u.pending := by
  cases e with
  | press | signOn | signOff =>
    simp only [takeEvent]
    split <;> simp

@[simp] theorem takeReply_pending (r : RowId) (y : RowReply) : (takeReply r y u).pending = u.pending := by
  simp only [takeReply]
  split
  · exact goodRow_pending ..
  · rw [foldl_pending _ (fun s e => takeEvent_pending s e), State.setRow_pending, goodRow_pending]

@[simp] theorem badReply_pending (r : RowId) : (badReply r u).pending = u.pending := by
  simp [badReply]

@[simp] theorem tickGone_pending (rest : List Tick) : (tickGone rest u).pending = u.pending := by
  simp [tickGone]

@[simp] theorem pollGone_pending (p : Poll) : (pollGone p u).pending = u.pending := rfl

/-! ## The hall (R25, R182 to R191) -/

@[simp] theorem setTime_pending : (setTime u).pending = u.pending := by
  unfold setTime
  split
  · rfl
  · exact eachClock_pending _ fun s c => tellClock_pending s c

@[simp] theorem clearTime_pending : (clearTime u).pending = u.pending := by
  unfold clearTime
  split
  · exact eachClock_pending _ fun s c => holdClock_pending s c _
  · rfl

@[simp] theorem fireAlarm_pending : (fireAlarm u).pending = u.pending :=
  (eachClock_pending _ fun s c => closeClock_pending s c).trans (raise_pending ..)

@[simp] theorem advanceCalendar_pending : (advanceCalendar u).pending = u.pending := by
  unfold advanceCalendar
  extract_lets old _ advanced _ ended
  have hended : ended.pending = u.pending := by
    unfold ended
    split
    · exact clearTime_pending advanced
    · rfl
  split
  · split <;> rfl
  · split
    · exact (fireAlarm_pending ended).trans hended
    · exact hended

@[simp] theorem changeKey_pending (new : KeyPosition) : (changeKey new u).pending = u.pending := by
  simp only [changeKey]
  split
  · rw [eachClock_pending _ fun s c => holdClock_pending s c _, raise_pending]
  · split
    · rw [eachClock_pending _ fun s c => tellClock_pending s c, raise_pending]
    · exact raise_pending ..

@[simp] theorem sampleKey_pending (x : KeyPosition) : (sampleKey x u).pending = u.pending := by
  unfold sampleKey
  extract_lets hall count
  split
  · rfl
  · split
    · rfl
    · exact changeKey_pending ..

@[simp] theorem sampleGate_pending (c : ClockId) (blocked : Bool) : (sampleGate c blocked u).pending = u.pending := by
  simp only [sampleGate]
  split
  · rfl
  · split
    · rfl
    · exact gateChanges_pending ..

@[simp] theorem changeBackup_pending (x : BackupSupply) : (changeBackup x u).pending = u.pending := by
  unfold changeBackup
  split <;> simp

/-! ## The host link (R195, R197) -/

@[simp] theorem restartSupervision_pending : (restartSupervision u).pending = u.pending := rfl

@[simp] theorem loseHost_pending : (loseHost u).pending = u.pending :=
  (eachClock_pending _ fun s c => tellClock_pending s c).trans (raise_pending ..)

@[simp] theorem restoreHost_pending : (restoreHost u).pending = u.pending := by
  unfold restoreHost
  split
  · rfl
  · rw [eachClock_pending _ fun s c => tellClock_pending s c, raise_pending]

@[simp] theorem frameArrives_pending : (frameArrives u).pending = u.pending := by
  simp [frameArrives]

@[simp] theorem frameFails_pending : (frameFails u).pending = u.pending := rfl

@[simp] theorem countOverrun_pending : (countOverrun u).pending = u.pending := rfl

/-! ## Supply failure and starts (R190, R192, R193) -/

@[simp] theorem failMain_pending : (failMain u).pending = u.pending := rfl

@[simp] theorem reportBackup_pending (backup : BackupSupply) : (reportBackup backup u).pending = u.pending :=
  reportBackup_keeps State.pending fun s b => raise_pending s b

@[simp] theorem reportMainFail_pending (kind : StartKind) : (reportMainFail kind u).pending = u.pending := by
  unfold reportMainFail
  split <;> simp

@[simp] theorem warmValues_pending (kind : StartKind) (backup : BackupSupply) :
    (warmValues kind backup u).pending = u.pending := settleInProgress_pending u

@[simp] theorem warmStart_pending (kind : StartKind) (mainReturn : Bool) (backup : BackupSupply) :
    (warmStart kind mainReturn backup u).pending = u.pending := by
  rw [warmStart_eq_eachClock, eachClock_pending _ fun s c => testDepartures_pending s c, warmReported,
    reportBackup_pending]
  split <;> simp

/-- What no start empties: the commands that wait outside the part. -/
@[simp] theorem coldStart_pending (backup : BackupSupply) : (coldStart backup u).pending = u.pending := by
  simp [coldStart]

@[simp] theorem startBySupply_pending (mainReturn : Bool) (backup : BackupSupply) :
    (startBySupply mainReturn backup u).pending = u.pending := by
  unfold startBySupply
  split <;> simp

end Sys2Proof.Machine
end

section
/-! The queue of waiting commands through every host request, every command, and so through a step: O1 and O2. -/

set_option Elab.async false

namespace Sys2Proof.Machine

variable {s t : State} (u : State)

/-! ## Lots and lanes (1.5, 2.2, 2.6) -/

@[simp] theorem doLotEnter_pending (a : LotFields) : (doLotEnter a u).state.pending = u.pending := by
  simp only [doLotEnter]
  split
  · rfl
  · rfl
  · split
    · rfl
    · split <;> rfl

@[simp] theorem doLotAmend_pending (a : LotAmendment) : (doLotAmend a u).state.pending = u.pending := by
  simp only [doLotAmend]
  split
  · rfl
  · split
    · split <;> rfl
    · rfl

@[simp] theorem doLotRemove_pending (n : Nat) : (doLotRemove n u).state.pending = u.pending := by
  simp only [doLotRemove]
  split
  · rfl
  · split <;> rfl

@[simp] theorem queuePlaces_pending (c : ClockId) (train trolley place : Nat) (l : List Nat) :
    (queuePlaces c train trolley place l u).pending = u.pending := by
  induction l generalizing place u with
  | nil => rfl
  | cons n l ih => exact (ih ..).trans (State.modLot_pending ..)

@[simp] theorem queueTrolleys_pending (c : ClockId) (train trolley : Nat) (l : List TrolleyEntry) :
    (queueTrolleys c train trolley l u).pending = u.pending := by
  induction l generalizing trolley u with
  | nil => rfl
  | cons x l ih => exact (ih ..).trans (queuePlaces_pending ..)

@[simp] theorem doTrainAnnounce_pending (a : TrainAnnouncement) : (doTrainAnnounce a u).state.pending = u.pending := by
  simp only [doTrainAnnounce]
  split
  · rfl
  · rfl
  · split
    · rfl
    · split
      · rfl
      · split
        · rfl
        · exact queueTrolleys_pending ..

@[simp] theorem doTrainCancel_pending (lane train : Nat) : (doTrainCancel lane train u).state.pending = u.pending := by
  simp only [doTrainCancel]
  split
  · rfl
  · rfl
  · split
    · rfl
    · split
      · exact modLots_pending ..
      · rfl

@[simp] theorem doLaneSet_pending (a : LaneSettings) : (doLaneSet a u).state.pending = u.pending := by
  simp only [doLaneSet]
  split
  · rfl
  · split <;> rfl

/-! ## Clocks (R59, R74 to R78) -/

/-- A clock request keeps the queue where its part at each clock does. -/
theorem onClocks_pending {f : ClockStep} (hf : ∀ c s, (f c s).1.pending = s.pending) (n : Nat) :
    (onClocks n f u).state.pending = u.pending := by
  simp only [onClocks]
  split
  · simp only [hf]
  · split
    · rfl
    · exact hf ..

@[simp] theorem doClockSet_pending (a : ClockSettings) : (doClockSet a u).state.pending = u.pending := by
  have atOne (c : ClockId) (s : State) : (setClockParams a c s).1.pending = s.pending := by
    simp only [setClockParams]
    split <;> rfl
  simp only [doClockSet]
  split
  · rfl
  · split
    · rfl
    · exact onClocks_pending u atOne _

@[simp] theorem doClockHold_pending (n : Nat) : (doClockHold n u).state.pending = u.pending := by
  refine onClocks_pending u (fun c s => ?_) n
  simp only [requestHold]
  split
  · rfl
  · rfl
  · exact holdClock_pending ..

@[simp] theorem resumeClock_pending (c : ClockId) : (resumeClock c u).pending = u.pending := by
  simp [resumeClock]

@[simp] theorem doClockResume_pending (n : Nat) : (doClockResume n u).state.pending = u.pending := by
  refine onClocks_pending u (fun c s => ?_) n
  simp only [requestResume]
  split_ifs
  · rfl
  · rfl
  · rfl
  · rfl
  · exact resumeClock_pending ..

@[simp] theorem withdrawLot_pending (c : ClockId) : (withdrawLot c u).1.pending = u.pending := by
  simp only [withdrawLot, endLot_pending]
  split <;> simp

@[simp] theorem doClockWithdraw_pending (n : Nat) : (doClockWithdraw n u).state.pending = u.pending := by
  refine onClocks_pending u (fun c s => ?_) n
  simp only [requestWithdraw]
  split
  · rfl
  · rfl
  · rfl
  · rfl
  · split
    · rfl
    · exact withdrawLot_pending ..
  · exact withdrawLot_pending ..
  · exact withdrawLot_pending ..
  · exact withdrawLot_pending ..

@[simp] theorem doClockOpen_pending (n : Nat) : (doClockOpen n u).state.pending = u.pending :=
  onClocks_pending u (fun c s => openClock_pending s c) n

/-! ## Desks, journal and boards (R100, R155, R177) -/

@[simp] theorem doDeskRelease_pending (n : Nat) : (doDeskRelease n u).state.pending = u.pending := by
  simp only [doDeskRelease]
  split
  · rfl
  · exact unbindDesk_pending ..

@[simp] theorem doJournalRelease_pending (n : Nat) : (doJournalRelease n u).state.pending = u.pending := by
  unfold doJournalRelease
  extract_lets j freed
  split
  · rfl
  · split
    · rfl
    · exact eachClock_pending freed fun s c => tellSpace_pending s c

@[simp] theorem doBoardSet_pending (board period : Nat) : (doBoardSet board period u).state.pending = u.pending := by
  simp only [doBoardSet]
  split
  · rfl
  · split <;> rfl

/-! ## Hall Services and the host link (R185, R188, R199 to R201) -/

@[simp] theorem doHallTimeSet_pending (time : Stamp) : (doHallTimeSet time u).state.pending = u.pending := by
  simp only [doHallTimeSet]
  split
  · rfl
  · split
    · exact clearTime_pending ..
    · exact setTime_pending ..

@[simp] theorem doCloseAlarmSet_pending (a : Alarm) : (doCloseAlarmSet a u).state.pending = u.pending := by
  simp only [doCloseAlarmSet]
  split
  · rfl
  · split <;> rfl

@[simp] theorem doReportTake_pending (n : Nat) : (doReportTake n u).state.pending = u.pending := by
  simp only [doReportTake]
  split <;> rfl

@[simp] theorem doLinkSet_pending (rate : Nat) (x : Option Supervision) :
    (doLinkSet rate x u).state.pending = u.pending := by
  simp only [doLinkSet]
  split
  · rfl
  · split <;> rfl

/-! ## Dispatch (R134, R196, R202) -/

/-- The reply joins the reply queue; the waiting commands are the answer's. -/
theorem finish_pending (tag : Byte) (r : Request) (after : AfterReply) (a : Answer) :
    (finish tag r after a).pending = a.state.pending := rfl

@[simp] theorem arriveLedger_pending (tag : Byte) (r : LedgerRequest) : (arriveLedger tag r u).pending = u.pending := by
  simp only [arriveLedger]
  split
  · rfl
  · split
    · rfl
    · split
      · rfl
      · exact serveWaiting_pending _

@[simp] theorem beginReset_pending (tag : Byte) : (beginReset tag u).pending = u.pending :=
  (continueReset_pending _).trans (dropWaiting_pending u)

@[simp] theorem dispatchRequest_pending (tag : Byte) (r : Request) : (dispatchRequest tag r u).pending = u.pending := by
  cases r with
  | identify | hallTimeRead | statsRead | unknown | reportEnable | statsClear => rfl
  | lotQuery | laneQuery | clockQuery | deskQuery | buyerQuery | invoiceQuery | journalRead | boardQuery =>
    simp only [dispatchRequest, finish_pending, doLotQuery_state, doLaneQuery_state, doClockQuery_state,
      doDeskQuery_state, doBuyerQuery_state, doInvoiceQuery_state, doJournalRead_state, doBoardQuery_state]
  | ledger q => exact arriveLedger_pending ..
  | controllerReset => exact beginReset_pending ..
  | lotEnter | lotAmend | lotRemove | trainAnnounce | trainCancel | laneSet | clockSet | clockHold | clockResume
  | clockWithdraw | clockOpen | deskRelease | journalRelease | boardSet | hallTimeSet | closeAlarmSet | reportTake
  | linkSet => simp [dispatchRequest, finish_pending]

@[simp] theorem routeRequest_pending (tag : Byte) (r : Request) : (routeRequest tag r u).pending = u.pending := by
  simp only [routeRequest]
  split
  · rfl
  · split
    · exact dispatchRequest_pending ..
    · rfl

@[simp] theorem hostRequest_pending (tag : Byte) (r : Request) : (hostRequest tag r u).pending = u.pending :=
  whenPowered_pending (by simp)

/-! ## The line's bytes and the replies (R195, R196) -/

theorem receiveBytes_pending (bytes : List LineByte) :
    (bytes.foldl (fun s b => receiveByte b s) u).pending = u.pending :=
  receiveBytes_keep (P := fun s => s.pending = u.pending) (fun _ _ _ h => h) (fun _ h => h)
    (fun _ _ _ h => by simpa using h) bytes u rfl

@[simp] theorem afterReply_pending (x : AfterReply) (backup : BackupSupply) :
    (afterReply x backup u).pending = u.pending := by
  cases x with
  | nothing | newRate rate => rfl
  | warmStart => exact warmStart_pending ..

@[simp] theorem dispatchHeld_pending : (dispatchHeld u).pending = u.pending := by
  simp only [dispatchHeld]
  split
  · split <;> simp
  · rfl

@[simp] theorem replyGone_pending (backup : BackupSupply) : (replyGone backup u).pending = u.pending := by
  simp only [replyGone]
  split <;> simp

/-! ## Boards (R172, R174) -/

@[simp] theorem nextWindow_pending (b : ClockId) : (nextWindow b u).pending = u.pending := rfl

@[simp] theorem awaitAnswer_pending (b : ClockId) (f : BoardFrame) : (awaitAnswer b f u).pending = u.pending := rfl

/-! ## Every command -/

theorem keepsQueue_next (h : t.pending = s.pending) :
    ∃ v, (.next t : Host.Outcome State Fault Refusal) = .next v ∧ v.pending = s.pending := ⟨t, rfl, h⟩

/-- A command's effect while the main supply is PRESENT. -/
theorem keepsQueue_whenPowered (h : t.pending = s.pending) :
    ∃ v, (.next (whenPowered s t) : Host.Outcome State Fault Refusal) = .next v ∧ v.pending = s.pending :=
  keepsQueue_next (whenPowered_pending h)

theorem keepsQueue_exec (i : Instr) (s : State) : ∃ t, exec i s = .next t ∧ t.pending = s.pending := by
  cases i with
  | identify | lotEnter | lotAmend | lotRemove | lotQuery | trainAnnounce | trainCancel | laneQuery | laneSet
  | clockSet | clockQuery | clockHold | clockResume | clockWithdraw | clockOpen | deskQuery | deskRelease
  | buyerEnter | buyerFlags | buyerLimit | buyerRemove | buyerQuery | tariffSet | saleVoid | paymentPost
  | invoiceClose | dayClose | invoiceQuery | journalRead | journalRelease | boardSet | boardQuery | hallTimeSet
  | hallTimeRead | closeAlarmSet | reportTake | reportEnable | statsRead | statsClear | linkSet | controllerReset
  | unknownRequest => exact keepsQueue_next (hostRequest_pending ..)
  | frameOverrun | frameBad | receiverIdleTimeout | supervisionExpiry =>
    refine keepsQueue_whenPowered ?_
    split <;> simp
  | replySent backup => exact keepsQueue_whenPowered (replyGone_pending ..)
  | startByteReceived bytes => exact keepsQueue_whenPowered (receiveBytes_pending ..)
  | ledgerOperationComplete | saleCommitComplete | saleVoidComplete =>
    refine keepsQueue_next ?_
    split <;> simp
  | takeLot | previewExpiry | stepTimerExpiry | windowExpiry | pauseExpiry =>
    refine keepsQueue_whenPowered ?_
    split <;> simp [previewRunsOut]
  | gateQualifiedChange lane => exact keepsQueue_whenPowered (gateChanges_pending ..)
  | gateSample lane blocked => exact keepsQueue_whenPowered (sampleGate_pending ..)
  | gapExpiry | tickSent | rowReplyBad | rowReplyTimeout | deskBusLineIdle | boardTransmitEnd
  | boardAnswerTimeout | keyQualifiedChange =>
    refine keepsQueue_whenPowered ?_
    split <;> simp
  | pollSent =>
    refine keepsQueue_whenPowered ?_
    split
    · exact pollGone_pending ..
    · split
      · exact pollGone_pending ..
      · rfl
    · rfl
    · rfl
  | rowReplyGood reply =>
    refine keepsQueue_whenPowered ?_
    split
    · split
      · exact (endWait_pending ..).trans (takeReply_pending ..)
      · exact badReply_pending ..
    · rfl
    · rfl
  | refreshWindow b => exact keepsQueue_whenPowered ((refreshBoard_pending ..).trans (nextWindow_pending s b))
  | boardAnswerGood b number =>
    refine keepsQueue_whenPowered ?_
    split
    · split
      · exact goodAnswer_pending ..
      · exact discardAnswer_pending ..
    · exact discardAnswer_pending ..
    · exact discardAnswer_pending ..
  | boardAnswerBad b => exact keepsQueue_whenPowered (discardAnswer_pending ..)
  | calendarAdvance => exact keepsQueue_next (advanceCalendar_pending _)
  | keySample saleClosed setupClosed => exact keepsQueue_whenPowered (sampleKey_pending ..)
  | mainSupplyFail => exact keepsQueue_whenPowered (failMain_pending _)
  | mainSupplyAboveThreshold | mainSupplyBelowThreshold | mainSupplyReturn | backupChange =>
    refine keepsQueue_next ?_
    split <;> simp
  | powerOn backup => exact keepsQueue_next (startBySupply_pending ..)

/-- Settles O2: every command answers a next state, and none of the operations it is made of touches the queue. -/
theorem execKeepsQueue : Obligations.ExecKeepsQueue := by
  unfold Obligations.ExecKeepsQueue
  exact keepsQueue_exec

/-- A step of a part with a command at the front of its queue carries that command out on what is left. -/
theorem step_cons {c : Instr} {rest : List Instr} (h : s.pending = c :: rest) :
    step s = exec c { s with pending := rest } := by
  unfold step
  rw [h]

/-- Settles O1: the step's case of a queue that is not empty. -/
theorem stepRunsFront : Obligations.StepRunsFront := by
  unfold Obligations.StepRunsFront
  intro c rest s
  exact step_cons rfl

end Sys2Proof.Machine
end
